-- ==== Sys2Proof/Word.lean ====
section
/-! DEFINITION. The word types of the block: a register, a byte of memory, and a device-time instant. -/
namespace Sys2Proof

/-- A BAR0 register (R88, R136, ...). -/
abbrev Word32 := BitVec 32

/-- A byte of memory (R11). -/
abbrev Byte := BitVec 8

end Sys2Proof
end

