-- ==== Sys2Proof/Machine/Inputs.lean ====
section
/-! DEFINITION. What a command brings from outside the block: samples, packets, readings, the outcomes of measurements
and of accesses to host memory. All of it is plain data carried by the commands of Syntax. -/
namespace Sys2Proof

/-- Who writes a register (R17, R418): host software, or Quill firmware. -/
inductive Master where
  | host | quill
  deriving DecidableEq, Repr

/-- What an encoder channel's front end delivers in one tick (R53): the 16 sine/cosine samples after calibration gain, or the
levels of A and B at the 400 decoder samples of the tick (100 MHz) and, for each of the 16 sample instants, whether a receiver
input lay below 200 mV. A sine/cosine sample that is not given is (0, 0); levels that are not given hold. -/
structure ChanIn where
  sc : List (Int × Int) := []
  ab : List (Bool × Bool) := []
  low : List Bool := []
  deriving DecidableEq, Repr

/-- What the training of the PCIe link settles, and what host software writes to the configuration space (R413, R414): the
rate and the width, Max_Payload_Size and Max_Read_Request_Size in bytes, MSI-X Enable and Function Mask, ASPM L1, and the bases of
the three BARs. The values are those of the space after a reset: PRESUMED (PCIe), log entry 77. -/
structure PcieCfg where
  gen : Nat := 4
  width : Nat := 8
  mps : Nat := 128
  mrrs : Nat := 512
  msixEn : Bool := false
  msixMask : Bool := false
  aspmL1 : Bool := false
  bar0 : Nat := 0
  bar2 : Nat := 0
  bar4 : Nat := 0
  deriving DecidableEq, Repr

/-- What a control tick brings (R25 to R30): the channels' samples, how many items of the work list were started before
the next boundary, the instant within the tick at which the list was complete, the corrected reads of Bank D,
the word of Bank D at which an uncorrectable error was met, and the supply readings of R534 in mV where the tick updates them. With it
come two changes for which the table has no row: of the PCIe link and its configuration space (log entry 77), and whether the JTAG port
holds an instruction that drives the boundary-scan cells (R604, log entry 64). -/
structure TickIn where
  chans : List ChanIn := []
  ran : Nat := 1000
  done : Nat := 0
  corrD : Nat := 0
  uncorrD : Option Nat := none
  volt : Option (Nat × Nat) := none
  pcie : Option PcieCfg := none
  scan : Option Bool := none
  deriving DecidableEq, Repr

/-- A position between two samples (R67, R72): the motion in steps from the last measured position to the samples before
and after, and the DT from the first of them to the instant. -/
structure Between where
  dt : Nat
  d0 : Int
  d1 : Int
  num : Nat
  deriving DecidableEq, Repr

/-- An edge at the index input (R72): its polarity, for how many DT the level was held, and its instant. -/
structure EdgeIn where
  rising : Bool := true
  held : Nat := 200
  at_ : Between
  deriving DecidableEq, Repr

/-- A completed absolute word (R66, R67): the bits received, the error and warning bits, the CRC received, the capture,
the device time of the BiSS-C start bit, and the instant at which the word was complete. -/
structure AbsIn where
  word : Nat
  ew : Nat
  crc : Nat
  cap : Between
  start : Nat := 0
  done : Nat
  deriving DecidableEq, Repr

/-- What a back-channel packet of a Type L head says once its bytes are read (R270): its TYPE, ROW, REASON and sequence number,
whether its CRC passes, and the fields of its body. -/
structure BcIn where
  ty : Nat := 1
  row : Nat := 0
  reason : Nat := 0
  seq : Nat := 0
  crcOk : Bool := true
  pcnt : Nat := 0
  trim : Option (Nat × Nat) := none
  temps : List Int := []
  status : Nat := 0
  data : List Nat := []
  lock : Nat := 0
  deriving DecidableEq, Repr

/-- The ECC errors that the reads of one command meet (R393 to R395): the bank of each word corrected, and the bank and the word
address of one that is uncorrectable. -/
structure EccIn where
  corr : List Nat := []
  bad : Option (Nat × Nat) := none
  deriving DecidableEq, Repr

/-- What a descriptor fetch asks for and meets (R355, R356, R393): the holding-buffer blocks it asks for, and the ECC errors of its
reads. -/
structure DmaReq where
  blk : Nat := 0
  ecc : EccIn := {}
  deriving DecidableEq, Repr

/-- What the data reads of a descriptor bring (R351, R393): the bytes read from host memory, and the ECC errors of its other reads. -/
structure DmaReads where
  data : List Nat := []
  ecc : EccIn := {}
  deriving DecidableEq, Repr

/-- What a Type S port receives of a head's record (R327): the bytes of the two sequential reads, and the acknowledge of every byte of
the transfer. -/
structure RecordIn where
  first : List Nat := []
  second : List Nat := []
  acks : List Bool := []
  deriving DecidableEq, Repr

/-- What the drop gate shows of a probe (R296 to R298): the baseline, and the samples of DG at 100 MHz, both in mV. The
first sample is the `start`-th after the probe's MAIN rising; DG is at the baseline where no sample is given. With it, the ECC errors
that the unit's reads of Bank N meet. -/
structure GateIn where
  base : Nat
  start : Nat := 0
  dg : List Nat := []
  ecc : EccIn := {}
  deriving DecidableEq, Repr

/-- The four raw reads of 72 bits of one OTP word (R549): three at normal sense margin and one at strict margin. -/
structure OtpRead where
  word : Nat
  n1 : Nat := 0
  n2 : Nat := 0
  n3 : Nat := 0
  strict : Nat := 0
  deriving DecidableEq, Repr

/-- A Mboca frame as a port receives it: its bytes in order (R486), and the device times in 1/16 DT that the port takes at
the ball (R487, R494): `t2` at its arrival and `t3` as the answer to a SYNC_REQ leaves. -/
structure MFrame where
  bytes : List Nat
  t2 : Nat := 0
  t3 : Nat := 0
  deriving DecidableEq, Repr

/-- What a calibration measures (R544, R565): RREF relative to nominal in unsigned 2.14, the items that fail, and the values
found for the units that pass. -/
structure CalIn where
  rref : Nat := 0x4000
  temp : Int := 0
  encFail : Nat := 0
  tsFail : Nat := 0
  skewFail : Nat := 0
  lvdsFail : Nat := 0
  tbFail : Bool := false
  tb : Nat := 0
  gains : List (Nat × Nat) := []
  refs : List Nat := []
  skew : List Int := []
  term : List Nat := []
  ts : List Nat := []
  deriving DecidableEq, Repr

end Sys2Proof
end

