-- ==== Sys2Proof/Syntax.lean ====
section
/-! DEFINITION. The commands of the block: one constructor per row of the opcode table, with what the row brings from outside. -/
namespace Sys2Proof

/-- The commands. -/
inductive Instr where
  /-- VMAIN_GOOD (R597). -/
  | vmainGood
  /-- UNDER_VOLTAGE_LOCKOUT (R509). -/
  | underVoltageLockout
  /-- SWITCHOVER (R512). -/
  | switchover (vmain : Nat) (vbkp : Nat)
  /-- RETURN_MAIN (R514). -/
  | returnMain
  /-- PARK_N_ASSERTED (R515). -/
  | parkNAsserted
  /-- SYS_RST_N (R602). -/
  | sysRstN
  /-- OVER_TEMPERATURE_RESET (R608). -/
  | overTemperatureReset
  /-- FUNCTION_LEVEL_RESET (R420). -/
  | functionLevelReset (down : Bool)
  /-- PARK_SEQUENCE_START (R516). -/
  | parkSequenceStart
  /-- PARK_HORIZON (R126). -/
  | parkHorizon
  /-- PARK_DONE (R516). -/
  | parkDone
  /-- CONTROLLER_RESET_RELEASE (R535). -/
  | controllerResetRelease
  /-- OTP_START_READ (R549). -/
  | otpStartRead (reads : List OtpRead)
  /-- OTP_DIGEST_CHECK (R555). -/
  | otpDigestCheck
  /-- START_CALIBRATION_DONE (R544). -/
  | startCalibrationDone (found : CalIn)
  /-- FIRMWARE_VERIFY (R541). -/
  | firmwareVerify
  /-- READY (R535). -/
  | ready
  /-- ENUMERATION_COMPLETE (R536). -/
  | enumerationComplete
  /-- IDLE_DELAY_EXPIRY (R37). -/
  | idleDelayExpiry
  /-- SERVICE_WORK_COMPLETE (R40). -/
  | serviceWorkComplete
  /-- IDLE_SELECT (R526). -/
  | idleSelect (service : Option Nat)
  /-- IDLE_WAKE_START (R527). -/
  | idleWakeStart
  /-- IDLE_WAKE_DONE (R37). -/
  | idleWakeDone
  /-- QUILL_WATCHDOG_EXPIRY (R33). -/
  | quillWatchdogExpiry
  /-- LOOP_PARITY_ERROR (R33). -/
  | loopParityError
  /-- CONTROL_TICK (R25). -/
  | controlTick (t : TickIn)
  /-- TICK_OVERRUN (R29). -/
  | tickOverrun
  /-- SPEED_SQUASH (R229). -/
  | speedSquash (i : Nat)
  /-- SHARE_OK_SET (R112). -/
  | shareOkSet (i : Nat)
  /-- ENC_LOSS (R79). -/
  | encLoss (k : Nat)
  /-- ENC_FREEZE (R80). -/
  | encFreeze (k : Nat)
  /-- ENC_RECOVERY (R83). -/
  | encRecovery (k : Nat)
  /-- TRACK_FAULT (R84). -/
  | trackFault (k : Nat)
  /-- ENC_FAULT_RECOVERY (R68). -/
  | encFaultRecovery (k : Nat)
  /-- ENC_QUALIFIED (R68). -/
  | encQualified (k : Nat)
  /-- ENC_QUALIFY_TIMEOUT (R68). -/
  | encQualifyTimeout (k : Nat)
  /-- ABS_READ (R69). -/
  | absRead (k : Nat) (r : AbsIn)
  /-- ABS_TIMEOUT (R66). -/
  | absTimeout (k : Nat)
  /-- ABS_CHECK (R70). -/
  | absCheck (k : Nat)
  /-- INDEX_EDGE (R72). -/
  | indexEdge (k : Nat) (i : EdgeIn)
  /-- REVERSED_CLEAR (R76). -/
  | reversedClear (k : Nat)
  /-- ENC_ACQ (R68). -/
  | encAcq (m : Master) (k : Nat)
  /-- ENC_MODE_OFF (R68). -/
  | encModeOff (m : Master) (k : Nat)
  /-- LOCK_POINT (R120). -/
  | lockPoint (i : Nat) (ecc : EccIn)
  /-- LINE_TRANSFER_START (R262). -/
  | lineTransferStart (i : Nat)
  /-- TYPE_S_LATCH (R265). -/
  | typeSLatch (i : Nat)
  /-- STROBE_FIRE (R259). -/
  | strobeFire (i : Nat)
  /-- ACK_DEADLINE (R272). -/
  | ackDeadline (i : Nat)
  /-- ONE_SHOT_TRIP (R278). -/
  | oneShotTrip (n : Nat) (pin : Nat)
  /-- CURSOR_LINE_COMPUTE (R220). -/
  | cursorLineCompute (i : Nat) (bad : Bool) (ecc : EccIn)
  /-- MAP_COMMIT_ACCEPT (R193). -/
  | mapCommitAccept (p : Nat)
  /-- PROBE_WINDOW_CLOSE (R306). -/
  | probeWindowClose (n : Nat) (g : GateIn)
  /-- HEAD_BAR_AT_PAGE_END (R341). -/
  | headBarAtPageEnd (n : Nat)
  /-- SCREEN_LINE (R164). -/
  | screenLine (p : Nat) (corr : List Nat) (bad : Option (Nat × Nat))
  /-- SCR_COMMIT (R153). -/
  | scrCommit (m : Master) (p : Nat)
  /-- SCR_PAUSE (R181). -/
  | scrPause (m : Master) (p : Nat) (on : Bool)
  /-- SCR_RESET (R181). -/
  | scrReset (m : Master) (p : Nat)
  /-- SCR_STRIP_PUSH (R152). -/
  | scrStripPush (m : Master) (p : Nat) (count : Nat)
  /-- SCR_STALL_CLEAR (R182). -/
  | scrStallClear (m : Master) (p : Nat)
  /-- JOB_RUNNING (R149). -/
  | jobRunning (p : Nat)
  /-- JOB_ARM_DELAY_EXPIRY (R149). -/
  | jobArmDelayExpiry (p : Nat)
  /-- JOB_END (R149). -/
  | jobEnd (p : Nat)
  /-- DCT_PLANE_ARM (R103). -/
  | dctPlaneArm (m : Master) (p : Nat)
  /-- DCT_PLANE_HALT (R103). -/
  | dctPlaneHalt (m : Master) (p : Nat)
  /-- NZP_COMMIT (R193). -/
  | nzpCommit (m : Master) (p : Nat)
  /-- DMA_CH_START (R343). -/
  | dmaChStart (m : Option Master) (c : Nat)
  /-- DMA_DOORBELL (R344). -/
  | dmaDoorbell (m : Master) (c : Nat) (limit : Nat)
  /-- DMA_DESCRIPTOR_FETCH (R349). -/
  | dmaDescriptorFetch (c : Nat) (host : Option (List Nat)) (src : Option (List Nat)) (dst : Option (List Nat)) (req : DmaReq)
  /-- DMA_DESCRIPTOR_COMPLETE (R360). -/
  | dmaDescriptorComplete (c : Nat) (r : DmaReads)
  /-- DMA_BUS_ERR (R363). -/
  | dmaBusErr (c : Nat) (cause : Nat) (addr : Nat)
  /-- DMA_READ_TIMEOUT (R363). -/
  | dmaReadTimeout (c : Nat) (addr : Nat)
  /-- DMA_DISABLE (R369). -/
  | dmaDisable (m : Master) (c : Nat)
  /-- DMA_DRAIN_END (R369). -/
  | dmaDrainEnd (c : Nat)
  /-- DMA_ENABLE (R369). -/
  | dmaEnable (m : Master) (c : Nat)
  /-- DMA_GHALT_CLEAR (R364). -/
  | dmaGhaltClear (m : Master)
  /-- ALIAS_BIT_SET (R390). -/
  | aliasBitSet (m : Nat) (a : Nat) (k : Nat) (data : Nat)
  /-- ALIAS_BIT_CLEAR (R390). -/
  | aliasBitClear (m : Nat) (a : Nat) (k : Nat) (data : Nat)
  /-- BAR2_ACCESS (R416). -/
  | bar2Access (a : Nat) (k : Nat) (data : Option (List Nat)) (ecc : Option Bool)
  /-- BAR4_ACCESS (R417). -/
  | bar4Access (off : Nat) (k : Nat) (data : Option (List Nat))
  /-- SRAM_SCRUB_WINDOW (R400). -/
  | sramScrubWindow (b : Nat) (corr : Nat) (uncorr : Option Nat)
  /-- DRAM_SCRUB (R401). -/
  | dramScrub (corr : Nat) (uncorr : Option Nat)
  /-- BIST_WINDOW (R402). -/
  | bistWindow (fail : Bool) (aborted : Bool) (at_ : Nat)
  /-- MEM_BIST_GO (R410). -/
  | memBistGo (m : Master) (sel : Nat)
  /-- MEM_BIST_ABORT (R410). -/
  | memBistAbort (m : Master)
  /-- RETENTION_ENTER (R396). -/
  | retentionEnter (m : Master) (banks : Nat)
  /-- RETENTION_WAKE (R397). -/
  | retentionWake (m : Master) (banks : Nat)
  /-- BANK_AWAKE (R397). -/
  | bankAwake (j : Nat)
  /-- L_OFF_SET (R398). -/
  | lOffSet (m : Master)
  /-- L_OFF_CLEAR (R398). -/
  | lOffClear (m : Master)
  /-- L_INIT_DONE (R398). -/
  | lInitDone
  /-- OTP_REREAD (R551). -/
  | otpReread (reads : List (Nat × Nat × Nat))
  /-- Z1_GO (R428). -/
  | z1Go (irq : Bool) (ind : Option (List Nat))
  /-- Z2_PUSH (R429). -/
  | z2Push (q : Nat) (v : Nat) (ind : Option (List Nat))
  /-- Z2_POP (R429). -/
  | z2Pop (q : Nat)
  /-- Z3_SQ_DOORBELL (R432). -/
  | z3SqDoorbell (q : Nat) (v : Nat)
  /-- Z3_CQ_DOORBELL (R434). -/
  | z3CqDoorbell (q : Nat) (v : Nat)
  /-- Z3_FETCH (R432). -/
  | z3Fetch (q : Nat) (msg : Option (List Nat)) (ind : Option (List Nat))
  /-- QP_MODE_OFF (R426). -/
  | qpModeOff (q : Nat)
  /-- QP_DRAIN_END (R426). -/
  | qpDrainEnd (q : Nat)
  /-- MSIX_COALESCE_EXPIRY (R436). -/
  | msixCoalesceExpiry (v : Nat)
  /-- DIAG_SESSION_TIMEOUT (R419). -/
  | diagSessionTimeout
  /-- REGISTER_WRITE (R15). -/
  | registerWrite (m : Master) (off : Nat) (v : Nat) (full : Bool)
  /-- LATCHING_READ (R99). -/
  | latchingRead (off : Nat)
  /-- RC_READ (R15). -/
  | rcRead (off : Nat)
  /-- ADMIT_STOP_CLEAR (R31). -/
  | admitStopClear (causes : Nat)
  /-- HEAD_DETECT (R257). -/
  | headDetect (n : Nat)
  /-- DETECT_TIMEOUT (R257). -/
  | detectTimeout (n : Nat)
  /-- LINK_TIMEOUT (R257). -/
  | linkTimeout (n : Nat)
  /-- RECORD_READ_DONE (R329). -/
  | recordReadDone (n : Nat) (data : Option RecordIn)
  /-- HEAD_LOSS_TIMEOUT (R277). -/
  | headLossTimeout (n : Nat)
  /-- TYPE_S_POLL (R277). -/
  | typeSPoll (n : Nat) (ack : Bool)
  /-- HP_RESTART (R286). -/
  | hpRestart (m : Master) (n : Nat)
  /-- BC_ACK (R272). -/
  | bcAck (n : Nat) (pkt : List Nat)
  /-- BC_NAK (R272). -/
  | bcNak (n : Nat) (pkt : List Nat)
  /-- BC_TEMP (R275). -/
  | bcTemp (n : Nat) (pkt : List Nat)
  /-- BC_MGMT (R328). -/
  | bcMgmt (n : Nat) (pkt : List Nat)
  /-- BC_LINK (R270). -/
  | bcLink (n : Nat) (pkt : List Nat)
  /-- TYPE_S_TEMP_MEASURE (R276). -/
  | typeSTempMeasure (n : Nat) (dv : Int)
  /-- TRIM_GO (R273). -/
  | trimGo (m : Master) (n : Nat)
  /-- TRIM_FRAME_TIMEOUT (R273). -/
  | trimFrameTimeout (n : Nat) (lane : Nat) (sq : Nat)
  /-- HP_WDOG_CLEAR (R292). -/
  | hpWdogClear (m : Master) (n : Nat) (bits_ : Nat)
  /-- STROBE_SELF_TEST (R280). -/
  | strobeSelfTest (m : Master) (n : Nat) (pass : Bool)
  /-- USAGE_WRITE_BACK (R335). -/
  | usageWriteBack (n : Nat) (trailer : Option (List Nat))
  /-- WRITE_BACK_DONE (R336). -/
  | writeBackDone (n : Nat) (readBack : Option (List Nat))
  /-- MBOCA_LINK_SEND (R485). -/
  | mbocaLinkSend (pt : Nat)
  /-- MBOCA_LINK_FRAME (R485). -/
  | mbocaLinkFrame (pt : Nat) (f : MFrame)
  /-- MBOCA_LINK_DOWN (R485). -/
  | mbocaLinkDown (pt : Nat) (timeout : Bool)
  /-- MBOCA_RETRY (R485). -/
  | mbocaRetry (pt : Nat)
  /-- ANNOUNCE_SEND (R491). -/
  | announceSend
  /-- ANNOUNCE (R491). -/
  | announce (pt : Nat) (f : MFrame)
  /-- MASTER_ELECTION (R492). -/
  | masterElection
  /-- SYNC_REQ_SEND (R494). -/
  | syncReqSend
  /-- SYNC_REQ (R494). -/
  | syncReq (pt : Nat) (f : MFrame) (t2 : Nat) (t3 : Nat)
  /-- SYNC_RESP (R494). -/
  | syncResp (pt : Nat) (f : MFrame) (t4 : Nat)
  /-- CHAIN_COAST_TIMEOUT (R495). -/
  | chainCoastTimeout
  /-- OBS (R500). -/
  | obs (pt : Nat) (f : MFrame)
  /-- EVT (R502). -/
  | evt (pt : Nat) (f : MFrame)
  /-- MSG (R503). -/
  | msg (pt : Nat) (f : MFrame)
  /-- BLOTTER_FLUSH (R567). -/
  | blotterFlush (bad : List Nat) (both : List Nat)
  /-- BLT_FLUSH (R583). -/
  | bltFlush (m : Master)
  /-- FLUSH_DONE (R567). -/
  | flushDone
  /-- EVENT_QUEUE_MOVE (R574). -/
  | eventQueueMove
  /-- CAL_TRACK (R546). -/
  | calTrack (code : Nat)
  /-- CAL_GO (R564). -/
  | calGo (m : Master)
  /-- THERMAL_FE_EXPIRY (R241). -/
  | thermalFeExpiry (n : Nat) (z : Nat)
  /-- THERM_BLK_CLEAR (R241). -/
  | thermBlkClear (m : Master) (ports : Nat)
  /-- OTP_PROG_GO (R561). -/
  | otpProgGo (m : Master)
  /-- OTP_LOCK_GO (R561). -/
  | otpLockGo (m : Master)
  /-- OTP_RD_ADDR (R562). -/
  | otpRdAddr (m : Master) (idx : Nat)
  /-- DGV_SVC_GO (R314). -/
  | dgvSvcGo (m : Master) (n : Nat)
  /-- GET_INFO (R453). -/
  | getInfo (q : Nat)
  /-- SET_MODE (R454). -/
  | setMode (q : Nat)
  /-- GET_STATUS (R455). -/
  | getStatus (q : Nat)
  /-- PLANE_DEFINE (R456). -/
  | planeDefine (q : Nat)
  /-- HEAD_ATTACH (R457). -/
  | headAttach (q : Nat)
  /-- RULING_SET (R458). -/
  | rulingSet (q : Nat)
  /-- SCREEN_LOAD (R459). -/
  | screenLoad (q : Nat) (data : Option (List Nat))
  /-- TRC_LOAD (R460). -/
  | trcLoad (q : Nat) (data : Option (List Nat))
  /-- JOB_OPEN (R461). -/
  | jobOpen (q : Nat) (alloc : Option (Nat × Nat))
  /-- JOB_APPEND (R462). -/
  | jobAppend (q : Nat) (table : Option (List Nat)) (desc : Nat)
  /-- JOB_CLOSE (R463). -/
  | jobClose (q : Nat)
  /-- JOB_ABORT (R463). -/
  | jobAbort (q : Nat)
  /-- MASK_SET (R464). -/
  | maskSet (q : Nat)
  /-- TRIM_SET (R465). -/
  | trimSet (q : Nat)
  /-- SUBST_POLICY (R466). -/
  | substPolicy (q : Nat)
  /-- SERVICE_SPIT (R467). -/
  | serviceSpit (q : Nat)
  /-- VERIFY_SWEEP (R468). -/
  | verifySweep (q : Nat)
  /-- CAL_RUN (R469). -/
  | calRun (q : Nat)
  /-- BIST_RUN (R470). -/
  | bistRun (q : Nat)
  /-- POWER_POLICY (R471). -/
  | powerPolicy (q : Nat)
  /-- NEXT_EVENT_HINT (R472). -/
  | nextEventHint (q : Nat) (service : Option Nat)
  /-- BLOTTER_READ (R473). -/
  | blotterRead (q : Nat) (ecc : EccIn)
  /-- EVENT_READ (R474). -/
  | eventRead (q : Nat)
  /-- OTP_READ (R475). -/
  | otpRead (q : Nat)
  /-- OTP_PROGRAM (R476). -/
  | otpProgram (q : Nat)
  /-- OTP_LOCK (R477). -/
  | otpLock (q : Nat)
  /-- DIAG_UNLOCK (R478). -/
  | diagUnlock (q : Nat)
  /-- FAULT_INJECT (R479). -/
  | faultInject (q : Nat)
  /-- CHAIN_CONFIG (R480). -/
  | chainConfig (q : Nat)
  /-- FW_UPDATE (R481). -/
  | fwUpdate (q : Nat) (data : Option (List Nat))
  /-- BLOCK_LOCK (R485). -/
  | blockLock (pt : Nat)
  /-- PARK_N_RELEASE (R515). -/
  | parkNRelease
  /-- RET_QUAL (R514). -/
  | retQual (up : Bool)
  /-- BKP_OK_CHANGE (R511). -/
  | bkpOkChange (vbkp : Nat)
  /-- PARK_EXIT (R518). -/
  | parkExit
  /-- JOIN_TIMEOUT (R480). -/
  | joinTimeout
  /-- CAL_DONE (R469). -/
  | calDone (found : CalIn)
  /-- LOGIC_BIST_DONE (R470). -/
  | logicBistDone (pass : Bool)
  /-- OTP_BURN_DONE (R552). -/
  | otpBurnDone (readBack : Nat)
  /-- DT_WRAP (R572). -/
  | dtWrap
  /-- SECOND_ABS_READ (R68). -/
  | secondAbsRead (k : Nat)
  /-- ABS_FAIL_REQUALIFY (R68). -/
  | absFailRequalify (k : Nat)
  /-- DETECT_RETURN (R257). -/
  | detectReturn (n : Nat)
  /-- PERST_RELEASE (R535). -/
  | perstRelease
  /-- PCIE_LINK_UP (R413). -/
  | pcieLinkUp
  deriving DecidableEq, Repr

end Sys2Proof
end

