-- ==== Sys2Proof/Config.lean ====
section
/-! DEFINITION. What the spec leaves open: opaque functions with no body, so that no proof can see a value of them. Each is
applied to the operands it depends on, or to the model's own counter (State.freeCtr) for a fresh value each time. -/
namespace Sys2Proof

/-- A fresh value the spec leaves open, drawn by the model's counter. -/
opaque Config.free : Nat → Nat

/-- Whether an inexact quotient whose rounding the spec does not state is taken upwards; the first argument names the place. -/
opaque Config.roundUp : Nat → Int → Int → Bool

/-- Whether the device takes the step upwards when it adapts a correction parameter (R59): the channel's samples
decide, by a method the spec does not state. The first argument names the parameter. -/
opaque Config.lissStep : Nat → Nat → Int

/-- Whether a full hardware event FIFO (R574) drops its oldest event rather than the new one; the spec is silent. -/
opaque Config.fifoDropsOldest : Nat → Bool

/-- How far the observer gain G1, G2 or G3 (first argument 0 to 2) that Quill firmware writes for a bandwidth in Hz lies from
its first-order value (R65): the spec fixes the poles and gives the gains to first order, not the words. -/
opaque Config.obsGain : Nat → Nat → Nat

/-- The eight check bits of a word of the OTP array (R548): a SECDED code internal to the array. -/
opaque Config.otpCheck : Nat → Nat

/-- The redundant columns in use in a bank (R399, R412), by the repair fuses of the OTP array: the spec does not say where
in the FACTORY region they stand. -/
opaque Config.repairCols : List (Nat × Nat) → Nat → Nat

/-- The PCIe Vendor ID (R453): the spec gives no number. -/
opaque Config.vendorId : Nat

/-- Whether Quill firmware keeps a copy of the on-chip word with this number (R394). -/
opaque Config.keepsCopy : Nat → Bool

end Sys2Proof
end

