-- ==== Sys2Proof/Machine/Bits.lean ====
section
/-! DEFINITION. Bit fields, signed readings, saturation and rounding shifts (R10 to R12, R58). -/
namespace Sys2Proof.Machine

/-- A field of a register: its lowest bit and its width (R10). -/
structure Fld where
  lo : Nat
  w : Nat
  deriving DecidableEq, Repr

/-- Bits `lo` to `lo + w - 1` of `v` (R10). -/
def bits (v lo w : Nat) : Nat := v / 2 ^ lo % 2 ^ w

/-- `v` with bits `lo` to `lo + w - 1` replaced by the low bits of `x`. -/
def setBits (v lo w x : Nat) : Nat :=
  v - bits v lo w * 2 ^ lo + x % 2 ^ w * 2 ^ lo

/-- Two's complement reading of the low `w` bits of `v` (R12). -/
def sgn (w v : Nat) : Int :=
  let m := v % 2 ^ w
  if m < 2 ^ (w - 1) then (m : Int) else (m : Int) - 2 ^ w

/-- The `w`-bit two's complement pattern of `i` (R12). -/
def uns (w : Nat) (i : Int) : Nat := (i % 2 ^ w).toNat

/-- `i` saturated to a signed `w`-bit format (R63). -/
def satS (w : Nat) (i : Int) : Int := max (-(2 ^ (w - 1))) (min (2 ^ (w - 1) - 1) i)

/-- `n` saturated to an unsigned `w`-bit field. -/
def satU (w n : Nat) : Nat := min (2 ^ w - 1) n

/-- Arithmetic shift right: the floor. -/
def asr (i : Int) (n : Nat) : Int := i / 2 ^ n

/-- Shift right rounding half towards positive infinity (R58). -/
def rsr (i : Int) (n : Nat) : Int := (i + 2 ^ (n - 1)) / 2 ^ n

/-- Clamp of an integer to a range. -/
def clampI (lo hi i : Int) : Int := max lo (min hi i)

/-- Clamp of a number to a range. -/
def clampN (lo hi n : Nat) : Nat := max lo (min hi n)

/-- The bytes of `v`, least significant first (R11). -/
def leBytes : Nat → Nat → List Nat
  | 0, _ => []
  | k + 1, v => v % 256 :: leBytes k (v / 256)

/-- The number that bytes spell, least significant first (R11). -/
def ofLe : List Nat → Nat
  | [] => 0
  | b :: bs => b % 256 + 256 * ofLe bs

/-- Bytes `off` to `off + k - 1` of a byte list as a little-endian number, missing bytes as 0 (R11). -/
def leAt (bs : List Nat) (off k : Nat) : Nat := ofLe ((bs.drop off).take k)

end Sys2Proof.Machine
end

