-- ==== Sys2Proof/Machine/Free.lean ====
section
/-! DEFINITION. Computations the spec fixes only at some points, completed by free values (Config) everywhere else. -/
namespace Sys2Proof.Machine

/-- The quotient of `n` by `d`; where it is not exact and the spec states no rounding, a free choice of the two neighbours.
`site` names the place. -/
def divFree (site : Nat) (n d : Int) : Int :=
  if n % d = 0 then n / d else if Config.roundUp site n d then n / d + 1 else n / d

/-- Quotient rounded to nearest, ties upwards, for a positive divisor. -/
def divNear (n d : Int) : Int := (2 * n + d) / (2 * d)

/-- Quotient rounded to nearest for a positive divisor; the direction of a tie, which the spec does not state, is free. -/
def divNearFree (site : Nat) (n d : Int) : Int :=
  if 2 * (n % d) < d then n / d
  else if 2 * (n % d) > d then n / d + 1
  else if Config.roundUp site n d then n / d + 1 else n / d

/-! Real functions, as sums of their series at 64 fractional bits. Each result is irrational off the points treated as exact,
so it is one of the two words around the sum: log entry 15. -/

/-- π at 60 fractional bits. -/
def piFix : Nat := 3622009729038561421

/-- One of the two words around `v` / 2^`f`. -/
def nearWord (site f v : Nat) : Nat := v / 2 ^ f + (if Config.roundUp site v f then 1 else 0)

/-- The terms of Euler's series of the arctangent of y / x from term `n`, with `t` the present term, `r` the sum of the
squares, and `num` the square of y. -/
def arctanTail : Nat → Nat → Nat → Nat → Nat → Nat
  | 0, _, _, _, _ => 0
  | k + 1, n, t, num, r => t + arctanTail k (n + 1) (t * (2 * n + 2) * num / ((2 * n + 3) * r)) num r

/-- The arctangent of y / x for 0 ≤ y ≤ x, as steps at 40 fractional bits. -/
def arctanSteps (y x : Nat) : Nat :=
  let r := x * x + y * y
  arctanTail 70 0 (x * y * 2 ^ 64 / r) (y * y) r * 2 ^ 51 / piFix

/-- The terms of an alternating power series of `p` / 2^15 from the term `t` on, whose next divisor is `n` (n + 1). -/
def powerTail : Nat → Nat → Int → Nat → Int
  | 0, _, _, _ => 0
  | k + 1, n, t, p => t + powerTail k (n + 2) (-(t * (p * p : Nat) / (2 ^ 30 * n * (n + 1) : Nat))) p

/-- sin_phi of R58 in Q1.15: the sine of PHI, exact at 0. -/
def sinPhi (phi : Int) : Int :=
  let n := nearWord 20 49 (powerTail 14 2 (phi.natAbs * 2 ^ 49 : Nat) phi.natAbs).toNat
  if phi = 0 then 0 else if phi < 0 then -(n : Int) else n

/-- inv_cos_phi of R58 in unsigned 2.14: one over the cosine of PHI, exact at 0. -/
def invCosPhi (phi : Int) : Int :=
  if phi = 0 then 0x4000
  else (nearWord 21 0 (2 ^ 78 / (powerTail 14 1 (2 ^ 64) phi.natAbs).toNat) : Nat)

/-- The phase of R58 in steps: atan2 of the corrected sample, exact on the axes and the diagonals. -/
def atanSteps (s c : Int) : Nat :=
  let a := s.natAbs
  let b := c.natAbs
  let q :=
    if a = 0 then 0
    else if b = 0 then 16384 * 2 ^ 40
    else if a = b then 8192 * 2 ^ 40
    else if a < b then arctanSteps a b
    else 16384 * 2 ^ 40 - arctanSteps b a
  let v := if c < 0 then 32768 * 2 ^ 40 - q else q
  let w := if s < 0 then 65536 * 2 ^ 40 - v else v
  (if a = 0 ∨ b = 0 ∨ a = b then w / 2 ^ 40 else nearWord 22 40 w) % 65536

/-- The terms of the series of e^(-y), `y` at 64 fractional bits, from the term `t` on. -/
def expTail : Nat → Nat → Int → Nat → Int
  | 0, _, _, _ => 0
  | k + 1, n, t, y => t + expTail k (n + 1) (-(t * (y : Int) / (2 ^ 64 * n : Nat))) y

/-- d of R65 at 64 fractional bits: 1 - exp(-2π × BW × 4 µs). -/
def gainD (bw : Nat) : Nat := 2 ^ 64 - (expTail 24 1 (2 ^ 64) (piFix * 2 ^ 4 * 8 * bw / 1000000)).toNat

/-- The observer gain G1, G2 or G3 (`j` 0 to 2) for a bandwidth (R65): to first order 3d, 3d² and d³ in the formats of R63; what
remains, at most twice d of it, is free. -/
def obsGain (j bw : Nat) : Nat :=
  let d := gainD bw
  let g := match j with
    | 0 => 3 * d / 2 ^ 32
    | 1 => 3 * d ^ 2 / 2 ^ 92
    | _ => d ^ 3 / 2 ^ 148
  let tol := 2 * g * d / 2 ^ 64 + 1
  g - tol + Config.obsGain j bw % (2 * tol + 1)

/-- The square root of `num / den`, scaled as given: exact where it is one, otherwise a free choice of the two neighbours. -/
def sqrtFree (site num den : Nat) : Nat :=
  let q := Nat.sqrt (num / den)
  if q * q * den = num then q else if Config.roundUp site num den then q + 1 else q

end Sys2Proof.Machine
end

