-- ==== Sys2Proof/Machine/Cells.lean ====
section
/-! DEFINITION. Sparse data by address in one canonical form: pairs (address, value), addresses strictly rising, no pair
equal to what an unlisted address reads as. Registers (R15) and memories (R11, R380) are both held this way. -/
namespace Sys2Proof.Machine

/-- What address `a` reads as: the listed value, else `d a`. -/
def cellGet {α : Type} (d : Nat → α) : List (Nat × α) → Nat → α
  | [], a => d a
  | c :: m, a => if c.1 = a then c.2 else cellGet d m a

/-- The cells of consecutive addresses from `a` that differ from what the unlisted address reads as. -/
def cellRun {α : Type} [DecidableEq α] (d : Nat → α) : Nat → List α → List (Nat × α)
  | _, [] => []
  | a, v :: vs => if v = d a then cellRun d (a + 1) vs else (a, v) :: cellRun d (a + 1) vs

/-- `m` with the values `vs` at the addresses from `a` on; every other address is as before. -/
def cellPut {α : Type} [DecidableEq α] (d : Nat → α) (m : List (Nat × α)) (a : Nat) (vs : List α) :
    List (Nat × α) :=
  m.filter (fun c => c.1 < a) ++ cellRun d a vs ++ m.filter (fun c => a + vs.length ≤ c.1)

/-- The canonical form: addresses strictly rising, no cell equal to what the unlisted address reads as. -/
def cellWf {α : Type} [DecidableEq α] (d : Nat → α) (m : List (Nat × α)) : Bool :=
  decide (m.Pairwise (fun x y => x.1 < y.1)) && m.all (fun c => c.2 ≠ d c.1)

/-- The values of the `k` consecutive addresses from `a` on, from cells in rising order none of which lies below `a`. -/
def cellTake {α : Type} (d : Nat → α) : List (Nat × α) → Nat → Nat → List α
  | _, _, 0 => []
  | [], a, k + 1 => d a :: cellTake d [] (a + 1) k
  | c :: m, a, k + 1 => if c.1 = a then c.2 :: cellTake d m (a + 1) k else d a :: cellTake d (c :: m) (a + 1) k

/-- The values of `k` consecutive addresses from `a` on. -/
def cellSlice {α : Type} (d : Nat → α) (m : List (Nat × α)) (a k : Nat) : List α :=
  cellTake d (m.filter (fun c => decide (a ≤ c.1) && decide (c.1 < a + k))) a k

/-- `m` with `f` applied to every value, where `f` leaves what an unlisted address reads as. -/
def cellMap {α : Type} [DecidableEq α] (d : Nat → α) (m : List (Nat × α)) (f : α → α) : List (Nat × α) :=
  (m.map (fun c => (c.1, f c.2))).filter (fun c => c.2 ≠ d c.1)

/-- `m` with `f` applied to the value at address `a`. -/
def cellMod {α : Type} [DecidableEq α] (d : Nat → α) (m : List (Nat × α)) (a : Nat) (f : α → α) : List (Nat × α) :=
  cellPut d m a [f (cellGet d m a)]

end Sys2Proof.Machine
end

