-- ==== Sys2Proof/Machine/Regs.lean ====
section
/-! DEFINITION. The register map of BAR0 (R45): the offset of every register the spec names, its fields, its access
codes (R15) and its reset value, in the order of the chapters. An offset the map does not name is reserved (R46). -/
namespace Sys2Proof.Machine

/-- One register (or one indexed family of registers) of the map: `c1` copies `s1` bytes apart, each of `c2` copies
`s2` bytes apart; `lo1` and `lo2` are the first index values. The masks say which bits carry each access code of R15. -/
structure RegSpec where
  name : String
  base : Nat
  lo1 : Nat := 0
  c1 : Nat := 1
  s1 : Nat := 4
  lo2 : Nat := 0
  c2 : Nat := 1
  s2 : Nat := 4
  rst : Nat → BitVec 32 := fun _ => 0
  rw : BitVec 32 := 0
  w1c : BitVec 32 := 0
  w1s : BitVec 32 := 0
  wo : BitVec 32 := 0
  rc : BitVec 32 := 0
  ro : BitVec 32 := 0

/-! Register offsets, named as the spec names them. -/
/-- SYS_ID, R47. -/
abbrev R.SYS_ID : Nat := 0x0000000
/-- SYS_MODE, R48. -/
abbrev R.SYS_MODE : Nat := 0x0000010
/-- SYS_ADMIT_STOP, R49. -/
abbrev R.SYS_ADMIT_STOP : Nat := 0x0000014
/-- SYS_TICK_STAT, R50. -/
abbrev R.SYS_TICK_STAT : Nat := 0x0000020
/-- SYS_TICK_OVR_CNT, R51. -/
abbrev R.SYS_TICK_OVR_CNT : Nat := 0x0000024
/-- SYS_DT_LO, R52. -/
abbrev R.SYS_DT_LO : Nat := 0x0000030
/-- SYS_DT_HI, R52. -/
abbrev R.SYS_DT_HI : Nat := 0x0000034
/-- ENC_CFG(k), R89. -/
abbrev R.ENC_CFG (k : Nat) : Nat := 0x0400000 + k * 0x1000 + 0x000
/-- ENC_ABS_CFG(k), R90. -/
abbrev R.ENC_ABS_CFG (k : Nat) : Nat := 0x0400000 + k * 0x1000 + 0x004
/-- ENC_ABS_CHK(k), R91. -/
abbrev R.ENC_ABS_CHK (k : Nat) : Nat := 0x0400000 + k * 0x1000 + 0x00C
/-- ENC_ABS_OFS(k), R98. -/
abbrev R.ENC_ABS_OFS (k : Nat) : Nat := 0x0400000 + k * 0x1000 + 0x010
/-- ENC_IDX_SPACING(k), R98. -/
abbrev R.ENC_IDX_SPACING (k : Nat) : Nat := 0x0400000 + k * 0x1000 + 0x014
/-- ENC_IDX_CFG(k), R92. -/
abbrev R.ENC_IDX_CFG (k : Nat) : Nat := 0x0400000 + k * 0x1000 + 0x018
/-- ENC_OBS_G1(k), R98. -/
abbrev R.ENC_OBS_G1 (k : Nat) : Nat := 0x0400000 + k * 0x1000 + 0x020
/-- ENC_OBS_G2(k), R98. -/
abbrev R.ENC_OBS_G2 (k : Nat) : Nat := 0x0400000 + k * 0x1000 + 0x024
/-- ENC_OBS_G3(k), R98. -/
abbrev R.ENC_OBS_G3 (k : Nat) : Nat := 0x0400000 + k * 0x1000 + 0x028
/-- ENC_FE(k), R93. -/
abbrev R.ENC_FE (k : Nat) : Nat := 0x0400000 + k * 0x1000 + 0x030
/-- ENC_COAST_LEN(k), R98. -/
abbrev R.ENC_COAST_LEN (k : Nat) : Nat := 0x0400000 + k * 0x1000 + 0x034
/-- ENC_HWM_CFG(k), R98. -/
abbrev R.ENC_HWM_CFG (k : Nat) : Nat := 0x0400000 + k * 0x1000 + 0x038
/-- ENC_STAT(k), R94. -/
abbrev R.ENC_STAT (k : Nat) : Nat := 0x0400000 + k * 0x1000 + 0x040
/-- ENC_EVT_CNT(k), R95. -/
abbrev R.ENC_EVT_CNT (k : Nat) : Nat := 0x0400000 + k * 0x1000 + 0x044
/-- ENC_LISS_OFS(k), R96. -/
abbrev R.ENC_LISS_OFS (k : Nat) : Nat := 0x0400000 + k * 0x1000 + 0x048
/-- ENC_LISS_GP(k), R97. -/
abbrev R.ENC_LISS_GP (k : Nat) : Nat := 0x0400000 + k * 0x1000 + 0x04C
/-- ENC_POS_LO(k), R98. -/
abbrev R.ENC_POS_LO (k : Nat) : Nat := 0x0400000 + k * 0x1000 + 0x050
/-- ENC_POS_HI(k), R98. -/
abbrev R.ENC_POS_HI (k : Nat) : Nat := 0x0400000 + k * 0x1000 + 0x054
/-- ENC_VEL(k), R98. -/
abbrev R.ENC_VEL (k : Nat) : Nat := 0x0400000 + k * 0x1000 + 0x058
/-- ENC_ACC(k), R98. -/
abbrev R.ENC_ACC (k : Nat) : Nat := 0x0400000 + k * 0x1000 + 0x05C
/-- ENC_RESID(k), R98. -/
abbrev R.ENC_RESID (k : Nat) : Nat := 0x0400000 + k * 0x1000 + 0x060
/-- ENC_AMP(k), R98. -/
abbrev R.ENC_AMP (k : Nat) : Nat := 0x0400000 + k * 0x1000 + 0x064
/-- ENC_HWM_LO(k), R98. -/
abbrev R.ENC_HWM_LO (k : Nat) : Nat := 0x0400000 + k * 0x1000 + 0x068
/-- ENC_HWM_HI(k), R98. -/
abbrev R.ENC_HWM_HI (k : Nat) : Nat := 0x0400000 + k * 0x1000 + 0x06C
/-- ENC_INDEX_LATCH_LO(k), R98. -/
abbrev R.ENC_INDEX_LATCH_LO (k : Nat) : Nat := 0x0400000 + k * 0x1000 + 0x070
/-- ENC_INDEX_LATCH_HI(k), R98. -/
abbrev R.ENC_INDEX_LATCH_HI (k : Nat) : Nat := 0x0400000 + k * 0x1000 + 0x074
/-- ENC_INDEX_DT_LO(k), R98. -/
abbrev R.ENC_INDEX_DT_LO (k : Nat) : Nat := 0x0400000 + k * 0x1000 + 0x078
/-- ENC_INDEX_DT_HI(k), R98. -/
abbrev R.ENC_INDEX_DT_HI (k : Nat) : Nat := 0x0400000 + k * 0x1000 + 0x07C
/-- ENC_ABS_DIFF(k), R98. -/
abbrev R.ENC_ABS_DIFF (k : Nat) : Nat := 0x0400000 + k * 0x1000 + 0x080
/-- DCT_STAT, R129. -/
abbrev R.DCT_STAT : Nat := 0x0500000
/-- DCT_SHARE_CFG, R130. -/
abbrev R.DCT_SHARE_CFG : Nat := 0x0500004
/-- DCT_ND_WR, R131. -/
abbrev R.DCT_ND_WR : Nat := 0x0500008
/-- DCT_PLANE_THROW(p), R136. -/
abbrev R.DCT_PLANE_THROW (p : Nat) : Nat := 0x0500200 + p * 4
/-- DCT_PLANE_CTL(p), R133. -/
abbrev R.DCT_PLANE_CTL (p : Nat) : Nat := 0x0500220 + p * 4
/-- DCT_PLANE_START_LO(p), R136. -/
abbrev R.DCT_PLANE_START_LO (p : Nat) : Nat := 0x0500240 + p * 8
/-- DCT_PLANE_START_HI(p), R136. -/
abbrev R.DCT_PLANE_START_HI (p : Nat) : Nat := 0x0500244 + p * 8
/-- DCT_PLANE_END_LO(p), R136. -/
abbrev R.DCT_PLANE_END_LO (p : Nat) : Nat := 0x0500280 + p * 8
/-- DCT_PLANE_END_HI(p), R136. -/
abbrev R.DCT_PLANE_END_HI (p : Nat) : Nat := 0x0500284 + p * 8
/-- DCT_ND_LOG0(j), R132. -/
abbrev R.DCT_ND_LOG0 (j : Nat) : Nat := 0x0500400 + j * 0x10
/-- DCT_ND_LOG1(j), R132. -/
abbrev R.DCT_ND_LOG1 (j : Nat) : Nat := 0x0500404 + j * 0x10
/-- DCT_ND_LOG2(j), R132. -/
abbrev R.DCT_ND_LOG2 (j : Nat) : Nat := 0x0500408 + j * 0x10
/-- DCT_ND_LOG3(j), R132. -/
abbrev R.DCT_ND_LOG3 (j : Nat) : Nat := 0x050040C + j * 0x10
/-- DCT_ROW_CFG(i), R134. -/
abbrev R.DCT_ROW_CFG (i : Nat) : Nat := 0x0510000 + i * 0x100 + 0x00
/-- DCT_ROW_PITCH_LO(i), R136. -/
abbrev R.DCT_ROW_PITCH_LO (i : Nat) : Nat := 0x0510000 + i * 0x100 + 0x08
/-- DCT_ROW_PITCH_HI(i), R136. -/
abbrev R.DCT_ROW_PITCH_HI (i : Nat) : Nat := 0x0510000 + i * 0x100 + 0x0C
/-- DCT_ROW_ORG_LO(i), R136. -/
abbrev R.DCT_ROW_ORG_LO (i : Nat) : Nat := 0x0510000 + i * 0x100 + 0x10
/-- DCT_ROW_ORG_HI(i), R136. -/
abbrev R.DCT_ROW_ORG_HI (i : Nat) : Nat := 0x0510000 + i * 0x100 + 0x14
/-- DCT_ROW_VEL(i), R136. -/
abbrev R.DCT_ROW_VEL (i : Nat) : Nat := 0x0510000 + i * 0x100 + 0x18
/-- DCT_ROW_FLIGHT(i), R136. -/
abbrev R.DCT_ROW_FLIGHT (i : Nat) : Nat := 0x0510000 + i * 0x100 + 0x1C
/-- DCT_ROW_LEAD(i), R136. -/
abbrev R.DCT_ROW_LEAD (i : Nat) : Nat := 0x0510000 + i * 0x100 + 0x20
/-- DCT_ROW_TMIN(i), R136. -/
abbrev R.DCT_ROW_TMIN (i : Nat) : Nat := 0x0510000 + i * 0x100 + 0x24
/-- DCT_ROW_STAT(i), R135. -/
abbrev R.DCT_ROW_STAT (i : Nat) : Nat := 0x0510000 + i * 0x100 + 0x28
/-- DCT_ROW_PERIOD(i), R136. -/
abbrev R.DCT_ROW_PERIOD (i : Nat) : Nat := 0x0510000 + i * 0x100 + 0x2C
/-- DCT_ROW_LINE_LO(i), R136. -/
abbrev R.DCT_ROW_LINE_LO (i : Nat) : Nat := 0x0510000 + i * 0x100 + 0x30
/-- DCT_ROW_LINE_HI(i), R136. -/
abbrev R.DCT_ROW_LINE_HI (i : Nat) : Nat := 0x0510000 + i * 0x100 + 0x34
/-- DCT_ROW_GPOS_LO(i), R136. -/
abbrev R.DCT_ROW_GPOS_LO (i : Nat) : Nat := 0x0510000 + i * 0x100 + 0x38
/-- DCT_ROW_GPOS_HI(i), R136. -/
abbrev R.DCT_ROW_GPOS_HI (i : Nat) : Nat := 0x0510000 + i * 0x100 + 0x3C
/-- DCT_ROW_QTS_LO(i), R136. -/
abbrev R.DCT_ROW_QTS_LO (i : Nat) : Nat := 0x0510000 + i * 0x100 + 0x40
/-- DCT_ROW_QTS_HI(i), R136. -/
abbrev R.DCT_ROW_QTS_HI (i : Nat) : Nat := 0x0510000 + i * 0x100 + 0x44
/-- DCT_ROW_DLV_LO(i), R136. -/
abbrev R.DCT_ROW_DLV_LO (i : Nat) : Nat := 0x0510000 + i * 0x100 + 0x48
/-- DCT_ROW_DLV_HI(i), R136. -/
abbrev R.DCT_ROW_DLV_HI (i : Nat) : Nat := 0x0510000 + i * 0x100 + 0x4C
/-- DCT_ROW_BLK(i, c), R136. -/
abbrev R.DCT_ROW_BLK (i : Nat) (c : Nat) : Nat := 0x0510000 + i * 0x100 + 0x50 + c * 4
/-- DCT_ROW_ND(i, r), R136. -/
abbrev R.DCT_ROW_ND (i : Nat) (r : Nat) : Nat := 0x0510000 + i * 0x100 + 0x80 + r * 4
/-- DCT_LOOP_CFG(n, z), R249. -/
abbrev R.DCT_LOOP_CFG (n : Nat) (z : Nat) : Nat := 0x0540000 + (n * 8 + z) * 0x20 + 0x00
/-- DCT_LOOP_KP(n, z), R252. -/
abbrev R.DCT_LOOP_KP (n : Nat) (z : Nat) : Nat := 0x0540000 + (n * 8 + z) * 0x20 + 0x04
/-- DCT_LOOP_KI(n, z), R252. -/
abbrev R.DCT_LOOP_KI (n : Nat) (z : Nat) : Nat := 0x0540000 + (n * 8 + z) * 0x20 + 0x08
/-- DCT_LOOP_I(n, z), R252. -/
abbrev R.DCT_LOOP_I (n : Nat) (z : Nat) : Nat := 0x0540000 + (n * 8 + z) * 0x20 + 0x0C
/-- DCT_LOOP_OUT(n, z), R251. -/
abbrev R.DCT_LOOP_OUT (n : Nat) (z : Nat) : Nat := 0x0540000 + (n * 8 + z) * 0x20 + 0x10
/-- DCT_LOOP_SAT(n, z), R250. -/
abbrev R.DCT_LOOP_SAT (n : Nat) (z : Nat) : Nat := 0x0540000 + (n * 8 + z) * 0x20 + 0x14
/-- DCT_THERM_FE, R252. -/
abbrev R.DCT_THERM_FE : Nat := 0x054F000
/-- DCT_THERM_BLK, R252. -/
abbrev R.DCT_THERM_BLK : Nat := 0x054F004
/-- DCT_THERM_OK, R252. -/
abbrev R.DCT_THERM_OK : Nat := 0x054F008
/-- DCT_THERM_STALE, R252. -/
abbrev R.DCT_THERM_STALE : Nat := 0x054F00C
/-- SCR_STAT, R178. -/
abbrev R.SCR_STAT : Nat := 0x0600000
/-- SCR_ARR_BASE(s), R179. -/
abbrev R.SCR_ARR_BASE (s : Nat) : Nat := 0x0600800 + s * 0x10
/-- SCR_ARR_SIZE(s), R179. -/
abbrev R.SCR_ARR_SIZE (s : Nat) : Nat := 0x0600804 + s * 0x10
/-- SCR_PLANE_CFG(p), R180. -/
abbrev R.SCR_PLANE_CFG (p : Nat) : Nat := 0x0601000 + p * 0x100 + 0x00
/-- SCR_PLANE_CTL(p), R181. -/
abbrev R.SCR_PLANE_CTL (p : Nat) : Nat := 0x0601000 + p * 0x100 + 0x04
/-- SCR_PLANE_STAT(p), R182. -/
abbrev R.SCR_PLANE_STAT (p : Nat) : Nat := 0x0601000 + p * 0x100 + 0x08
/-- SCR_PLANE_WIDTH(p), R183. -/
abbrev R.SCR_PLANE_WIDTH (p : Nat) : Nat := 0x0601000 + p * 0x100 + 0x0C
/-- SCR_PLANE_IMG_BASE_LO(p), R183. -/
abbrev R.SCR_PLANE_IMG_BASE_LO (p : Nat) : Nat := 0x0601000 + p * 0x100 + 0x10
/-- SCR_PLANE_IMG_BASE_HI(p), R183. -/
abbrev R.SCR_PLANE_IMG_BASE_HI (p : Nat) : Nat := 0x0601000 + p * 0x100 + 0x14
/-- SCR_PLANE_IMG_LINES(p), R183. -/
abbrev R.SCR_PLANE_IMG_LINES (p : Nat) : Nat := 0x0601000 + p * 0x100 + 0x18
/-- SCR_PLANE_CODE_BASE_LO(p), R183. -/
abbrev R.SCR_PLANE_CODE_BASE_LO (p : Nat) : Nat := 0x0601000 + p * 0x100 + 0x1C
/-- SCR_PLANE_CODE_BASE_HI(p), R183. -/
abbrev R.SCR_PLANE_CODE_BASE_HI (p : Nat) : Nat := 0x0601000 + p * 0x100 + 0x20
/-- SCR_PLANE_PAGE(p), R183. -/
abbrev R.SCR_PLANE_PAGE (p : Nat) : Nat := 0x0601000 + p * 0x100 + 0x24
/-- SCR_PLANE_GAP(p), R183. -/
abbrev R.SCR_PLANE_GAP (p : Nat) : Nat := 0x0601000 + p * 0x100 + 0x28
/-- SCR_PLANE_JOBLN_LO(p), R183. -/
abbrev R.SCR_PLANE_JOBLN_LO (p : Nat) : Nat := 0x0601000 + p * 0x100 + 0x2C
/-- SCR_PLANE_JOBLN_HI(p), R183. -/
abbrev R.SCR_PLANE_JOBLN_HI (p : Nat) : Nat := 0x0601000 + p * 0x100 + 0x30
/-- SCR_PLANE_TRC(p), R183. -/
abbrev R.SCR_PLANE_TRC (p : Nat) : Nat := 0x0601000 + p * 0x100 + 0x34
/-- SCR_PLANE_OFS(p), R183. -/
abbrev R.SCR_PLANE_OFS (p : Nat) : Nat := 0x0601000 + p * 0x100 + 0x38
/-- SCR_STRIP_PUSH(p), R183. -/
abbrev R.SCR_STRIP_PUSH (p : Nat) : Nat := 0x0601000 + p * 0x100 + 0x3C
/-- SCR_PLANE_AVAIL_LO(p), R183. -/
abbrev R.SCR_PLANE_AVAIL_LO (p : Nat) : Nat := 0x0601000 + p * 0x100 + 0x40
/-- SCR_PLANE_AVAIL_HI(p), R183. -/
abbrev R.SCR_PLANE_AVAIL_HI (p : Nat) : Nat := 0x0601000 + p * 0x100 + 0x44
/-- SCR_PLANE_DONE_LO(p), R183. -/
abbrev R.SCR_PLANE_DONE_LO (p : Nat) : Nat := 0x0601000 + p * 0x100 + 0x48
/-- SCR_PLANE_DONE_HI(p), R183. -/
abbrev R.SCR_PLANE_DONE_HI (p : Nat) : Nat := 0x0601000 + p * 0x100 + 0x4C
/-- SCR_PLANE_RETIRED_LO(p), R183. -/
abbrev R.SCR_PLANE_RETIRED_LO (p : Nat) : Nat := 0x0601000 + p * 0x100 + 0x50
/-- SCR_PLANE_RETIRED_HI(p), R183. -/
abbrev R.SCR_PLANE_RETIRED_HI (p : Nat) : Nat := 0x0601000 + p * 0x100 + 0x54
/-- SCR_PLANE_CHG_LO(p), R183. -/
abbrev R.SCR_PLANE_CHG_LO (p : Nat) : Nat := 0x0601000 + p * 0x100 + 0x58
/-- SCR_PLANE_CHG_HI(p), R183. -/
abbrev R.SCR_PLANE_CHG_HI (p : Nat) : Nat := 0x0601000 + p * 0x100 + 0x5C
/-- SCR_PLANE_BADLN_LO(p), R183. -/
abbrev R.SCR_PLANE_BADLN_LO (p : Nat) : Nat := 0x0601000 + p * 0x100 + 0x60
/-- SCR_PLANE_BADLN_HI(p), R183. -/
abbrev R.SCR_PLANE_BADLN_HI (p : Nat) : Nat := 0x0601000 + p * 0x100 + 0x64
/-- SCR_PLANE_P2W_CNT(p), R183. -/
abbrev R.SCR_PLANE_P2W_CNT (p : Nat) : Nat := 0x0601000 + p * 0x100 + 0x68
/-- NZP_PLANE_CTL(p), R210. -/
abbrev R.NZP_PLANE_CTL (p : Nat) : Nat := 0x0700200 + p * 0x20
/-- NZP_PLANE_EFF_LO(p), R211. -/
abbrev R.NZP_PLANE_EFF_LO (p : Nat) : Nat := 0x0700204 + p * 0x20
/-- NZP_PLANE_EFF_HI(p), R211. -/
abbrev R.NZP_PLANE_EFF_HI (p : Nat) : Nat := 0x0700208 + p * 0x20
/-- NZP_MAP_CFG(n), R212. -/
abbrev R.NZP_MAP_CFG (n : Nat) : Nat := 0x0710000 + n * 0x100 + 0x00
/-- NZP_MAP_COL(n), R213. -/
abbrev R.NZP_MAP_COL (n : Nat) : Nat := 0x0710000 + n * 0x100 + 0x04
/-- NZP_HEAD_STAT(n), R214. -/
abbrev R.NZP_HEAD_STAT (n : Nat) : Nat := 0x0710000 + n * 0x100 + 0x08
/-- NZP_CNT_SHARE(n), R215. -/
abbrev R.NZP_CNT_SHARE (n : Nat) : Nat := 0x0710000 + n * 0x100 + 0x10
/-- NZP_CNT_SPREAD(n), R215. -/
abbrev R.NZP_CNT_SPREAD (n : Nat) : Nat := 0x0710000 + n * 0x100 + 0x14
/-- NZP_CNT_LOST(n), R215. -/
abbrev R.NZP_CNT_LOST (n : Nat) : Nat := 0x0710000 + n * 0x100 + 0x18
/-- NZP_CNT_DBL(n), R215. -/
abbrev R.NZP_CNT_DBL (n : Nat) : Nat := 0x0710000 + n * 0x100 + 0x1C
/-- NZP_CNT_SHARE_LOST(n), R215. -/
abbrev R.NZP_CNT_SHARE_LOST (n : Nat) : Nat := 0x0710000 + n * 0x100 + 0x20
/-- NZP_CNT_SAT(n), R215. -/
abbrev R.NZP_CNT_SAT (n : Nat) : Nat := 0x0710000 + n * 0x100 + 0x24
/-- NZP_SQ_CFG, R243. -/
abbrev R.NZP_SQ_CFG : Nat := 0x0720000
/-- NZP_TH_CFG(n), R244. -/
abbrev R.NZP_TH_CFG (n : Nat) : Nat := 0x0721000 + n * 0x100 + 0x00
/-- NZP_TH_DECAY(n), R247. -/
abbrev R.NZP_TH_DECAY (n : Nat) : Nat := 0x0721000 + n * 0x100 + 0x04
/-- NZP_TH_RISE(n), R247. -/
abbrev R.NZP_TH_RISE (n : Nat) : Nat := 0x0721000 + n * 0x100 + 0x08
/-- NZP_TH_RISEW(n), R247. -/
abbrev R.NZP_TH_RISEW (n : Nat) : Nat := 0x0721000 + n * 0x100 + 0x0C
/-- NZP_TH_STAT(n), R245. -/
abbrev R.NZP_TH_STAT (n : Nat) : Nat := 0x0721000 + n * 0x100 + 0x10
/-- NZP_TH_PSPEC_A(n), R247. -/
abbrev R.NZP_TH_PSPEC_A (n : Nat) : Nat := 0x0721000 + n * 0x100 + 0x14
/-- NZP_TH_PSPEC_B(n), R247. -/
abbrev R.NZP_TH_PSPEC_B (n : Nat) : Nat := 0x0721000 + n * 0x100 + 0x18
/-- NZP_WBUD(n, z), R246. -/
abbrev R.NZP_WBUD (n : Nat) (z : Nat) : Nat := 0x0721000 + n * 0x100 + 0x20 + z * 4
/-- NZP_CNT_SQUASH(n), R247. -/
abbrev R.NZP_CNT_SQUASH (n : Nat) : Nat := 0x0721000 + n * 0x100 + 0x40
/-- NZP_CNT_WARM_LATE(n), R247. -/
abbrev R.NZP_CNT_WARM_LATE (n : Nat) : Nat := 0x0721000 + n * 0x100 + 0x44
/-- NZP_CNT_WMISS(n), R247. -/
abbrev R.NZP_CNT_WMISS (n : Nat) : Nat := 0x0721000 + n * 0x100 + 0x48
/-- NZP_CNT_WBUD(n), R247. -/
abbrev R.NZP_CNT_WBUD (n : Nat) : Nat := 0x0721000 + n * 0x100 + 0x4C
/-- NZP_CNT_WARM(n), R247. -/
abbrev R.NZP_CNT_WARM (n : Nat) : Nat := 0x0721000 + n * 0x100 + 0x50
/-- NZP_CNT_IW(n), R247. -/
abbrev R.NZP_CNT_IW (n : Nat) : Nat := 0x0721000 + n * 0x100 + 0x54
/-- HP_CFG(n), R286. -/
abbrev R.HP_CFG (n : Nat) : Nat := 0x0800000 + n * 0x10000 + 0x000
/-- HP_STAT(n), R287. -/
abbrev R.HP_STAT (n : Nat) : Nat := 0x0800000 + n * 0x10000 + 0x004
/-- HP_STB_W(n), R288. -/
abbrev R.HP_STB_W (n : Nat) : Nat := 0x0800000 + n * 0x10000 + 0x010
/-- HP_STB_ENV(n), R288. -/
abbrev R.HP_STB_ENV (n : Nat) : Nat := 0x0800000 + n * 0x10000 + 0x014
/-- HP_TRIM_W(n, k), R289. -/
abbrev R.HP_TRIM_W (n : Nat) (k : Nat) : Nat := 0x0800000 + n * 0x10000 + 0x020 + k * 4
/-- HP_TRIM_CTL(n), R290. -/
abbrev R.HP_TRIM_CTL (n : Nat) : Nat := 0x0800000 + n * 0x10000 + 0x040
/-- HP_EW_CFG(n), R291. -/
abbrev R.HP_EW_CFG (n : Nat) : Nat := 0x0800000 + n * 0x10000 + 0x050
/-- HP_EW_LIMIT(n), R294. -/
abbrev R.HP_EW_LIMIT (n : Nat) : Nat := 0x0800000 + n * 0x10000 + 0x054
/-- HP_EW_SUM(n), R294. -/
abbrev R.HP_EW_SUM (n : Nat) : Nat := 0x0800000 + n * 0x10000 + 0x058
/-- HP_WDOG(n), R292. -/
abbrev R.HP_WDOG (n : Nat) : Nat := 0x0800000 + n * 0x10000 + 0x060
/-- HP_TS_CFG(n), R294. -/
abbrev R.HP_TS_CFG (n : Nat) : Nat := 0x0800000 + n * 0x10000 + 0x070
/-- HP_CNT_NAK(n, r), R294. -/
abbrev R.HP_CNT_NAK (n : Nat) (r : Nat) : Nat := 0x0800000 + n * 0x10000 + 0x080 + r * 4
/-- HP_CNT_ACK_TO(n), R294. -/
abbrev R.HP_CNT_ACK_TO (n : Nat) : Nat := 0x0800000 + n * 0x10000 + 0x094
/-- HP_CNT_BC(n), R294. -/
abbrev R.HP_CNT_BC (n : Nat) : Nat := 0x0800000 + n * 0x10000 + 0x098
/-- HP_CNT_UNMATCHED(n), R294. -/
abbrev R.HP_CNT_UNMATCHED (n : Nat) : Nat := 0x0800000 + n * 0x10000 + 0x09C
/-- HP_CNT_FRAMES_LO(n), R294. -/
abbrev R.HP_CNT_FRAMES_LO (n : Nat) : Nat := 0x0800000 + n * 0x10000 + 0x0A0
/-- HP_CNT_FRAMES_HI(n), R294. -/
abbrev R.HP_CNT_FRAMES_HI (n : Nat) : Nat := 0x0800000 + n * 0x10000 + 0x0A4
/-- HP_TEMP(n, z), R293. -/
abbrev R.HP_TEMP (n : Nat) (z : Nat) : Nat := 0x0800000 + n * 0x10000 + 0x100 + z * 4
/-- DGV_PLANE_CFG(p), R318. -/
abbrev R.DGV_PLANE_CFG (p : Nat) : Nat := 0x0A00200 + p * 0x10
/-- DGV_CFG(n), R319. -/
abbrev R.DGV_CFG (n : Nat) : Nat := 0x0A10000 + n * 0x100 + 0x00
/-- DGV_TH(n), R320. -/
abbrev R.DGV_TH (n : Nat) : Nat := 0x0A10000 + n * 0x100 + 0x04
/-- DGV_WIN(n), R321. -/
abbrev R.DGV_WIN (n : Nat) : Nat := 0x0A10000 + n * 0x100 + 0x08
/-- DGV_GEOM(n), R321. -/
abbrev R.DGV_GEOM (n : Nat) : Nat := 0x0A10000 + n * 0x100 + 0x0C
/-- DGV_VBAND(n), R321. -/
abbrev R.DGV_VBAND (n : Nat) : Nat := 0x0A10000 + n * 0x100 + 0x10
/-- DGV_SWEEP(n), R322. -/
abbrev R.DGV_SWEEP (n : Nat) : Nat := 0x0A10000 + n * 0x100 + 0x14
/-- DGV_SVC(n), R322. -/
abbrev R.DGV_SVC (n : Nat) : Nat := 0x0A10000 + n * 0x100 + 0x18
/-- DGV_STAT(n), R323. -/
abbrev R.DGV_STAT (n : Nat) : Nat := 0x0A10000 + n * 0x100 + 0x20
/-- DGV_LAST(n), R324. -/
abbrev R.DGV_LAST (n : Nat) : Nat := 0x0A10000 + n * 0x100 + 0x24
/-- DGV_LEVEL(n), R324. -/
abbrev R.DGV_LEVEL (n : Nat) : Nat := 0x0A10000 + n * 0x100 + 0x28
/-- DGV_CNT_PROBE(n), R325. -/
abbrev R.DGV_CNT_PROBE (n : Nat) : Nat := 0x0A10000 + n * 0x100 + 0x40
/-- DGV_CNT_OK(n), R325. -/
abbrev R.DGV_CNT_OK (n : Nat) : Nat := 0x0A10000 + n * 0x100 + 0x44
/-- DGV_CNT_SLOW(n), R325. -/
abbrev R.DGV_CNT_SLOW (n : Nat) : Nat := 0x0A10000 + n * 0x100 + 0x48
/-- DGV_CNT_WEAK(n), R325. -/
abbrev R.DGV_CNT_WEAK (n : Nat) : Nat := 0x0A10000 + n * 0x100 + 0x4C
/-- DGV_CNT_MISS(n), R325. -/
abbrev R.DGV_CNT_MISS (n : Nat) : Nat := 0x0A10000 + n * 0x100 + 0x50
/-- DGV_CNT_MISSING(n), R325. -/
abbrev R.DGV_CNT_MISSING (n : Nat) : Nat := 0x0A10000 + n * 0x100 + 0x54
/-- DGV_CNT_VOID(n), R325. -/
abbrev R.DGV_CNT_VOID (n : Nat) : Nat := 0x0A10000 + n * 0x100 + 0x58
/-- DGV_CNT_TRIM_UP(n), R325. -/
abbrev R.DGV_CNT_TRIM_UP (n : Nat) : Nat := 0x0A10000 + n * 0x100 + 0x5C
/-- DGV_CNT_TRIM_DN(n), R325. -/
abbrev R.DGV_CNT_TRIM_DN (n : Nat) : Nat := 0x0A10000 + n * 0x100 + 0x60
/-- DMA_GSTAT, R373. -/
abbrev R.DMA_GSTAT : Nat := 0x0B00000
/-- DMA_BUF, R374. -/
abbrev R.DMA_BUF : Nat := 0x0B00004
/-- DMA_CH_CFG(c), R375. -/
abbrev R.DMA_CH_CFG (c : Nat) : Nat := 0x0B10000 + c * 0x40 + 0x00
/-- DMA_CH_CTL(c), R376. -/
abbrev R.DMA_CH_CTL (c : Nat) : Nat := 0x0B10000 + c * 0x40 + 0x04
/-- DMA_CH_STAT(c), R377. -/
abbrev R.DMA_CH_STAT (c : Nat) : Nat := 0x0B10000 + c * 0x40 + 0x08
/-- DMA_CH_PTR_LO(c), R379. -/
abbrev R.DMA_CH_PTR_LO (c : Nat) : Nat := 0x0B10000 + c * 0x40 + 0x10
/-- DMA_CH_PTR_HI(c), R379. -/
abbrev R.DMA_CH_PTR_HI (c : Nat) : Nat := 0x0B10000 + c * 0x40 + 0x14
/-- DMA_CH_START_LO(c), R379. -/
abbrev R.DMA_CH_START_LO (c : Nat) : Nat := 0x0B10000 + c * 0x40 + 0x18
/-- DMA_CH_START_HI(c), R379. -/
abbrev R.DMA_CH_START_HI (c : Nat) : Nat := 0x0B10000 + c * 0x40 + 0x1C
/-- DMA_CH_ERRADDR_LO(c), R379. -/
abbrev R.DMA_CH_ERRADDR_LO (c : Nat) : Nat := 0x0B10000 + c * 0x40 + 0x20
/-- DMA_CH_ERRADDR_HI(c), R379. -/
abbrev R.DMA_CH_ERRADDR_HI (c : Nat) : Nat := 0x0B10000 + c * 0x40 + 0x24
/-- DMA_CH_CNT(c), R379. -/
abbrev R.DMA_CH_CNT (c : Nat) : Nat := 0x0B10000 + c * 0x40 + 0x28
/-- DMA_CH_SEQ(c), R379. -/
abbrev R.DMA_CH_SEQ (c : Nat) : Nat := 0x0B10000 + c * 0x40 + 0x2C
/-- DMA_DB_PTR_LO(c), R379. -/
abbrev R.DMA_DB_PTR_LO (c : Nat) : Nat := 0x0B20000 + c * 0x10 + 0x00
/-- DMA_DB_PTR_HI(c), R379. -/
abbrev R.DMA_DB_PTR_HI (c : Nat) : Nat := 0x0B20000 + c * 0x10 + 0x04
/-- DMA_DB_LIMIT(c), R378. -/
abbrev R.DMA_DB_LIMIT (c : Nat) : Nat := 0x0B20000 + c * 0x10 + 0x08
/-- MEM_STAT, R406. -/
abbrev R.MEM_STAT : Nat := 0x0C00000
/-- MEM_RET, R407. -/
abbrev R.MEM_RET : Nat := 0x0C00010
/-- MEM_SCRUB_CFG, R408. -/
abbrev R.MEM_SCRUB_CFG : Nat := 0x0C00020
/-- MEM_DRAM_SCRUB, R408. -/
abbrev R.MEM_DRAM_SCRUB : Nat := 0x0C00024
/-- MEM_BIST_CTL, R410. -/
abbrev R.MEM_BIST_CTL : Nat := 0x0C00030
/-- MEM_BIST_STAT, R410. -/
abbrev R.MEM_BIST_STAT : Nat := 0x0C00034
/-- MEM_ECC_CNT(b), R412. -/
abbrev R.MEM_ECC_CNT (b : Nat) : Nat := 0x0C00100 + b * 8
/-- MEM_ECC_ADDR(b), R412. -/
abbrev R.MEM_ECC_ADDR (b : Nat) : Nat := 0x0C00104 + b * 8
/-- MEM_REPAIR(b), R412. -/
abbrev R.MEM_REPAIR (b : Nat) : Nat := 0x0C00140 + b * 4
/-- MEM_DENY_LOG0(j), R409. -/
abbrev R.MEM_DENY_LOG0 (j : Nat) : Nat := 0x0C00200 + j * 0x10
/-- MEM_DENY_LOG1(j), R409. -/
abbrev R.MEM_DENY_LOG1 (j : Nat) : Nat := 0x0C00204 + j * 0x10
/-- MEM_DENY_LOG2(j), R409. -/
abbrev R.MEM_DENY_LOG2 (j : Nat) : Nat := 0x0C00208 + j * 0x10
/-- MEM_DENY_LOG3(j), R409. -/
abbrev R.MEM_DENY_LOG3 (j : Nat) : Nat := 0x0C0020C + j * 0x10
/-- MEM_RGN_BASE(m, r), R411. -/
abbrev R.MEM_RGN_BASE (m : Nat) (r : Nat) : Nat := 0x0C10000 + m * 0x100 + r * 8
/-- MEM_RGN_LIM(m, r), R411. -/
abbrev R.MEM_RGN_LIM (m : Nat) (r : Nat) : Nat := 0x0C10004 + m * 0x100 + r * 8
/-- SYS_HOST_AP, R439. -/
abbrev R.SYS_HOST_AP : Nat := 0x0000100
/-- SYS_HOST_SCRATCH(j), R439. -/
abbrev R.SYS_HOST_SCRATCH (j : Nat) : Nat := 0x0000110 + j * 4
/-- MBX_STAT, R440. -/
abbrev R.MBX_STAT : Nat := 0x0D00000
/-- MBX_EARLY_CNT, R446. -/
abbrev R.MBX_EARLY_CNT : Nat := 0x0D00004
/-- MBX_HOST_DENY, R446. -/
abbrev R.MBX_HOST_DENY : Nat := 0x0D00008
/-- MBX_DENY_ADDR, R446. -/
abbrev R.MBX_DENY_ADDR : Nat := 0x0D0000C
/-- MBX_EVT_VEC(j), R441. -/
abbrev R.MBX_EVT_VEC (j : Nat) : Nat := 0x0D00020 + j * 4
/-- MBX_Z1_CTL, R442. -/
abbrev R.MBX_Z1_CTL : Nat := 0x0D00100
/-- MBX_Z1_WIN(w), R446. -/
abbrev R.MBX_Z1_WIN (w : Nat) : Nat := 0x0D00140 + w * 4
/-- MBX_QP_CFG(q), R443. -/
abbrev R.MBX_QP_CFG (q : Nat) : Nat := 0x0D10000 + q * 0x100 + 0x00
/-- MBX_QP_STAT(q), R444. -/
abbrev R.MBX_QP_STAT (q : Nat) : Nat := 0x0D10000 + q * 0x100 + 0x04
/-- MBX_Z3_SQ_BASE_LO(q), R446. -/
abbrev R.MBX_Z3_SQ_BASE_LO (q : Nat) : Nat := 0x0D10000 + q * 0x100 + 0x08
/-- MBX_Z3_SQ_BASE_HI(q), R446. -/
abbrev R.MBX_Z3_SQ_BASE_HI (q : Nat) : Nat := 0x0D10000 + q * 0x100 + 0x0C
/-- MBX_Z3_CQ_BASE_LO(q), R446. -/
abbrev R.MBX_Z3_CQ_BASE_LO (q : Nat) : Nat := 0x0D10000 + q * 0x100 + 0x10
/-- MBX_Z3_CQ_BASE_HI(q), R446. -/
abbrev R.MBX_Z3_CQ_BASE_HI (q : Nat) : Nat := 0x0D10000 + q * 0x100 + 0x14
/-- MBX_Z3_SIZE(q), R446. -/
abbrev R.MBX_Z3_SIZE (q : Nat) : Nat := 0x0D10000 + q * 0x100 + 0x18
/-- MBX_Z3_SQ_TAIL(q), R446. -/
abbrev R.MBX_Z3_SQ_TAIL (q : Nat) : Nat := 0x0D10000 + q * 0x100 + 0x20
/-- MBX_Z3_CQ_HEAD(q), R446. -/
abbrev R.MBX_Z3_CQ_HEAD (q : Nat) : Nat := 0x0D10000 + q * 0x100 + 0x24
/-- MBX_Z3_SQ_HEAD(q), R445. -/
abbrev R.MBX_Z3_SQ_HEAD (q : Nat) : Nat := 0x0D10000 + q * 0x100 + 0x28
/-- MBX_QP_DONE(q), R446. -/
abbrev R.MBX_QP_DONE (q : Nat) : Nat := 0x0D10000 + q * 0x100 + 0x2C
/-- MBX_Z2_CTL(q), R446. -/
abbrev R.MBX_Z2_CTL (q : Nat) : Nat := 0x0D10000 + q * 0x100 + 0x30
/-- MBX_Z2_SQ(q, w), R438. -/
abbrev R.MBX_Z2_SQ (q : Nat) (w : Nat) : Nat := 0x0D20000 + q * 0x80 + w * 4
/-- MBX_Z2_CQ(q, w), R438. -/
abbrev R.MBX_Z2_CQ (q : Nat) (w : Nat) : Nat := 0x0D20040 + q * 0x80 + w * 4
/-- MBX_MSIX_TABLE(v, w), R438. -/
abbrev R.MBX_MSIX_TABLE (v : Nat) (w : Nat) : Nat := 0x0D30000 + v * 16 + w * 4
/-- MBX_MSIX_CTRL(v), R438. -/
abbrev R.MBX_MSIX_CTRL (v : Nat) : Nat := 0x0D3000C + v * 16
/-- MBX_MSIX_PBA(j), R438. -/
abbrev R.MBX_MSIX_PBA (j : Nat) : Nat := 0x0D31000 + j * 4
/-- SYS_BOOT_STAT, R557. -/
abbrev R.SYS_BOOT_STAT : Nat := 0x0000040
/-- PWR_STAT, R531. -/
abbrev R.PWR_STAT : Nat := 0x0100000
/-- PWR_BKP_CFG, R532. -/
abbrev R.PWR_BKP_CFG : Nat := 0x0100004
/-- PWR_VOLT, R534. -/
abbrev R.PWR_VOLT : Nat := 0x0100008
/-- PWR_VMIN, R534. -/
abbrev R.PWR_VMIN : Nat := 0x010000C
/-- PWR_PARK_TIME, R534. -/
abbrev R.PWR_PARK_TIME : Nat := 0x0100010
/-- PWR_IDLE_STAT, R533. -/
abbrev R.PWR_IDLE_STAT : Nat := 0x0100020
/-- PWR_NEXT_LO, R534. -/
abbrev R.PWR_NEXT_LO : Nat := 0x0100024
/-- PWR_NEXT_HI, R534. -/
abbrev R.PWR_NEXT_HI : Nat := 0x0100028
/-- PWR_CNT, R534. -/
abbrev R.PWR_CNT : Nat := 0x0100030
/-- OTP_STAT, R559. -/
abbrev R.OTP_STAT : Nat := 0x0200000
/-- OTP_POLICY, R560. -/
abbrev R.OTP_POLICY : Nat := 0x0200004
/-- OTP_PORTMAP_LO, R562. -/
abbrev R.OTP_PORTMAP_LO : Nat := 0x0200008
/-- OTP_PORTMAP_HI, R562. -/
abbrev R.OTP_PORTMAP_HI : Nat := 0x020000C
/-- OTP_MARG_CNT, R562. -/
abbrev R.OTP_MARG_CNT : Nat := 0x0200010
/-- OTP_PROG_CTL, R561. -/
abbrev R.OTP_PROG_CTL : Nat := 0x0200020
/-- OTP_PROG_DATA_LO, R562. -/
abbrev R.OTP_PROG_DATA_LO : Nat := 0x0200024
/-- OTP_PROG_DATA_HI, R562. -/
abbrev R.OTP_PROG_DATA_HI : Nat := 0x0200028
/-- OTP_PROG_RB_LO, R562. -/
abbrev R.OTP_PROG_RB_LO : Nat := 0x020002C
/-- OTP_PROG_RB_HI, R562. -/
abbrev R.OTP_PROG_RB_HI : Nat := 0x0200030
/-- OTP_RD_ADDR, R562. -/
abbrev R.OTP_RD_ADDR : Nat := 0x0200038
/-- OTP_RD_DATA_LO, R562. -/
abbrev R.OTP_RD_DATA_LO : Nat := 0x020003C
/-- OTP_RD_DATA_HI, R562. -/
abbrev R.OTP_RD_DATA_HI : Nat := 0x0200040
/-- CAL_STAT, R563. -/
abbrev R.CAL_STAT : Nat := 0x0300000
/-- CAL_CTL, R564. -/
abbrev R.CAL_CTL : Nat := 0x0300004
/-- CAL_PORT_SEL, R565. -/
abbrev R.CAL_PORT_SEL : Nat := 0x0300008
/-- CAL_PORT_FAIL, R565. -/
abbrev R.CAL_PORT_FAIL : Nat := 0x030000C
/-- CAL_PORT_PEND, R565. -/
abbrev R.CAL_PORT_PEND : Nat := 0x0300010
/-- CAL_RREF, R565. -/
abbrev R.CAL_RREF : Nat := 0x0300014
/-- CAL_TB, R565. -/
abbrev R.CAL_TB : Nat := 0x0300018
/-- CAL_TEMP, R565. -/
abbrev R.CAL_TEMP : Nat := 0x030001C
/-- CAL_ENC_GAIN(k), R565. -/
abbrev R.CAL_ENC_GAIN (k : Nat) : Nat := 0x0300040 + k * 8
/-- CAL_ENC_REF(k), R565. -/
abbrev R.CAL_ENC_REF (k : Nat) : Nat := 0x0300044 + k * 8
/-- CAL_PORT_SKEW(n), R565. -/
abbrev R.CAL_PORT_SKEW (n : Nat) : Nat := 0x0300100 + n * 0x10
/-- CAL_PORT_TERM(n), R565. -/
abbrev R.CAL_PORT_TERM (n : Nat) : Nat := 0x0300104 + n * 0x10
/-- CAL_PORT_TS(n), R565. -/
abbrev R.CAL_PORT_TS (n : Nat) : Nat := 0x0300108 + n * 0x10
/-- CHN_CFG, R506. -/
abbrev R.CHN_CFG : Nat := 0x0E00000
/-- CHN_STAT, R507. -/
abbrev R.CHN_STAT : Nat := 0x0E00004
/-- CHN_MEMBERS, R508. -/
abbrev R.CHN_MEMBERS : Nat := 0x0E00008
/-- CHN_OFS, R508. -/
abbrev R.CHN_OFS : Nat := 0x0E00010
/-- CHN_DELAY, R508. -/
abbrev R.CHN_DELAY : Nat := 0x0E00014
/-- CHN_FTRIM, R508. -/
abbrev R.CHN_FTRIM : Nat := 0x0E00018
/-- CHN_ASYM(t), R508. -/
abbrev R.CHN_ASYM (t : Nat) : Nat := 0x0E00020 + t * 4
/-- CHN_COAST_LEN, R508. -/
abbrev R.CHN_COAST_LEN : Nat := 0x0E00030
/-- CHN_SYNC_CNT, R508. -/
abbrev R.CHN_SYNC_CNT : Nat := 0x0E00034
/-- CHN_OBS_CNT, R508. -/
abbrev R.CHN_OBS_CNT : Nat := 0x0E00038
/-- CHN_PCNT_ERR(t), R508. -/
abbrev R.CHN_PCNT_ERR (t : Nat) : Nat := 0x0E00100 + t * 0x10
/-- CHN_PCNT_DROP(t), R508. -/
abbrev R.CHN_PCNT_DROP (t : Nat) : Nat := 0x0E00104 + t * 0x10
/-- CHN_PCNT_LINK(t), R508. -/
abbrev R.CHN_PCNT_LINK (t : Nat) : Nat := 0x0E00108 + t * 0x10
/-- BLT_STAT, R582. -/
abbrev R.BLT_STAT : Nat := 0x0F00000
/-- BLT_CTL, R583. -/
abbrev R.BLT_CTL : Nat := 0x0F00004
/-- BLT_EVQ, R583. -/
abbrev R.BLT_EVQ : Nat := 0x0F00008
/-- BLT_FLUSH_CNT, R584. -/
abbrev R.BLT_FLUSH_CNT : Nat := 0x0F00010
/-- BLT_FLUSH_TIME, R584. -/
abbrev R.BLT_FLUSH_TIME : Nat := 0x0F00014
/-- BLT_GEN_LO, R584. -/
abbrev R.BLT_GEN_LO : Nat := 0x0F00018
/-- BLT_GEN_HI, R584. -/
abbrev R.BLT_GEN_HI : Nat := 0x0F0001C
/-- FIJ_STAT, R585. -/
abbrev R.FIJ_STAT : Nat := 0x1000000
/-- FIJ_TAINT, R585. -/
abbrev R.FIJ_TAINT : Nat := 0x1000004
/-- FIJ_SLOT_CFG(s), R586. -/
abbrev R.FIJ_SLOT_CFG (s : Nat) : Nat := 0x1000100 + s * 0x20 + 0x00
/-- FIJ_SLOT_RATE(s), R587. -/
abbrev R.FIJ_SLOT_RATE (s : Nat) : Nat := 0x1000100 + s * 0x20 + 0x04
/-- FIJ_SLOT_COUNT(s), R587. -/
abbrev R.FIJ_SLOT_COUNT (s : Nat) : Nat := 0x1000100 + s * 0x20 + 0x08
/-- FIJ_SLOT_DELAY(s), R587. -/
abbrev R.FIJ_SLOT_DELAY (s : Nat) : Nat := 0x1000100 + s * 0x20 + 0x0C
/-- FIJ_SLOT_HITS(s), R587. -/
abbrev R.FIJ_SLOT_HITS (s : Nat) : Nat := 0x1000100 + s * 0x20 + 0x10

/-! Fields of the registers: lowest bit and width. -/
abbrev F.SYS_ID_PORTS : Fld := ⟨0, 8⟩
abbrev F.SYS_ID_STEPPING : Fld := ⟨8, 8⟩
abbrev F.SYS_ID_PLANES_MAX : Fld := ⟨16, 4⟩
abbrev F.SYS_MODE_MODE : Fld := ⟨0, 3⟩
abbrev F.SYS_MODE_IDLE_SUB : Fld := ⟨4, 2⟩
abbrev F.SYS_MODE_ADMIT : Fld := ⟨8, 1⟩
abbrev F.SYS_MODE_FAULT_STOP : Fld := ⟨9, 1⟩
abbrev F.SYS_MODE_LIMITED : Fld := ⟨10, 1⟩
abbrev F.SYS_MODE_READY : Fld := ⟨11, 1⟩
abbrev F.SYS_MODE_PERMIT : Fld := ⟨12, 1⟩
abbrev F.SYS_ADMIT_STOP_TICK_OVR : Fld := ⟨0, 1⟩
abbrev F.SYS_ADMIT_STOP_TRACK : Fld := ⟨1, 1⟩
abbrev F.SYS_ADMIT_STOP_SYNC : Fld := ⟨2, 1⟩
abbrev F.SYS_ADMIT_STOP_PARK : Fld := ⟨3, 1⟩
abbrev F.SYS_ADMIT_STOP_FAULT : Fld := ⟨4, 1⟩
abbrev F.SYS_ADMIT_STOP_NOT_PRINT : Fld := ⟨5, 1⟩
abbrev F.SYS_TICK_STAT_LAST_DONE : Fld := ⟨0, 13⟩
abbrev F.SYS_TICK_STAT_MAX_DONE : Fld := ⟨16, 13⟩
abbrev F.SYS_TICK_STAT_OVERRUN : Fld := ⟨31, 1⟩
abbrev F.SYS_TICK_OVR_CNT_COUNT : Fld := ⟨0, 32⟩
abbrev F.SYS_DT_LO_DT : Fld := ⟨0, 32⟩
abbrev F.SYS_DT_HI_DT : Fld := ⟨0, 32⟩
abbrev F.ENC_CFG_MODE : Fld := ⟨0, 2⟩
abbrev F.ENC_CFG_ABS : Fld := ⟨2, 2⟩
abbrev F.ENC_CFG_IDX_EN : Fld := ⟨4, 1⟩
abbrev F.ENC_CFG_DIR : Fld := ⟨5, 1⟩
abbrev F.ENC_CFG_LISS_ADAPT : Fld := ⟨6, 1⟩
abbrev F.ENC_CFG_BW : Fld := ⟨8, 12⟩
abbrev F.ENC_CFG_ACQ : Fld := ⟨20, 1⟩
abbrev F.ENC_ABS_CFG_BITS : Fld := ⟨0, 6⟩
abbrev F.ENC_ABS_CFG_FRAC : Fld := ⟨6, 5⟩
abbrev F.ENC_ABS_CFG_GRAY : Fld := ⟨11, 1⟩
abbrev F.ENC_ABS_CFG_CLK_DIV : Fld := ⟨12, 4⟩
abbrev F.ENC_ABS_CFG_EWBITS : Fld := ⟨16, 2⟩
abbrev F.ENC_ABS_CFG_CRC_POLY : Fld := ⟨18, 6⟩
abbrev F.ENC_ABS_CFG_TIMEOUT : Fld := ⟨24, 8⟩
abbrev F.ENC_ABS_CHK_INTERVAL : Fld := ⟨0, 16⟩
abbrev F.ENC_ABS_CHK_LIMIT : Fld := ⟨16, 16⟩
abbrev F.ENC_ABS_OFS_ABS_OFS : Fld := ⟨0, 32⟩
abbrev F.ENC_IDX_SPACING_SPACING : Fld := ⟨0, 32⟩
abbrev F.ENC_IDX_CFG_TOL : Fld := ⟨0, 16⟩
abbrev F.ENC_IDX_CFG_EDGE : Fld := ⟨16, 1⟩
abbrev F.ENC_OBS_G1_G1 : Fld := ⟨0, 32⟩
abbrev F.ENC_OBS_G2_G2 : Fld := ⟨0, 32⟩
abbrev F.ENC_OBS_G3_G3 : Fld := ⟨0, 32⟩
abbrev F.ENC_FE_FE_LIMIT : Fld := ⟨0, 16⟩
abbrev F.ENC_FE_FE_TIME : Fld := ⟨16, 16⟩
abbrev F.ENC_COAST_LEN_COAST_LEN : Fld := ⟨0, 32⟩
abbrev F.ENC_HWM_CFG_HYST : Fld := ⟨0, 16⟩
abbrev F.ENC_STAT_STATE : Fld := ⟨0, 3⟩
abbrev F.ENC_STAT_ACQUIRED : Fld := ⟨3, 1⟩
abbrev F.ENC_STAT_SPEED_VALID : Fld := ⟨4, 1⟩
abbrev F.ENC_STAT_REVERSED : Fld := ⟨5, 1⟩
abbrev F.ENC_STAT_HOLD : Fld := ⟨6, 1⟩
abbrev F.ENC_STAT_EMIT : Fld := ⟨7, 1⟩
abbrev F.ENC_STAT_LOSS : Fld := ⟨8, 1⟩
abbrev F.ENC_STAT_FREEZE : Fld := ⟨9, 1⟩
abbrev F.ENC_STAT_TRACK_FAULT : Fld := ⟨10, 1⟩
abbrev F.ENC_STAT_ABS_DRIFT : Fld := ⟨11, 1⟩
abbrev F.ENC_STAT_INDEX_DRIFT : Fld := ⟨12, 1⟩
abbrev F.ENC_STAT_POS_WRAP : Fld := ⟨13, 1⟩
abbrev F.ENC_STAT_LISS_CLAMP : Fld := ⟨14, 1⟩
abbrev F.ENC_STAT_ACQ_FAIL : Fld := ⟨15, 1⟩
abbrev F.ENC_STAT_LOSS_CAUSE : Fld := ⟨16, 2⟩
abbrev F.ENC_STAT_REBASED : Fld := ⟨18, 1⟩
abbrev F.ENC_STAT_IDX_NEW : Fld := ⟨19, 1⟩
abbrev F.ENC_STAT_ABS_COMM : Fld := ⟨20, 1⟩
abbrev F.ENC_EVT_CNT_LOSS_CNT : Fld := ⟨0, 8⟩
abbrev F.ENC_EVT_CNT_FRZ_CNT : Fld := ⟨8, 8⟩
abbrev F.ENC_EVT_CNT_ABS_CNT : Fld := ⟨16, 8⟩
abbrev F.ENC_EVT_CNT_IDX_CNT : Fld := ⟨24, 8⟩
abbrev F.ENC_LISS_OFS_OS_S : Fld := ⟨0, 16⟩
abbrev F.ENC_LISS_OFS_OS_C : Fld := ⟨16, 16⟩
abbrev F.ENC_LISS_GP_GR : Fld := ⟨0, 16⟩
abbrev F.ENC_LISS_GP_PHI : Fld := ⟨16, 16⟩
abbrev F.ENC_POS_LO_POS : Fld := ⟨0, 32⟩
abbrev F.ENC_POS_HI_POS : Fld := ⟨0, 32⟩
abbrev F.ENC_VEL_VEL : Fld := ⟨0, 32⟩
abbrev F.ENC_ACC_ACC : Fld := ⟨0, 32⟩
abbrev F.ENC_RESID_RESID : Fld := ⟨0, 32⟩
abbrev F.ENC_AMP_AMP : Fld := ⟨0, 16⟩
abbrev F.ENC_HWM_LO_HWM : Fld := ⟨0, 32⟩
abbrev F.ENC_HWM_HI_HWM : Fld := ⟨0, 32⟩
abbrev F.ENC_INDEX_LATCH_LO_LATCH : Fld := ⟨0, 32⟩
abbrev F.ENC_INDEX_LATCH_HI_LATCH : Fld := ⟨0, 32⟩
abbrev F.ENC_INDEX_DT_LO_DT : Fld := ⟨0, 32⟩
abbrev F.ENC_INDEX_DT_HI_DT : Fld := ⟨0, 32⟩
abbrev F.ENC_ABS_DIFF_ABS_DIFF : Fld := ⟨0, 32⟩
abbrev F.DCT_STAT_ND_NEW : Fld := ⟨0, 1⟩
abbrev F.DCT_STAT_OVS_ANY : Fld := ⟨1, 1⟩
abbrev F.DCT_STAT_SLIP_ANY : Fld := ⟨2, 1⟩
abbrev F.DCT_SHARE_CFG_SET_MARGIN : Fld := ⟨0, 6⟩
abbrev F.DCT_SHARE_CFG_CLR_MARGIN : Fld := ⟨8, 6⟩
abbrev F.DCT_SHARE_CFG_SET_HOLD : Fld := ⟨16, 16⟩
abbrev F.DCT_ND_WR_NEXT : Fld := ⟨0, 4⟩
abbrev F.DCT_ND_WR_WRAPPED : Fld := ⟨4, 1⟩
abbrev F.DCT_PLANE_THROW_THROW : Fld := ⟨0, 32⟩
abbrev F.DCT_PLANE_CTL_ARM : Fld := ⟨0, 1⟩
abbrev F.DCT_PLANE_CTL_RUN : Fld := ⟨1, 1⟩
abbrev F.DCT_PLANE_CTL_HALT : Fld := ⟨2, 1⟩
abbrev F.DCT_PLANE_START_LO_START : Fld := ⟨0, 32⟩
abbrev F.DCT_PLANE_START_HI_START : Fld := ⟨0, 32⟩
abbrev F.DCT_PLANE_END_LO_END : Fld := ⟨0, 32⟩
abbrev F.DCT_PLANE_END_HI_END : Fld := ⟨0, 16⟩
abbrev F.DCT_ND_LOG0_LINE : Fld := ⟨0, 32⟩
abbrev F.DCT_ND_LOG1_LINE_HI : Fld := ⟨0, 16⟩
abbrev F.DCT_ND_LOG1_ROW : Fld := ⟨16, 6⟩
abbrev F.DCT_ND_LOG1_REASON : Fld := ⟨24, 3⟩
abbrev F.DCT_ND_LOG2_TS : Fld := ⟨0, 32⟩
abbrev F.DCT_ND_LOG3_TS : Fld := ⟨0, 32⟩
abbrev F.DCT_ROW_CFG_EN : Fld := ⟨0, 1⟩
abbrev F.DCT_ROW_CFG_SRC : Fld := ⟨1, 3⟩
abbrev F.DCT_ROW_CFG_PLANE : Fld := ⟨4, 3⟩
abbrev F.DCT_ROW_CFG_PAR : Fld := ⟨8, 1⟩
abbrev F.DCT_ROW_PITCH_LO_PITCH : Fld := ⟨0, 32⟩
abbrev F.DCT_ROW_PITCH_HI_PITCH : Fld := ⟨0, 32⟩
abbrev F.DCT_ROW_ORG_LO_ORG : Fld := ⟨0, 32⟩
abbrev F.DCT_ROW_ORG_HI_ORG : Fld := ⟨0, 32⟩
abbrev F.DCT_ROW_VEL_VEL : Fld := ⟨0, 32⟩
abbrev F.DCT_ROW_FLIGHT_FLIGHT : Fld := ⟨0, 32⟩
abbrev F.DCT_ROW_LEAD_LEAD : Fld := ⟨0, 16⟩
abbrev F.DCT_ROW_TMIN_TMIN : Fld := ⟨0, 24⟩
abbrev F.DCT_ROW_STAT_RUN : Fld := ⟨0, 1⟩
abbrev F.DCT_ROW_STAT_SHARE_OK : Fld := ⟨1, 1⟩
abbrev F.DCT_ROW_STAT_OVS : Fld := ⟨2, 1⟩
abbrev F.DCT_ROW_STAT_OVS_SEEN : Fld := ⟨3, 1⟩
abbrev F.DCT_ROW_STAT_SLIP : Fld := ⟨4, 1⟩
abbrev F.DCT_ROW_STAT_GUARD : Fld := ⟨5, 1⟩
abbrev F.DCT_ROW_STAT_QDEPTH : Fld := ⟨8, 5⟩
abbrev F.DCT_ROW_PERIOD_PERIOD : Fld := ⟨0, 32⟩
abbrev F.DCT_ROW_LINE_LO_LINE : Fld := ⟨0, 32⟩
abbrev F.DCT_ROW_LINE_HI_LINE : Fld := ⟨0, 16⟩
abbrev F.DCT_ROW_GPOS_LO_GPOS : Fld := ⟨0, 32⟩
abbrev F.DCT_ROW_GPOS_HI_GPOS : Fld := ⟨0, 32⟩
abbrev F.DCT_ROW_QTS_LO_QTS : Fld := ⟨0, 32⟩
abbrev F.DCT_ROW_QTS_HI_QTS : Fld := ⟨0, 32⟩
abbrev F.DCT_ROW_DLV_LO_DLV : Fld := ⟨0, 32⟩
abbrev F.DCT_ROW_DLV_HI_DLV : Fld := ⟨0, 32⟩
abbrev F.DCT_ROW_BLK_COUNT : Fld := ⟨0, 32⟩
abbrev F.DCT_ROW_ND_COUNT : Fld := ⟨0, 32⟩
abbrev F.DCT_LOOP_CFG_EN : Fld := ⟨0, 1⟩
abbrev F.DCT_LOOP_CFG_ARMED : Fld := ⟨1, 1⟩
abbrev F.DCT_LOOP_CFG_STALE : Fld := ⟨2, 1⟩
abbrev F.DCT_LOOP_CFG_SP : Fld := ⟨16, 16⟩
abbrev F.DCT_LOOP_KP_KP : Fld := ⟨0, 16⟩
abbrev F.DCT_LOOP_KI_KI : Fld := ⟨0, 24⟩
abbrev F.DCT_LOOP_I_I : Fld := ⟨0, 32⟩
abbrev F.DCT_LOOP_OUT_WF : Fld := ⟨0, 10⟩
abbrev F.DCT_LOOP_OUT_TEMP : Fld := ⟨16, 16⟩
abbrev F.DCT_LOOP_SAT_SAT_P : Fld := ⟨0, 1⟩
abbrev F.DCT_LOOP_SAT_SAT_I : Fld := ⟨1, 1⟩
abbrev F.DCT_LOOP_SAT_SAT_OUT : Fld := ⟨2, 1⟩
abbrev F.DCT_LOOP_SAT_FE : Fld := ⟨3, 1⟩
abbrev F.DCT_LOOP_SAT_FE_CNT : Fld := ⟨16, 16⟩
abbrev F.DCT_THERM_FE_TFE_LIMIT : Fld := ⟨0, 16⟩
abbrev F.DCT_THERM_FE_TFE_TIME : Fld := ⟨16, 16⟩
abbrev F.DCT_THERM_BLK_BLK : Fld := ⟨0, 32⟩
abbrev F.DCT_THERM_OK_OK : Fld := ⟨0, 32⟩
abbrev F.DCT_THERM_STALE_STALE_LIM : Fld := ⟨0, 16⟩
abbrev F.SCR_STAT_ACTIVE : Fld := ⟨0, 8⟩
abbrev F.SCR_STAT_STALLED : Fld := ⟨8, 8⟩
abbrev F.SCR_ARR_BASE_ARR_BASE : Fld := ⟨6, 14⟩
abbrev F.SCR_ARR_SIZE_W_A : Fld := ⟨0, 10⟩
abbrev F.SCR_ARR_SIZE_H_A : Fld := ⟨16, 10⟩
abbrev F.SCR_ARR_SIZE_VALID : Fld := ⟨31, 1⟩
abbrev F.SCR_PLANE_CFG_FMT : Fld := ⟨0, 2⟩
abbrev F.SCR_PLANE_CFG_P1_CODE : Fld := ⟨2, 1⟩
abbrev F.SCR_PLANE_CFG_STORED : Fld := ⟨3, 1⟩
abbrev F.SCR_PLANE_CFG_ARRAY : Fld := ⟨4, 3⟩
abbrev F.SCR_PLANE_CFG_DBL_EN : Fld := ⟨7, 1⟩
abbrev F.SCR_PLANE_CFG_CODE_DEPTH : Fld := ⟨8, 5⟩
abbrev F.SCR_PLANE_CTL_COMMIT : Fld := ⟨0, 1⟩
abbrev F.SCR_PLANE_CTL_PAUSE : Fld := ⟨1, 1⟩
abbrev F.SCR_PLANE_CTL_RESET : Fld := ⟨2, 1⟩
abbrev F.SCR_PLANE_STAT_FIFO_LVL : Fld := ⟨0, 5⟩
abbrev F.SCR_PLANE_STAT_WAIT_DATA : Fld := ⟨5, 1⟩
abbrev F.SCR_PLANE_STAT_WAIT_RING : Fld := ⟨6, 1⟩
abbrev F.SCR_PLANE_STAT_PAUSED : Fld := ⟨7, 1⟩
abbrev F.SCR_PLANE_STAT_STALL : Fld := ⟨8, 1⟩
abbrev F.SCR_PLANE_STAT_P2_WARM : Fld := ⟨9, 1⟩
abbrev F.SCR_PLANE_STAT_BADLN : Fld := ⟨10, 1⟩
abbrev F.SCR_PLANE_STAT_FIFO_OVF : Fld := ⟨11, 1⟩
abbrev F.SCR_PLANE_WIDTH_W : Fld := ⟨0, 17⟩
abbrev F.SCR_PLANE_IMG_BASE_LO_BASE : Fld := ⟨6, 26⟩
abbrev F.SCR_PLANE_IMG_BASE_HI_BASE : Fld := ⟨0, 32⟩
abbrev F.SCR_PLANE_IMG_LINES_IMG_LINES : Fld := ⟨0, 24⟩
abbrev F.SCR_PLANE_CODE_BASE_LO_BASE : Fld := ⟨6, 26⟩
abbrev F.SCR_PLANE_CODE_BASE_HI_BASE : Fld := ⟨0, 32⟩
abbrev F.SCR_PLANE_PAGE_PAGE_LINES : Fld := ⟨0, 24⟩
abbrev F.SCR_PLANE_GAP_GAP_LINES : Fld := ⟨0, 16⟩
abbrev F.SCR_PLANE_JOBLN_LO_JOBLN : Fld := ⟨0, 32⟩
abbrev F.SCR_PLANE_JOBLN_HI_JOBLN : Fld := ⟨0, 16⟩
abbrev F.SCR_PLANE_TRC_TRC_BASE : Fld := ⟨0, 12⟩
abbrev F.SCR_PLANE_OFS_XOFS : Fld := ⟨0, 9⟩
abbrev F.SCR_PLANE_OFS_YOFS : Fld := ⟨16, 9⟩
abbrev F.SCR_STRIP_PUSH_COUNT : Fld := ⟨0, 24⟩
abbrev F.SCR_PLANE_AVAIL_LO_AVAIL : Fld := ⟨0, 32⟩
abbrev F.SCR_PLANE_AVAIL_HI_AVAIL : Fld := ⟨0, 16⟩
abbrev F.SCR_PLANE_DONE_LO_DONE : Fld := ⟨0, 32⟩
abbrev F.SCR_PLANE_DONE_HI_DONE : Fld := ⟨0, 16⟩
abbrev F.SCR_PLANE_RETIRED_LO_RETIRED : Fld := ⟨0, 32⟩
abbrev F.SCR_PLANE_RETIRED_HI_RETIRED : Fld := ⟨0, 16⟩
abbrev F.SCR_PLANE_CHG_LO_CHG : Fld := ⟨0, 32⟩
abbrev F.SCR_PLANE_CHG_HI_CHG : Fld := ⟨0, 16⟩
abbrev F.SCR_PLANE_BADLN_LO_BADLN : Fld := ⟨0, 32⟩
abbrev F.SCR_PLANE_BADLN_HI_BADLN : Fld := ⟨0, 16⟩
abbrev F.SCR_PLANE_P2W_CNT_COUNT : Fld := ⟨0, 32⟩
abbrev F.NZP_PLANE_CTL_COMMIT : Fld := ⟨0, 1⟩
abbrev F.NZP_PLANE_CTL_PENDING : Fld := ⟨1, 1⟩
abbrev F.NZP_PLANE_CTL_OLD_LIVE : Fld := ⟨2, 1⟩
abbrev F.NZP_PLANE_CTL_GEN : Fld := ⟨3, 1⟩
abbrev F.NZP_PLANE_CTL_UNSERVED : Fld := ⟨4, 1⟩
abbrev F.NZP_PLANE_EFF_LO_EFF : Fld := ⟨0, 32⟩
abbrev F.NZP_PLANE_EFF_HI_EFF : Fld := ⟨0, 16⟩
abbrev F.NZP_MAP_CFG_EN : Fld := ⟨0, 1⟩
abbrev F.NZP_MAP_CFG_REV : Fld := ⟨1, 1⟩
abbrev F.NZP_MAP_CFG_POLICY : Fld := ⟨2, 2⟩
abbrev F.NZP_MAP_CFG_NPR : Fld := ⟨4, 12⟩
abbrev F.NZP_MAP_CFG_UOFS : Fld := ⟨16, 12⟩
abbrev F.NZP_MAP_COL_COL0 : Fld := ⟨0, 17⟩
abbrev F.NZP_MAP_COL_NCOL : Fld := ⟨20, 12⟩
abbrev F.NZP_HEAD_STAT_MASKED : Fld := ⟨0, 13⟩
abbrev F.NZP_HEAD_STAT_OPU : Fld := ⟨16, 1⟩
abbrev F.NZP_HEAD_STAT_NEW_MASK : Fld := ⟨17, 1⟩
abbrev F.NZP_HEAD_STAT_SHARE_LOST : Fld := ⟨18, 1⟩
abbrev F.NZP_CNT_SHARE_COUNT : Fld := ⟨0, 32⟩
abbrev F.NZP_CNT_SPREAD_COUNT : Fld := ⟨0, 32⟩
abbrev F.NZP_CNT_LOST_COUNT : Fld := ⟨0, 32⟩
abbrev F.NZP_CNT_DBL_COUNT : Fld := ⟨0, 32⟩
abbrev F.NZP_CNT_SHARE_LOST_COUNT : Fld := ⟨0, 32⟩
abbrev F.NZP_CNT_SAT_COUNT : Fld := ⟨0, 32⟩
abbrev F.NZP_SQ_CFG_SQ_TOL : Fld := ⟨0, 16⟩
abbrev F.NZP_SQ_CFG_SQ_EN : Fld := ⟨16, 1⟩
abbrev F.NZP_TH_CFG_TM_EN : Fld := ⟨0, 1⟩
abbrev F.NZP_TH_CFG_LA_EN : Fld := ⟨1, 1⟩
abbrev F.NZP_TH_CFG_BG_EN : Fld := ⟨2, 1⟩
abbrev F.NZP_TH_CFG_IW_EN : Fld := ⟨3, 1⟩
abbrev F.NZP_TH_CFG_WARM_MAX : Fld := ⟨4, 4⟩
abbrev F.NZP_TH_CFG_IW_INT : Fld := ⟨8, 8⟩
abbrev F.NZP_TH_CFG_WARM_THR : Fld := ⟨16, 16⟩
abbrev F.NZP_TH_DECAY_INV_HALF : Fld := ⟨0, 32⟩
abbrev F.NZP_TH_RISE_RISE_S : Fld := ⟨0, 16⟩
abbrev F.NZP_TH_RISE_RISE_L : Fld := ⟨16, 16⟩
abbrev F.NZP_TH_RISEW_RISE_W : Fld := ⟨0, 16⟩
abbrev F.NZP_TH_STAT_SQ_A : Fld := ⟨0, 1⟩
abbrev F.NZP_TH_STAT_SQ_B : Fld := ⟨1, 1⟩
abbrev F.NZP_TH_STAT_WARM_LATE : Fld := ⟨2, 1⟩
abbrev F.NZP_TH_STAT_WMISS : Fld := ⟨3, 1⟩
abbrev F.NZP_TH_STAT_IW_ACTIVE : Fld := ⟨4, 1⟩
abbrev F.NZP_TH_PSPEC_A_PSPEC : Fld := ⟨0, 32⟩
abbrev F.NZP_TH_PSPEC_B_PSPEC : Fld := ⟨0, 32⟩
abbrev F.NZP_WBUD_WBUD : Fld := ⟨0, 9⟩
abbrev F.NZP_WBUD_BG_CAP : Fld := ⟨16, 9⟩
abbrev F.NZP_CNT_SQUASH_COUNT : Fld := ⟨0, 32⟩
abbrev F.NZP_CNT_WARM_LATE_COUNT : Fld := ⟨0, 32⟩
abbrev F.NZP_CNT_WMISS_COUNT : Fld := ⟨0, 32⟩
abbrev F.NZP_CNT_WBUD_COUNT : Fld := ⟨0, 32⟩
abbrev F.NZP_CNT_WARM_COUNT : Fld := ⟨0, 32⟩
abbrev F.NZP_CNT_IW_COUNT : Fld := ⟨0, 32⟩
abbrev F.HP_CFG_TYPE : Fld := ⟨0, 2⟩
abbrev F.HP_CFG_EN : Fld := ⟨2, 1⟩
abbrev F.HP_CFG_SCLK_SEL : Fld := ⟨3, 1⟩
abbrev F.HP_CFG_RESTART : Fld := ⟨4, 1⟩
abbrev F.HP_CFG_EW_EN : Fld := ⟨5, 1⟩
abbrev F.HP_STAT_STATE : Fld := ⟨0, 3⟩
abbrev F.HP_STAT_FIRE_EN : Fld := ⟨3, 1⟩
abbrev F.HP_STAT_LOST : Fld := ⟨4, 1⟩
abbrev F.HP_STAT_LANE_LOCK : Fld := ⟨8, 4⟩
abbrev F.HP_STAT_TS_RANGE : Fld := ⟨12, 1⟩
abbrev F.HP_STAT_LINK_FAIL : Fld := ⟨16, 8⟩
abbrev F.HP_STB_W_PRE : Fld := ⟨0, 11⟩
abbrev F.HP_STB_W_GAP : Fld := ⟨11, 11⟩
abbrev F.HP_STB_ENV_ENV : Fld := ⟨0, 12⟩
abbrev F.HP_STB_ENV_SHORT : Fld := ⟨16, 12⟩
abbrev F.HP_TRIM_W_WS : Fld := ⟨0, 12⟩
abbrev F.HP_TRIM_W_WL : Fld := ⟨16, 12⟩
abbrev F.HP_TRIM_CTL_GO : Fld := ⟨0, 1⟩
abbrev F.HP_TRIM_CTL_READY : Fld := ⟨1, 1⟩
abbrev F.HP_TRIM_CTL_FAIL : Fld := ⟨2, 1⟩
abbrev F.HP_TRIM_CTL_TID_CUR : Fld := ⟨4, 2⟩
abbrev F.HP_TRIM_CTL_TID_PEND : Fld := ⟨6, 2⟩
abbrev F.HP_TRIM_CTL_RESENT : Fld := ⟨8, 8⟩
abbrev F.HP_EW_CFG_EW_WIN : Fld := ⟨0, 10⟩
abbrev F.HP_EW_CFG_EW_IW_DROP : Fld := ⟨16, 16⟩
abbrev F.HP_EW_LIMIT_EW_LIMIT : Fld := ⟨0, 32⟩
abbrev F.HP_EW_SUM_SUM : Fld := ⟨0, 32⟩
abbrev F.HP_WDOG_PRE_A : Fld := ⟨0, 1⟩
abbrev F.HP_WDOG_MAIN_A : Fld := ⟨1, 1⟩
abbrev F.HP_WDOG_PRE_B : Fld := ⟨2, 1⟩
abbrev F.HP_WDOG_MAIN_B : Fld := ⟨3, 1⟩
abbrev F.HP_WDOG_ENERGY : Fld := ⟨4, 1⟩
abbrev F.HP_WDOG_OFFLINE : Fld := ⟨5, 1⟩
abbrev F.HP_WDOG_SELFTEST_FAIL : Fld := ⟨6, 1⟩
abbrev F.HP_WDOG_SELFTEST : Fld := ⟨7, 1⟩
abbrev F.HP_TS_CFG_NF : Fld := ⟨0, 16⟩
abbrev F.HP_CNT_NAK_COUNT : Fld := ⟨0, 32⟩
abbrev F.HP_CNT_ACK_TO_COUNT : Fld := ⟨0, 32⟩
abbrev F.HP_CNT_BC_BC_CRC : Fld := ⟨0, 16⟩
abbrev F.HP_CNT_BC_BC_SEQ : Fld := ⟨16, 16⟩
abbrev F.HP_CNT_UNMATCHED_COUNT : Fld := ⟨0, 32⟩
abbrev F.HP_CNT_FRAMES_LO_FRAMES : Fld := ⟨0, 32⟩
abbrev F.HP_CNT_FRAMES_HI_FRAMES : Fld := ⟨0, 32⟩
abbrev F.HP_TEMP_TEMP : Fld := ⟨0, 16⟩
abbrev F.HP_TEMP_AGE : Fld := ⟨16, 16⟩
abbrev F.DGV_PLANE_CFG_PR_EN : Fld := ⟨0, 1⟩
abbrev F.DGV_PLANE_CFG_PR_MAX : Fld := ⟨1, 5⟩
abbrev F.DGV_PLANE_CFG_GUARD : Fld := ⟨8, 8⟩
abbrev F.DGV_CFG_EN : Fld := ⟨0, 1⟩
abbrev F.DGV_CFG_AUTO_MASK : Fld := ⟨1, 1⟩
abbrev F.DGV_CFG_AUTO_TRIM : Fld := ⟨2, 1⟩
abbrev F.DGV_CFG_AUTO_VEL : Fld := ⟨3, 1⟩
abbrev F.DGV_CFG_MASK_WEAK : Fld := ⟨4, 1⟩
abbrev F.DGV_CFG_MASK_SLOW : Fld := ⟨5, 1⟩
abbrev F.DGV_CFG_VSHIFT : Fld := ⟨8, 4⟩
abbrev F.DGV_CFG_MISS_BURST : Fld := ⟨12, 4⟩
abbrev F.DGV_TH_TH_DET : Fld := ⟨0, 8⟩
abbrev F.DGV_TH_TH_FULL : Fld := ⟨8, 8⟩
abbrev F.DGV_TH_BASE_MIN : Fld := ⟨16, 8⟩
abbrev F.DGV_TH_BASE_MAX : Fld := ⟨24, 8⟩
abbrev F.DGV_WIN_WIN_OPEN : Fld := ⟨0, 16⟩
abbrev F.DGV_WIN_WIN_CLOSE : Fld := ⟨16, 16⟩
abbrev F.DGV_GEOM_DIST : Fld := ⟨0, 16⟩
abbrev F.DGV_GEOM_T0 : Fld := ⟨16, 16⟩
abbrev F.DGV_VBAND_V_MIN : Fld := ⟨0, 16⟩
abbrev F.DGV_VBAND_V_MAX : Fld := ⟨16, 16⟩
abbrev F.DGV_SWEEP_POS : Fld := ⟨0, 13⟩
abbrev F.DGV_SWEEP_PASS : Fld := ⟨16, 16⟩
abbrev F.DGV_SVC_GO : Fld := ⟨0, 1⟩
abbrev F.DGV_SVC_BUSY : Fld := ⟨1, 1⟩
abbrev F.DGV_SVC_RETEST : Fld := ⟨2, 1⟩
abbrev F.DGV_SVC_DONE : Fld := ⟨3, 1⟩
abbrev F.DGV_SVC_SVC_INT : Fld := ⟨8, 8⟩
abbrev F.DGV_STAT_GATE_FAULT : Fld := ⟨0, 1⟩
abbrev F.DGV_STAT_GATE_SUSPECT : Fld := ⟨1, 1⟩
abbrev F.DGV_STAT_NO_WINDOW : Fld := ⟨2, 1⟩
abbrev F.DGV_STAT_RQ_OVF : Fld := ⟨3, 1⟩
abbrev F.DGV_STAT_TRIM_PEND : Fld := ⟨4, 1⟩
abbrev F.DGV_STAT_RQ_LVL : Fld := ⟨8, 5⟩
abbrev F.DGV_STAT_NDRUN : Fld := ⟨16, 4⟩
abbrev F.DGV_LAST_NOZZLE : Fld := ⟨0, 13⟩
abbrev F.DGV_LAST_RESULT : Fld := ⟨13, 3⟩
abbrev F.DGV_LAST_ARRIVAL : Fld := ⟨16, 16⟩
abbrev F.DGV_LEVEL_BASE : Fld := ⟨0, 8⟩
abbrev F.DGV_LEVEL_DEPTH : Fld := ⟨8, 8⟩
abbrev F.DGV_CNT_PROBE_COUNT : Fld := ⟨0, 32⟩
abbrev F.DGV_CNT_OK_COUNT : Fld := ⟨0, 32⟩
abbrev F.DGV_CNT_SLOW_COUNT : Fld := ⟨0, 32⟩
abbrev F.DGV_CNT_WEAK_COUNT : Fld := ⟨0, 32⟩
abbrev F.DGV_CNT_MISS_COUNT : Fld := ⟨0, 32⟩
abbrev F.DGV_CNT_MISSING_COUNT : Fld := ⟨0, 32⟩
abbrev F.DGV_CNT_VOID_COUNT : Fld := ⟨0, 32⟩
abbrev F.DGV_CNT_TRIM_UP_COUNT : Fld := ⟨0, 32⟩
abbrev F.DGV_CNT_TRIM_DN_COUNT : Fld := ⟨0, 32⟩
abbrev F.DMA_GSTAT_GHALT : Fld := ⟨0, 1⟩
abbrev F.DMA_GSTAT_HALT_CH : Fld := ⟨8, 6⟩
abbrev F.DMA_GSTAT_DB_DENY : Fld := ⟨16, 16⟩
abbrev F.DMA_BUF_USED : Fld := ⟨0, 9⟩
abbrev F.DMA_BUF_MAX_USED : Fld := ⟨16, 9⟩
abbrev F.DMA_CH_CFG_HOST : Fld := ⟨0, 1⟩
abbrev F.DMA_CH_CFG_DESC_NS : Fld := ⟨1, 1⟩
abbrev F.DMA_CH_CFG_PRIO : Fld := ⟨2, 1⟩
abbrev F.DMA_CH_CFG_MAX_BLK : Fld := ⟨8, 9⟩
abbrev F.DMA_CH_CTL_START : Fld := ⟨0, 1⟩
abbrev F.DMA_CH_CTL_DISABLE : Fld := ⟨1, 1⟩
abbrev F.DMA_CH_STAT_STATE : Fld := ⟨0, 3⟩
abbrev F.DMA_CH_STAT_PEND : Fld := ⟨3, 1⟩
abbrev F.DMA_CH_STAT_BUS_ERR : Fld := ⟨4, 1⟩
abbrev F.DMA_CH_STAT_CHAIN_BREAK : Fld := ⟨5, 1⟩
abbrev F.DMA_CH_STAT_FETCH_ERR : Fld := ⟨6, 1⟩
abbrev F.DMA_CH_STAT_EVT_LOST : Fld := ⟨7, 1⟩
abbrev F.DMA_CH_STAT_DB_IGN : Fld := ⟨8, 1⟩
abbrev F.DMA_CH_STAT_CAUSE : Fld := ⟨12, 3⟩
abbrev F.DMA_CH_STAT_LIMITED : Fld := ⟨15, 1⟩
abbrev F.DMA_CH_STAT_BLK : Fld := ⟨16, 9⟩
abbrev F.DMA_CH_PTR_LO_SP : Fld := ⟨0, 2⟩
abbrev F.DMA_CH_PTR_LO_PTR : Fld := ⟨5, 27⟩
abbrev F.DMA_CH_PTR_HI_PTR : Fld := ⟨0, 32⟩
abbrev F.DMA_CH_START_LO_SP : Fld := ⟨0, 2⟩
abbrev F.DMA_CH_START_LO_PTR : Fld := ⟨5, 27⟩
abbrev F.DMA_CH_START_HI_PTR : Fld := ⟨0, 32⟩
abbrev F.DMA_CH_ERRADDR_LO_ADDR : Fld := ⟨0, 32⟩
abbrev F.DMA_CH_ERRADDR_HI_ADDR : Fld := ⟨0, 32⟩
abbrev F.DMA_CH_CNT_BAD_CNT : Fld := ⟨0, 16⟩
abbrev F.DMA_CH_CNT_ERR_CNT : Fld := ⟨16, 16⟩
abbrev F.DMA_CH_SEQ_SEQ : Fld := ⟨0, 16⟩
abbrev F.DMA_CH_SEQ_LIMIT : Fld := ⟨16, 16⟩
abbrev F.DMA_DB_PTR_LO_SP : Fld := ⟨0, 2⟩
abbrev F.DMA_DB_PTR_LO_PTR : Fld := ⟨5, 27⟩
abbrev F.DMA_DB_PTR_HI_PTR : Fld := ⟨0, 32⟩
abbrev F.DMA_DB_LIMIT_LIMIT : Fld := ⟨0, 16⟩
abbrev F.DMA_DB_LIMIT_NOLIM : Fld := ⟨16, 1⟩
abbrev F.MEM_STAT_DENY : Fld := ⟨0, 1⟩
abbrev F.MEM_STAT_ECC_CORR : Fld := ⟨1, 1⟩
abbrev F.MEM_STAT_ECC_UNCORR : Fld := ⟨2, 1⟩
abbrev F.MEM_STAT_L_INIT : Fld := ⟨3, 1⟩
abbrev F.MEM_STAT_DENY_NEXT : Fld := ⟨8, 3⟩
abbrev F.MEM_STAT_DENY_WRAP : Fld := ⟨11, 1⟩
abbrev F.MEM_RET_Q_HI : Fld := ⟨0, 1⟩
abbrev F.MEM_RET_N : Fld := ⟨1, 1⟩
abbrev F.MEM_RET_S : Fld := ⟨2, 1⟩
abbrev F.MEM_RET_D : Fld := ⟨3, 1⟩
abbrev F.MEM_RET_L_OFF : Fld := ⟨4, 1⟩
abbrev F.MEM_RET_AWAKE : Fld := ⟨16, 5⟩
abbrev F.MEM_SCRUB_CFG_EN : Fld := ⟨0, 1⟩
abbrev F.MEM_SCRUB_CFG_SRAM_PERIOD : Fld := ⟨16, 16⟩
abbrev F.MEM_DRAM_SCRUB_EN : Fld := ⟨0, 1⟩
abbrev F.MEM_DRAM_SCRUB_DRAM_PERIOD : Fld := ⟨16, 16⟩
abbrev F.MEM_BIST_CTL_BANKS : Fld := ⟨0, 6⟩
abbrev F.MEM_BIST_CTL_GO : Fld := ⟨8, 1⟩
abbrev F.MEM_BIST_CTL_ABORT : Fld := ⟨9, 1⟩
abbrev F.MEM_BIST_STAT_FAIL : Fld := ⟨0, 6⟩
abbrev F.MEM_BIST_STAT_BUSY : Fld := ⟨6, 1⟩
abbrev F.MEM_BIST_STAT_DONE : Fld := ⟨7, 1⟩
abbrev F.MEM_BIST_STAT_RESTARTS : Fld := ⟨16, 16⟩
abbrev F.MEM_ECC_CNT_CORR : Fld := ⟨0, 16⟩
abbrev F.MEM_ECC_CNT_UNCORR : Fld := ⟨16, 16⟩
abbrev F.MEM_ECC_ADDR_ADDR : Fld := ⟨0, 32⟩
abbrev F.MEM_REPAIR_COLS : Fld := ⟨0, 10⟩
abbrev F.MEM_DENY_LOG0_ADDR : Fld := ⟨0, 26⟩
abbrev F.MEM_DENY_LOG1_MASTER : Fld := ⟨0, 3⟩
abbrev F.MEM_DENY_LOG1_WRITE : Fld := ⟨3, 1⟩
abbrev F.MEM_DENY_LOG1_CAUSE : Fld := ⟨4, 3⟩
abbrev F.MEM_DENY_LOG2_DT : Fld := ⟨0, 32⟩
abbrev F.MEM_DENY_LOG3_DT : Fld := ⟨0, 32⟩
abbrev F.MEM_RGN_BASE_EN : Fld := ⟨0, 1⟩
abbrev F.MEM_RGN_BASE_R : Fld := ⟨1, 1⟩
abbrev F.MEM_RGN_BASE_W : Fld := ⟨2, 1⟩
abbrev F.MEM_RGN_BASE_BASE : Fld := ⟨8, 16⟩
abbrev F.MEM_RGN_LIM_LIMIT : Fld := ⟨8, 16⟩
abbrev F.SYS_HOST_AP_BASE_GIB : Fld := ⟨0, 5⟩
abbrev F.SYS_HOST_SCRATCH_SCRATCH : Fld := ⟨0, 32⟩
abbrev F.MBX_STAT_READY : Fld := ⟨0, 1⟩
abbrev F.MBX_STAT_LIMITED : Fld := ⟨1, 1⟩
abbrev F.MBX_STAT_DIAG : Fld := ⟨2, 1⟩
abbrev F.MBX_STAT_Z1_ON : Fld := ⟨3, 1⟩
abbrev F.MBX_EARLY_CNT_COUNT : Fld := ⟨0, 32⟩
abbrev F.MBX_HOST_DENY_COUNT : Fld := ⟨0, 32⟩
abbrev F.MBX_DENY_ADDR_ADDR : Fld := ⟨0, 26⟩
abbrev F.MBX_EVT_VEC_VEC : Fld := ⟨0, 6⟩
abbrev F.MBX_EVT_VEC_EN : Fld := ⟨6, 1⟩
abbrev F.MBX_Z1_CTL_GO : Fld := ⟨0, 1⟩
abbrev F.MBX_Z1_CTL_IRQ : Fld := ⟨1, 1⟩
abbrev F.MBX_Z1_WIN_WORD : Fld := ⟨0, 32⟩
abbrev F.MBX_QP_CFG_MODE : Fld := ⟨0, 2⟩
abbrev F.MBX_QP_CFG_NS : Fld := ⟨2, 1⟩
abbrev F.MBX_QP_CFG_VEC : Fld := ⟨8, 6⟩
abbrev F.MBX_QP_CFG_COAL : Fld := ⟨16, 8⟩
abbrev F.MBX_QP_STAT_STATE : Fld := ⟨0, 2⟩
abbrev F.MBX_QP_STAT_DB_ERR : Fld := ⟨2, 1⟩
abbrev F.MBX_QP_STAT_LATCHED : Fld := ⟨3, 1⟩
abbrev F.MBX_QP_STAT_OVF : Fld := ⟨4, 1⟩
abbrev F.MBX_QP_STAT_FETCH_ERR : Fld := ⟨5, 1⟩
abbrev F.MBX_QP_STAT_SQ_LVL : Fld := ⟨8, 5⟩
abbrev F.MBX_QP_STAT_CQ_LVL : Fld := ⟨16, 5⟩
abbrev F.MBX_Z3_SQ_BASE_LO_BASE : Fld := ⟨12, 20⟩
abbrev F.MBX_Z3_SQ_BASE_HI_BASE : Fld := ⟨0, 32⟩
abbrev F.MBX_Z3_CQ_BASE_LO_BASE : Fld := ⟨12, 20⟩
abbrev F.MBX_Z3_CQ_BASE_HI_BASE : Fld := ⟨0, 32⟩
abbrev F.MBX_Z3_SIZE_LOG2 : Fld := ⟨0, 4⟩
abbrev F.MBX_Z3_SQ_TAIL_TAIL : Fld := ⟨0, 12⟩
abbrev F.MBX_Z3_CQ_HEAD_HEAD : Fld := ⟨0, 12⟩
abbrev F.MBX_Z3_SQ_HEAD_SQ_HEAD : Fld := ⟨0, 12⟩
abbrev F.MBX_Z3_SQ_HEAD_CQ_TAIL : Fld := ⟨16, 12⟩
abbrev F.MBX_Z3_SQ_HEAD_PHASE : Fld := ⟨28, 1⟩
abbrev F.MBX_QP_DONE_COUNT : Fld := ⟨0, 32⟩
abbrev F.MBX_Z2_CTL_POP : Fld := ⟨0, 1⟩
abbrev F.MBX_Z2_SQ_WORD : Fld := ⟨0, 32⟩
abbrev F.MBX_Z2_CQ_WORD : Fld := ⟨0, 32⟩
abbrev F.MBX_MSIX_TABLE_WORD : Fld := ⟨0, 32⟩
abbrev F.MBX_MSIX_CTRL_MASK : Fld := ⟨0, 1⟩
abbrev F.MBX_MSIX_PBA_PEND : Fld := ⟨0, 32⟩
abbrev F.SYS_BOOT_STAT_STAGE : Fld := ⟨0, 4⟩
abbrev F.SYS_BOOT_STAT_SLOT : Fld := ⟨4, 1⟩
abbrev F.SYS_BOOT_STAT_FALLBACK : Fld := ⟨5, 1⟩
abbrev F.SYS_BOOT_STAT_DEV_BOOT : Fld := ⟨6, 1⟩
abbrev F.SYS_BOOT_STAT_NO_FW : Fld := ⟨7, 1⟩
abbrev F.SYS_BOOT_STAT_READY_MS : Fld := ⟨16, 16⟩
abbrev F.PWR_STAT_SUPPLY : Fld := ⟨0, 1⟩
abbrev F.PWR_STAT_RET_QUAL : Fld := ⟨1, 1⟩
abbrev F.PWR_STAT_BKP_OK : Fld := ⟨2, 1⟩
abbrev F.PWR_STAT_CHG : Fld := ⟨3, 1⟩
abbrev F.PWR_STAT_PARK : Fld := ⟨4, 1⟩
abbrev F.PWR_STAT_PARK_STEP : Fld := ⟨5, 3⟩
abbrev F.PWR_STAT_PARK_DONE : Fld := ⟨8, 1⟩
abbrev F.PWR_STAT_PARK_SRC : Fld := ⟨9, 2⟩
abbrev F.PWR_STAT_CAP_REQ : Fld := ⟨11, 1⟩
abbrev F.PWR_STAT_PARK_N : Fld := ⟨12, 1⟩
abbrev F.PWR_STAT_SWITCHED : Fld := ⟨13, 1⟩
abbrev F.PWR_STAT_RETURNED : Fld := ⟨14, 1⟩
abbrev F.PWR_STAT_PARK_INT : Fld := ⟨15, 1⟩
abbrev F.PWR_BKP_CFG_CHG_EN : Fld := ⟨0, 1⟩
abbrev F.PWR_BKP_CFG_CHG_I : Fld := ⟨1, 4⟩
abbrev F.PWR_BKP_CFG_CHG_V : Fld := ⟨8, 8⟩
abbrev F.PWR_BKP_CFG_BKP_MIN : Fld := ⟨16, 8⟩
abbrev F.PWR_VOLT_VMAIN : Fld := ⟨0, 16⟩
abbrev F.PWR_VOLT_VBKP : Fld := ⟨16, 16⟩
abbrev F.PWR_VMIN_VMIN : Fld := ⟨0, 16⟩
abbrev F.PWR_PARK_TIME_TIME : Fld := ⟨0, 20⟩
abbrev F.PWR_IDLE_STAT_SUB : Fld := ⟨0, 2⟩
abbrev F.PWR_IDLE_STAT_TARGET : Fld := ⟨2, 2⟩
abbrev F.PWR_IDLE_STAT_NEXT_SRC : Fld := ⟨4, 3⟩
abbrev F.PWR_IDLE_STAT_WAKING : Fld := ⟨7, 1⟩
abbrev F.PWR_NEXT_LO_NEXT : Fld := ⟨0, 32⟩
abbrev F.PWR_NEXT_HI_NEXT : Fld := ⟨0, 32⟩
abbrev F.PWR_CNT_SWITCHOVERS : Fld := ⟨0, 16⟩
abbrev F.PWR_CNT_RETURNS : Fld := ⟨16, 16⟩
abbrev F.OTP_STAT_FACT_ST : Fld := ⟨0, 2⟩
abbrev F.OTP_STAT_SEC_ST : Fld := ⟨2, 2⟩
abbrev F.OTP_STAT_CUST_ST : Fld := ⟨4, 2⟩
abbrev F.OTP_STAT_FACT_OK : Fld := ⟨6, 1⟩
abbrev F.OTP_STAT_SEC_OK : Fld := ⟨7, 1⟩
abbrev F.OTP_STAT_CUST_OK : Fld := ⟨8, 1⟩
abbrev F.OTP_STAT_KEY_REL : Fld := ⟨9, 1⟩
abbrev F.OTP_STAT_MARGINAL : Fld := ⟨10, 1⟩
abbrev F.OTP_STAT_MARG_WORD : Fld := ⟨16, 9⟩
abbrev F.OTP_POLICY_USAGE_ENFORCE : Fld := ⟨0, 1⟩
abbrev F.OTP_POLICY_UNTRUSTED_PRINT : Fld := ⟨1, 1⟩
abbrev F.OTP_POLICY_DIAG_ENABLE : Fld := ⟨2, 1⟩
abbrev F.OTP_POLICY_DEFAULTED : Fld := ⟨3, 1⟩
abbrev F.OTP_PORTMAP_LO_MAP : Fld := ⟨0, 32⟩
abbrev F.OTP_PORTMAP_HI_MAP : Fld := ⟨0, 32⟩
abbrev F.OTP_MARG_CNT_START : Fld := ⟨0, 16⟩
abbrev F.OTP_MARG_CNT_REREAD : Fld := ⟨16, 16⟩
abbrev F.OTP_PROG_CTL_GO : Fld := ⟨0, 1⟩
abbrev F.OTP_PROG_CTL_LOCK : Fld := ⟨1, 1⟩
abbrev F.OTP_PROG_CTL_REGION : Fld := ⟨2, 2⟩
abbrev F.OTP_PROG_CTL_RETRY : Fld := ⟨4, 1⟩
abbrev F.OTP_PROG_CTL_BUSY : Fld := ⟨5, 1⟩
abbrev F.OTP_PROG_CTL_DONE : Fld := ⟨6, 1⟩
abbrev F.OTP_PROG_CTL_FAIL : Fld := ⟨7, 1⟩
abbrev F.OTP_PROG_CTL_CLASH : Fld := ⟨8, 1⟩
abbrev F.OTP_PROG_CTL_WORD : Fld := ⟨16, 9⟩
abbrev F.OTP_PROG_DATA_LO_DATA : Fld := ⟨0, 32⟩
abbrev F.OTP_PROG_DATA_HI_DATA : Fld := ⟨0, 32⟩
abbrev F.OTP_PROG_RB_LO_RB : Fld := ⟨0, 32⟩
abbrev F.OTP_PROG_RB_HI_RB : Fld := ⟨0, 32⟩
abbrev F.OTP_RD_ADDR_ADDR : Fld := ⟨0, 9⟩
abbrev F.OTP_RD_DATA_LO_DATA : Fld := ⟨0, 32⟩
abbrev F.OTP_RD_DATA_HI_DATA : Fld := ⟨0, 32⟩
abbrev F.CAL_STAT_DONE : Fld := ⟨0, 1⟩
abbrev F.CAL_STAT_BUSY : Fld := ⟨1, 1⟩
abbrev F.CAL_STAT_RREF_FAULT : Fld := ⟨2, 1⟩
abbrev F.CAL_STAT_TB_FAIL : Fld := ⟨3, 1⟩
abbrev F.CAL_STAT_ENC_FAIL : Fld := ⟨4, 1⟩
abbrev F.CAL_STAT_TS_FAIL : Fld := ⟨5, 1⟩
abbrev F.CAL_STAT_SKEW_FAIL : Fld := ⟨6, 1⟩
abbrev F.CAL_STAT_LVDS_FAIL : Fld := ⟨7, 1⟩
abbrev F.CAL_STAT_PEND : Fld := ⟨8, 1⟩
abbrev F.CAL_STAT_RUNS : Fld := ⟨16, 16⟩
abbrev F.CAL_CTL_GO : Fld := ⟨0, 1⟩
abbrev F.CAL_CTL_SCOPE : Fld := ⟨1, 5⟩
abbrev F.CAL_CTL_ENC_SEL : Fld := ⟨8, 4⟩
abbrev F.CAL_PORT_SEL_SEL : Fld := ⟨0, 32⟩
abbrev F.CAL_PORT_FAIL_FAIL : Fld := ⟨0, 32⟩
abbrev F.CAL_PORT_PEND_PEND : Fld := ⟨0, 32⟩
abbrev F.CAL_RREF_RREF : Fld := ⟨0, 16⟩
abbrev F.CAL_TB_TB : Fld := ⟨0, 12⟩
abbrev F.CAL_TEMP_TEMP : Fld := ⟨0, 16⟩
abbrev F.CAL_ENC_GAIN_SIN : Fld := ⟨0, 16⟩
abbrev F.CAL_ENC_GAIN_COS : Fld := ⟨16, 16⟩
abbrev F.CAL_ENC_REF_A_NOM : Fld := ⟨0, 16⟩
abbrev F.CAL_PORT_SKEW_SKEW : Fld := ⟨0, 16⟩
abbrev F.CAL_PORT_TERM_TERM : Fld := ⟨0, 6⟩
abbrev F.CAL_PORT_TS_RATIO : Fld := ⟨0, 16⟩
abbrev F.CHN_CFG_EN : Fld := ⟨0, 1⟩
abbrev F.CHN_CFG_EVT_FWD : Fld := ⟨1, 1⟩
abbrev F.CHN_CFG_OBS_CH : Fld := ⟨2, 2⟩
abbrev F.CHN_CFG_INDEX : Fld := ⟨4, 4⟩
abbrev F.CHN_CFG_COUNT : Fld := ⟨8, 5⟩
abbrev F.CHN_CFG_PREF : Fld := ⟨16, 8⟩
abbrev F.CHN_STAT_SYNC_ST : Fld := ⟨0, 2⟩
abbrev F.CHN_STAT_MASTER : Fld := ⟨2, 1⟩
abbrev F.CHN_STAT_SYNC_PORT : Fld := ⟨3, 1⟩
abbrev F.CHN_STAT_MASTER_IDX : Fld := ⟨4, 4⟩
abbrev F.CHN_STAT_UP_LINK : Fld := ⟨8, 1⟩
abbrev F.CHN_STAT_DN_LINK : Fld := ⟨9, 1⟩
abbrev F.CHN_STAT_SYNC_LOST : Fld := ⟨10, 1⟩
abbrev F.CHN_STAT_COAST_EXP : Fld := ⟨11, 1⟩
abbrev F.CHN_STAT_CONFLICT : Fld := ⟨12, 1⟩
abbrev F.CHN_STAT_STEP_DUE : Fld := ⟨13, 1⟩
abbrev F.CHN_STAT_CHAIN_ST : Fld := ⟨16, 3⟩
abbrev F.CHN_STAT_HOPS : Fld := ⟨20, 4⟩
abbrev F.CHN_MEMBERS_MEMBERS : Fld := ⟨0, 16⟩
abbrev F.CHN_MEMBERS_ELIGIBLE : Fld := ⟨16, 16⟩
abbrev F.CHN_OFS_OFS : Fld := ⟨0, 32⟩
abbrev F.CHN_DELAY_DELAY : Fld := ⟨0, 32⟩
abbrev F.CHN_FTRIM_FTRIM : Fld := ⟨0, 32⟩
abbrev F.CHN_ASYM_ASYM : Fld := ⟨0, 32⟩
abbrev F.CHN_COAST_LEN_COAST_LEN : Fld := ⟨0, 32⟩
abbrev F.CHN_SYNC_CNT_HOLDOVERS : Fld := ⟨0, 16⟩
abbrev F.CHN_SYNC_CNT_STEPS : Fld := ⟨16, 16⟩
abbrev F.CHN_OBS_CNT_LATE : Fld := ⟨0, 16⟩
abbrev F.CHN_OBS_CNT_MISS : Fld := ⟨16, 16⟩
abbrev F.CHN_PCNT_ERR_CRC : Fld := ⟨0, 16⟩
abbrev F.CHN_PCNT_ERR_SEQ : Fld := ⟨16, 16⟩
abbrev F.CHN_PCNT_DROP_STALE : Fld := ⟨0, 16⟩
abbrev F.CHN_PCNT_DROP_TYPE : Fld := ⟨16, 16⟩
abbrev F.CHN_PCNT_LINK_DOWN : Fld := ⟨0, 16⟩
abbrev F.BLT_STAT_ACTIVE : Fld := ⟨0, 1⟩
abbrev F.BLT_STAT_FLUSHING : Fld := ⟨1, 1⟩
abbrev F.BLT_STAT_BAD_WORD : Fld := ⟨2, 1⟩
abbrev F.BLT_STAT_DAMAGED : Fld := ⟨3, 1⟩
abbrev F.BLT_STAT_OVF_ANY : Fld := ⟨4, 1⟩
abbrev F.BLT_CTL_FLUSH : Fld := ⟨0, 1⟩
abbrev F.BLT_EVQ_LEVEL : Fld := ⟨0, 13⟩
abbrev F.BLT_EVQ_LOST : Fld := ⟨16, 16⟩
abbrev F.BLT_FLUSH_CNT_COUNT : Fld := ⟨0, 32⟩
abbrev F.BLT_FLUSH_TIME_TIME : Fld := ⟨0, 16⟩
abbrev F.BLT_GEN_LO_GEN : Fld := ⟨0, 32⟩
abbrev F.BLT_GEN_HI_GEN : Fld := ⟨0, 32⟩
abbrev F.FIJ_STAT_GATE : Fld := ⟨0, 1⟩
abbrev F.FIJ_STAT_ARMED : Fld := ⟨8, 8⟩
abbrev F.FIJ_TAINT_TAINT : Fld := ⟨0, 16⟩
abbrev F.FIJ_SLOT_CFG_ARM : Fld := ⟨0, 1⟩
abbrev F.FIJ_SLOT_CFG_DONE : Fld := ⟨1, 1⟩
abbrev F.FIJ_SLOT_CFG_TARGET : Fld := ⟨2, 3⟩
abbrev F.FIJ_SLOT_CFG_PORT : Fld := ⟨5, 5⟩
abbrev F.FIJ_SLOT_CFG_ACTION : Fld := ⟨10, 3⟩
abbrev F.FIJ_SLOT_CFG_FTYPE : Fld := ⟨16, 8⟩
abbrev F.FIJ_SLOT_CFG_LANE : Fld := ⟨24, 8⟩
abbrev F.FIJ_SLOT_RATE_RATE : Fld := ⟨0, 32⟩
abbrev F.FIJ_SLOT_COUNT_COUNT : Fld := ⟨0, 32⟩
abbrev F.FIJ_SLOT_DELAY_DELAY : Fld := ⟨0, 17⟩
abbrev F.FIJ_SLOT_HITS_HITS : Fld := ⟨0, 32⟩

/-- Registers of block SYS (R45), part 0. -/
def regMapSYS0 : List RegSpec := [
  { name := "SYS_ID", base := 0x0000000, ro := 0x000FFFFF },
  { name := "SYS_MODE", base := 0x0000010, w1c := 0x00000200, ro := 0x00001D37 },
  { name := "SYS_ADMIT_STOP", base := 0x0000014, rst := fun _ => 0x00000020, w1c := 0x00000007, ro := 0x00000038 },
  { name := "SYS_TICK_STAT", base := 0x0000020, w1c := 0x80000000, rc := 0x1FFF0000, ro := 0x00001FFF },
  { name := "SYS_TICK_OVR_CNT", base := 0x0000024, ro := 0xFFFFFFFF },
  { name := "SYS_DT_LO", base := 0x0000030, ro := 0xFFFFFFFF },
  { name := "SYS_DT_HI", base := 0x0000034, ro := 0xFFFFFFFF },
  { name := "SYS_HOST_AP", base := 0x0000100, rw := 0x0000001F },
  { name := "SYS_HOST_SCRATCH", base := 0x0000110, lo1 := 0, c1 := 4, s1 := 0x4, rw := 0xFFFFFFFF },
  { name := "SYS_BOOT_STAT", base := 0x0000040, ro := 0xFFFF00FF } ]

/-- Registers of block PWR (R45), part 0. -/
def regMapPWR0 : List RegSpec := [
  { name := "PWR_STAT", base := 0x0100000, w1c := 0x0000E000, ro := 0x00001FFF },
  { name := "PWR_BKP_CFG", base := 0x0100004, rst := fun _ => 0x00919605, rw := 0x00FFFF1F },
  { name := "PWR_VOLT", base := 0x0100008, ro := 0xFFFFFFFF },
  { name := "PWR_VMIN", base := 0x010000C, ro := 0x0000FFFF },
  { name := "PWR_PARK_TIME", base := 0x0100010, ro := 0x000FFFFF },
  { name := "PWR_IDLE_STAT", base := 0x0100020, ro := 0x000000FF },
  { name := "PWR_NEXT_LO", base := 0x0100024, rst := fun _ => 0xFFFFFFFF, ro := 0xFFFFFFFF },
  { name := "PWR_NEXT_HI", base := 0x0100028, rst := fun _ => 0xFFFFFFFF, ro := 0xFFFFFFFF },
  { name := "PWR_CNT", base := 0x0100030, ro := 0xFFFFFFFF } ]

/-- Registers of block OTP (R45), part 0. -/
def regMapOTP0 : List RegSpec := [
  { name := "OTP_STAT", base := 0x0200000, w1c := 0x00000400, ro := 0x01FF03FF },
  { name := "OTP_POLICY", base := 0x0200004, rst := fun _ => 0x00000009, ro := 0x0000000F },
  { name := "OTP_PORTMAP_LO", base := 0x0200008, ro := 0xFFFFFFFF },
  { name := "OTP_PORTMAP_HI", base := 0x020000C, ro := 0xFFFFFFFF },
  { name := "OTP_MARG_CNT", base := 0x0200010, ro := 0xFFFFFFFF },
  { name := "OTP_PROG_CTL", base := 0x0200020, rw := 0x01FF001C, w1c := 0x000001C0, w1s := 0x00000003, ro := 0x00000020 },
  { name := "OTP_PROG_DATA_LO", base := 0x0200024, rw := 0xFFFFFFFF },
  { name := "OTP_PROG_DATA_HI", base := 0x0200028, rw := 0xFFFFFFFF },
  { name := "OTP_PROG_RB_LO", base := 0x020002C, ro := 0xFFFFFFFF },
  { name := "OTP_PROG_RB_HI", base := 0x0200030, ro := 0xFFFFFFFF },
  { name := "OTP_RD_ADDR", base := 0x0200038, rw := 0x000001FF },
  { name := "OTP_RD_DATA_LO", base := 0x020003C, ro := 0xFFFFFFFF },
  { name := "OTP_RD_DATA_HI", base := 0x0200040, ro := 0xFFFFFFFF } ]

/-- Registers of block CAL (R45), part 0. -/
def regMapCAL0 : List RegSpec := [
  { name := "CAL_STAT", base := 0x0300000, w1c := 0x000000F8, ro := 0xFFFF0107 },
  { name := "CAL_CTL", base := 0x0300004, rw := 0x00000F3E, w1s := 0x00000001 },
  { name := "CAL_PORT_SEL", base := 0x0300008, rw := 0xFFFFFFFF },
  { name := "CAL_PORT_FAIL", base := 0x030000C, ro := 0xFFFFFFFF },
  { name := "CAL_PORT_PEND", base := 0x0300010, ro := 0xFFFFFFFF },
  { name := "CAL_RREF", base := 0x0300014, ro := 0x0000FFFF },
  { name := "CAL_TB", base := 0x0300018, ro := 0x00000FFF },
  { name := "CAL_TEMP", base := 0x030001C, ro := 0x0000FFFF },
  { name := "CAL_ENC_GAIN", base := 0x0300040, lo1 := 0, c1 := 4, s1 := 0x8, ro := 0xFFFFFFFF },
  { name := "CAL_ENC_REF", base := 0x0300044, lo1 := 0, c1 := 4, s1 := 0x8, ro := 0x0000FFFF },
  { name := "CAL_PORT_SKEW", base := 0x0300100, lo1 := 0, c1 := 32, s1 := 0x10, ro := 0x0000FFFF },
  { name := "CAL_PORT_TERM", base := 0x0300104, lo1 := 0, c1 := 32, s1 := 0x10, ro := 0x0000003F },
  { name := "CAL_PORT_TS", base := 0x0300108, lo1 := 0, c1 := 32, s1 := 0x10, ro := 0x0000FFFF } ]

/-- Registers of block ENC (R45), part 0. -/
def regMapENC0 : List RegSpec := [
  { name := "ENC_CFG", base := 0x0400000, lo1 := 0, c1 := 4, s1 := 0x1000, rst := fun _ => 0x00019040, rw := 0x000FFF7F, w1s := 0x00100000 },
  { name := "ENC_ABS_CFG", base := 0x0400004, lo1 := 0, c1 := 4, s1 := 0x1000, rst := fun _ => 0x140E0000, rw := 0xFFFFFFFF },
  { name := "ENC_ABS_CHK", base := 0x040000C, lo1 := 0, c1 := 4, s1 := 0x1000, rst := fun _ => 0x40000064, rw := 0xFFFFFFFF },
  { name := "ENC_ABS_OFS", base := 0x0400010, lo1 := 0, c1 := 4, s1 := 0x1000, rw := 0xFFFFFFFF },
  { name := "ENC_IDX_SPACING", base := 0x0400014, lo1 := 0, c1 := 4, s1 := 0x1000, rw := 0xFFFFFFFF },
  { name := "ENC_IDX_CFG", base := 0x0400018, lo1 := 0, c1 := 4, s1 := 0x1000, rst := fun _ => 0x00000200, rw := 0x0001FFFF },
  { name := "ENC_OBS_G1", base := 0x0400020, lo1 := 0, c1 := 4, s1 := 0x1000, rw := 0xFFFFFFFF },
  { name := "ENC_OBS_G2", base := 0x0400024, lo1 := 0, c1 := 4, s1 := 0x1000, rw := 0xFFFFFFFF },
  { name := "ENC_OBS_G3", base := 0x0400028, lo1 := 0, c1 := 4, s1 := 0x1000, rw := 0xFFFFFFFF },
  { name := "ENC_FE", base := 0x0400030, lo1 := 0, c1 := 4, s1 := 0x1000, rst := fun _ => 0x00190666, rw := 0xFFFFFFFF },
  { name := "ENC_COAST_LEN", base := 0x0400034, lo1 := 0, c1 := 4, s1 := 0x1000, rst := fun _ => 0x00640000, rw := 0xFFFFFFFF },
  { name := "ENC_HWM_CFG", base := 0x0400038, lo1 := 0, c1 := 4, s1 := 0x1000, rst := fun _ => 0x00000100, rw := 0x0000FFFF },
  { name := "ENC_STAT", base := 0x0400040, lo1 := 0, c1 := 4, s1 := 0x1000, w1c := 0x001CFF00, ro := 0x000300FF },
  { name := "ENC_EVT_CNT", base := 0x0400044, lo1 := 0, c1 := 4, s1 := 0x1000, ro := 0xFFFFFFFF },
  { name := "ENC_LISS_OFS", base := 0x0400048, lo1 := 0, c1 := 4, s1 := 0x1000, rw := 0xFFFFFFFF },
  { name := "ENC_LISS_GP", base := 0x040004C, lo1 := 0, c1 := 4, s1 := 0x1000, rst := fun _ => 0x00004000, rw := 0xFFFFFFFF },
  { name := "ENC_POS_LO", base := 0x0400050, lo1 := 0, c1 := 4, s1 := 0x1000, ro := 0xFFFFFFFF },
  { name := "ENC_POS_HI", base := 0x0400054, lo1 := 0, c1 := 4, s1 := 0x1000, ro := 0xFFFFFFFF },
  { name := "ENC_VEL", base := 0x0400058, lo1 := 0, c1 := 4, s1 := 0x1000, ro := 0xFFFFFFFF },
  { name := "ENC_ACC", base := 0x040005C, lo1 := 0, c1 := 4, s1 := 0x1000, ro := 0xFFFFFFFF } ]

/-- Registers of block ENC (R45), part 1. -/
def regMapENC1 : List RegSpec := [
  { name := "ENC_RESID", base := 0x0400060, lo1 := 0, c1 := 4, s1 := 0x1000, ro := 0xFFFFFFFF },
  { name := "ENC_AMP", base := 0x0400064, lo1 := 0, c1 := 4, s1 := 0x1000, ro := 0x0000FFFF },
  { name := "ENC_HWM_LO", base := 0x0400068, lo1 := 0, c1 := 4, s1 := 0x1000, ro := 0xFFFFFFFF },
  { name := "ENC_HWM_HI", base := 0x040006C, lo1 := 0, c1 := 4, s1 := 0x1000, ro := 0xFFFFFFFF },
  { name := "ENC_INDEX_LATCH_LO", base := 0x0400070, lo1 := 0, c1 := 4, s1 := 0x1000, ro := 0xFFFFFFFF },
  { name := "ENC_INDEX_LATCH_HI", base := 0x0400074, lo1 := 0, c1 := 4, s1 := 0x1000, ro := 0xFFFFFFFF },
  { name := "ENC_INDEX_DT_LO", base := 0x0400078, lo1 := 0, c1 := 4, s1 := 0x1000, ro := 0xFFFFFFFF },
  { name := "ENC_INDEX_DT_HI", base := 0x040007C, lo1 := 0, c1 := 4, s1 := 0x1000, ro := 0xFFFFFFFF },
  { name := "ENC_ABS_DIFF", base := 0x0400080, lo1 := 0, c1 := 4, s1 := 0x1000, ro := 0xFFFFFFFF } ]

/-- Registers of block DCT (R45), part 0. -/
def regMapDCT0 : List RegSpec := [
  { name := "DCT_STAT", base := 0x0500000, w1c := 0x00000001, ro := 0x00000006 },
  { name := "DCT_SHARE_CFG", base := 0x0500004, rst := fun _ => 0x00FA0204, rw := 0xFFFF3F3F },
  { name := "DCT_ND_WR", base := 0x0500008, w1c := 0x00000010, ro := 0x0000000F },
  { name := "DCT_PLANE_THROW", base := 0x0500200, lo1 := 0, c1 := 8, s1 := 0x4, rst := fun _ => 0x03E80000, rw := 0xFFFFFFFF },
  { name := "DCT_PLANE_CTL", base := 0x0500220, lo1 := 0, c1 := 8, s1 := 0x4, w1s := 0x00000005, ro := 0x00000002 },
  { name := "DCT_PLANE_START_LO", base := 0x0500240, lo1 := 0, c1 := 8, s1 := 0x8, rw := 0xFFFFFFFF },
  { name := "DCT_PLANE_START_HI", base := 0x0500244, lo1 := 0, c1 := 8, s1 := 0x8, rw := 0xFFFFFFFF },
  { name := "DCT_PLANE_END_LO", base := 0x0500280, lo1 := 0, c1 := 8, s1 := 0x8, rst := fun _ => 0xFFFFFFEF, rw := 0xFFFFFFFF },
  { name := "DCT_PLANE_END_HI", base := 0x0500284, lo1 := 0, c1 := 8, s1 := 0x8, rst := fun _ => 0x0000FFFF, rw := 0x0000FFFF },
  { name := "DCT_ND_LOG0", base := 0x0500400, lo1 := 0, c1 := 16, s1 := 0x10, ro := 0xFFFFFFFF },
  { name := "DCT_ND_LOG1", base := 0x0500404, lo1 := 0, c1 := 16, s1 := 0x10, ro := 0x073FFFFF },
  { name := "DCT_ND_LOG2", base := 0x0500408, lo1 := 0, c1 := 16, s1 := 0x10, ro := 0xFFFFFFFF },
  { name := "DCT_ND_LOG3", base := 0x050040C, lo1 := 0, c1 := 16, s1 := 0x10, ro := 0xFFFFFFFF },
  { name := "DCT_ROW_CFG", base := 0x0510000, lo1 := 0, c1 := 64, s1 := 0x100, rst := fun i => BitVec.ofNat 32 ((i % 2) * 0x100), rw := 0x0000007F, ro := 0x00000100 },
  { name := "DCT_ROW_PITCH_LO", base := 0x0510008, lo1 := 0, c1 := 64, s1 := 0x100, rw := 0xFFFFFFFF },
  { name := "DCT_ROW_PITCH_HI", base := 0x051000C, lo1 := 0, c1 := 64, s1 := 0x100, rw := 0xFFFFFFFF },
  { name := "DCT_ROW_ORG_LO", base := 0x0510010, lo1 := 0, c1 := 64, s1 := 0x100, rw := 0xFFFFFFFF },
  { name := "DCT_ROW_ORG_HI", base := 0x0510014, lo1 := 0, c1 := 64, s1 := 0x100, rw := 0xFFFFFFFF },
  { name := "DCT_ROW_VEL", base := 0x0510018, lo1 := 0, c1 := 64, s1 := 0x100, rst := fun _ => 0x00080000, rw := 0xFFFFFFFF },
  { name := "DCT_ROW_FLIGHT", base := 0x051001C, lo1 := 0, c1 := 64, s1 := 0x100, ro := 0xFFFFFFFF } ]

/-- Registers of block DCT (R45), part 1. -/
def regMapDCT1 : List RegSpec := [
  { name := "DCT_ROW_LEAD", base := 0x0510020, lo1 := 0, c1 := 64, s1 := 0x100, rw := 0x0000FFFF },
  { name := "DCT_ROW_TMIN", base := 0x0510024, lo1 := 0, c1 := 64, s1 := 0x100, rst := fun _ => 0x0000A2C4, rw := 0x00FFFFFF },
  { name := "DCT_ROW_STAT", base := 0x0510028, lo1 := 0, c1 := 64, s1 := 0x100, w1c := 0x00000038, ro := 0x00001F07 },
  { name := "DCT_ROW_PERIOD", base := 0x051002C, lo1 := 0, c1 := 64, s1 := 0x100, ro := 0xFFFFFFFF },
  { name := "DCT_ROW_LINE_LO", base := 0x0510030, lo1 := 0, c1 := 64, s1 := 0x100, ro := 0xFFFFFFFF },
  { name := "DCT_ROW_LINE_HI", base := 0x0510034, lo1 := 0, c1 := 64, s1 := 0x100, ro := 0x0000FFFF },
  { name := "DCT_ROW_GPOS_LO", base := 0x0510038, lo1 := 0, c1 := 64, s1 := 0x100, ro := 0xFFFFFFFF },
  { name := "DCT_ROW_GPOS_HI", base := 0x051003C, lo1 := 0, c1 := 64, s1 := 0x100, ro := 0xFFFFFFFF },
  { name := "DCT_ROW_QTS_LO", base := 0x0510040, lo1 := 0, c1 := 64, s1 := 0x100, ro := 0xFFFFFFFF },
  { name := "DCT_ROW_QTS_HI", base := 0x0510044, lo1 := 0, c1 := 64, s1 := 0x100, ro := 0xFFFFFFFF },
  { name := "DCT_ROW_DLV_LO", base := 0x0510048, lo1 := 0, c1 := 64, s1 := 0x100, ro := 0xFFFFFFFF },
  { name := "DCT_ROW_DLV_HI", base := 0x051004C, lo1 := 0, c1 := 64, s1 := 0x100, ro := 0xFFFFFFFF },
  { name := "DCT_ROW_BLK", base := 0x0510054, lo1 := 0, c1 := 64, s1 := 0x100, lo2 := 1, c2 := 10, s2 := 0x4, ro := 0xFFFFFFFF },
  { name := "DCT_ROW_ND", base := 0x0510084, lo1 := 0, c1 := 64, s1 := 0x100, lo2 := 1, c2 := 6, s2 := 0x4, ro := 0xFFFFFFFF },
  { name := "DCT_LOOP_CFG", base := 0x0540000, lo1 := 0, c1 := 32, s1 := 0x100, lo2 := 0, c2 := 8, s2 := 0x20, rw := 0xFFFF0001, ro := 0x00000006 },
  { name := "DCT_LOOP_KP", base := 0x0540004, lo1 := 0, c1 := 32, s1 := 0x100, lo2 := 0, c2 := 8, s2 := 0x20, rw := 0x0000FFFF },
  { name := "DCT_LOOP_KI", base := 0x0540008, lo1 := 0, c1 := 32, s1 := 0x100, lo2 := 0, c2 := 8, s2 := 0x20, rw := 0x00FFFFFF },
  { name := "DCT_LOOP_I", base := 0x054000C, lo1 := 0, c1 := 32, s1 := 0x100, lo2 := 0, c2 := 8, s2 := 0x20, rw := 0xFFFFFFFF },
  { name := "DCT_LOOP_OUT", base := 0x0540010, lo1 := 0, c1 := 32, s1 := 0x100, lo2 := 0, c2 := 8, s2 := 0x20, ro := 0xFFFF03FF },
  { name := "DCT_LOOP_SAT", base := 0x0540014, lo1 := 0, c1 := 32, s1 := 0x100, lo2 := 0, c2 := 8, s2 := 0x20, w1c := 0x0000000F, ro := 0xFFFF0000 } ]

/-- Registers of block DCT (R45), part 2. -/
def regMapDCT2 : List RegSpec := [
  { name := "DCT_THERM_FE", base := 0x054F000, rst := fun _ => 0x09C40050, rw := 0xFFFFFFFF },
  { name := "DCT_THERM_BLK", base := 0x054F004, w1c := 0xFFFFFFFF },
  { name := "DCT_THERM_OK", base := 0x054F008, ro := 0xFFFFFFFF },
  { name := "DCT_THERM_STALE", base := 0x054F00C, rst := fun _ => 0x000000FA, rw := 0x0000FFFF } ]

/-- Registers of block SCR (R45), part 0. -/
def regMapSCR0 : List RegSpec := [
  { name := "SCR_STAT", base := 0x0600000, ro := 0x0000FFFF },
  { name := "SCR_ARR_BASE", base := 0x0600800, lo1 := 0, c1 := 8, s1 := 0x10, rw := 0x000FFFC0 },
  { name := "SCR_ARR_SIZE", base := 0x0600804, lo1 := 0, c1 := 8, s1 := 0x10, rw := 0x03FF03FF, ro := 0x80000000 },
  { name := "SCR_PLANE_CFG", base := 0x0601000, lo1 := 0, c1 := 8, s1 := 0x100, rw := 0x00001FFF },
  { name := "SCR_PLANE_CTL", base := 0x0601004, lo1 := 0, c1 := 8, s1 := 0x100, rw := 0x00000002, w1s := 0x00000004, wo := 0x00000001 },
  { name := "SCR_PLANE_STAT", base := 0x0601008, lo1 := 0, c1 := 8, s1 := 0x100, w1c := 0x00000F00, ro := 0x000000FF },
  { name := "SCR_PLANE_WIDTH", base := 0x060100C, lo1 := 0, c1 := 8, s1 := 0x100, rw := 0x0001FFFF },
  { name := "SCR_PLANE_IMG_BASE_LO", base := 0x0601010, lo1 := 0, c1 := 8, s1 := 0x100, rw := 0xFFFFFFC0 },
  { name := "SCR_PLANE_IMG_BASE_HI", base := 0x0601014, lo1 := 0, c1 := 8, s1 := 0x100, rw := 0xFFFFFFFF },
  { name := "SCR_PLANE_IMG_LINES", base := 0x0601018, lo1 := 0, c1 := 8, s1 := 0x100, rw := 0x00FFFFFF },
  { name := "SCR_PLANE_CODE_BASE_LO", base := 0x060101C, lo1 := 0, c1 := 8, s1 := 0x100, rw := 0xFFFFFFC0 },
  { name := "SCR_PLANE_CODE_BASE_HI", base := 0x0601020, lo1 := 0, c1 := 8, s1 := 0x100, rw := 0xFFFFFFFF },
  { name := "SCR_PLANE_PAGE", base := 0x0601024, lo1 := 0, c1 := 8, s1 := 0x100, rw := 0x00FFFFFF },
  { name := "SCR_PLANE_GAP", base := 0x0601028, lo1 := 0, c1 := 8, s1 := 0x100, rw := 0x0000FFFF },
  { name := "SCR_PLANE_JOBLN_LO", base := 0x060102C, lo1 := 0, c1 := 8, s1 := 0x100, rw := 0xFFFFFFFF },
  { name := "SCR_PLANE_JOBLN_HI", base := 0x0601030, lo1 := 0, c1 := 8, s1 := 0x100, rw := 0x0000FFFF },
  { name := "SCR_PLANE_TRC", base := 0x0601034, lo1 := 0, c1 := 8, s1 := 0x100, rw := 0x00000FFF },
  { name := "SCR_PLANE_OFS", base := 0x0601038, lo1 := 0, c1 := 8, s1 := 0x100, rw := 0x01FF01FF },
  { name := "SCR_STRIP_PUSH", base := 0x060103C, lo1 := 0, c1 := 8, s1 := 0x100, wo := 0x00FFFFFF },
  { name := "SCR_PLANE_AVAIL_LO", base := 0x0601040, lo1 := 0, c1 := 8, s1 := 0x100, ro := 0xFFFFFFFF } ]

/-- Registers of block SCR (R45), part 1. -/
def regMapSCR1 : List RegSpec := [
  { name := "SCR_PLANE_AVAIL_HI", base := 0x0601044, lo1 := 0, c1 := 8, s1 := 0x100, ro := 0x0000FFFF },
  { name := "SCR_PLANE_DONE_LO", base := 0x0601048, lo1 := 0, c1 := 8, s1 := 0x100, ro := 0xFFFFFFFF },
  { name := "SCR_PLANE_DONE_HI", base := 0x060104C, lo1 := 0, c1 := 8, s1 := 0x100, ro := 0x0000FFFF },
  { name := "SCR_PLANE_RETIRED_LO", base := 0x0601050, lo1 := 0, c1 := 8, s1 := 0x100, ro := 0xFFFFFFFF },
  { name := "SCR_PLANE_RETIRED_HI", base := 0x0601054, lo1 := 0, c1 := 8, s1 := 0x100, ro := 0x0000FFFF },
  { name := "SCR_PLANE_CHG_LO", base := 0x0601058, lo1 := 0, c1 := 8, s1 := 0x100, ro := 0xFFFFFFFF },
  { name := "SCR_PLANE_CHG_HI", base := 0x060105C, lo1 := 0, c1 := 8, s1 := 0x100, ro := 0x0000FFFF },
  { name := "SCR_PLANE_BADLN_LO", base := 0x0601060, lo1 := 0, c1 := 8, s1 := 0x100, ro := 0xFFFFFFFF },
  { name := "SCR_PLANE_BADLN_HI", base := 0x0601064, lo1 := 0, c1 := 8, s1 := 0x100, ro := 0x0000FFFF },
  { name := "SCR_PLANE_P2W_CNT", base := 0x0601068, lo1 := 0, c1 := 8, s1 := 0x100, ro := 0xFFFFFFFF } ]

/-- Registers of block NZP (R45), part 0. -/
def regMapNZP0 : List RegSpec := [
  { name := "NZP_PLANE_CTL", base := 0x0700200, lo1 := 0, c1 := 8, s1 := 0x20, w1s := 0x00000001, ro := 0x0000001E },
  { name := "NZP_PLANE_EFF_LO", base := 0x0700204, lo1 := 0, c1 := 8, s1 := 0x20, ro := 0xFFFFFFFF },
  { name := "NZP_PLANE_EFF_HI", base := 0x0700208, lo1 := 0, c1 := 8, s1 := 0x20, ro := 0x0000FFFF },
  { name := "NZP_MAP_CFG", base := 0x0710000, lo1 := 0, c1 := 32, s1 := 0x100, rst := fun _ => 0x00000004, rw := 0x0FFFFFFF },
  { name := "NZP_MAP_COL", base := 0x0710004, lo1 := 0, c1 := 32, s1 := 0x100, rw := 0xFFF1FFFF },
  { name := "NZP_HEAD_STAT", base := 0x0710008, lo1 := 0, c1 := 32, s1 := 0x100, w1c := 0x00060000, ro := 0x00011FFF },
  { name := "NZP_CNT_SHARE", base := 0x0710010, lo1 := 0, c1 := 32, s1 := 0x100, ro := 0xFFFFFFFF },
  { name := "NZP_CNT_SPREAD", base := 0x0710014, lo1 := 0, c1 := 32, s1 := 0x100, ro := 0xFFFFFFFF },
  { name := "NZP_CNT_LOST", base := 0x0710018, lo1 := 0, c1 := 32, s1 := 0x100, ro := 0xFFFFFFFF },
  { name := "NZP_CNT_DBL", base := 0x071001C, lo1 := 0, c1 := 32, s1 := 0x100, ro := 0xFFFFFFFF },
  { name := "NZP_CNT_SHARE_LOST", base := 0x0710020, lo1 := 0, c1 := 32, s1 := 0x100, ro := 0xFFFFFFFF },
  { name := "NZP_CNT_SAT", base := 0x0710024, lo1 := 0, c1 := 32, s1 := 0x100, ro := 0xFFFFFFFF },
  { name := "NZP_SQ_CFG", base := 0x0720000, rst := fun _ => 0x000100C8, rw := 0x0001FFFF },
  { name := "NZP_TH_CFG", base := 0x0721000, lo1 := 0, c1 := 32, s1 := 0x100, rst := fun _ => 0x00000080, rw := 0xFFFFFFFF },
  { name := "NZP_TH_DECAY", base := 0x0721004, lo1 := 0, c1 := 32, s1 := 0x100, rw := 0xFFFFFFFF },
  { name := "NZP_TH_RISE", base := 0x0721008, lo1 := 0, c1 := 32, s1 := 0x100, rw := 0xFFFFFFFF },
  { name := "NZP_TH_RISEW", base := 0x072100C, lo1 := 0, c1 := 32, s1 := 0x100, rw := 0x0000FFFF },
  { name := "NZP_TH_STAT", base := 0x0721010, lo1 := 0, c1 := 32, s1 := 0x100, w1c := 0x0000000C, ro := 0x00000013 },
  { name := "NZP_TH_PSPEC_A", base := 0x0721014, lo1 := 0, c1 := 32, s1 := 0x100, ro := 0xFFFFFFFF },
  { name := "NZP_TH_PSPEC_B", base := 0x0721018, lo1 := 0, c1 := 32, s1 := 0x100, ro := 0xFFFFFFFF } ]

/-- Registers of block NZP (R45), part 1. -/
def regMapNZP1 : List RegSpec := [
  { name := "NZP_WBUD", base := 0x0721020, lo1 := 0, c1 := 32, s1 := 0x100, lo2 := 0, c2 := 8, s2 := 0x4, rst := fun _ => 0x00800100, rw := 0x01FF01FF },
  { name := "NZP_CNT_SQUASH", base := 0x0721040, lo1 := 0, c1 := 32, s1 := 0x100, ro := 0xFFFFFFFF },
  { name := "NZP_CNT_WARM_LATE", base := 0x0721044, lo1 := 0, c1 := 32, s1 := 0x100, ro := 0xFFFFFFFF },
  { name := "NZP_CNT_WMISS", base := 0x0721048, lo1 := 0, c1 := 32, s1 := 0x100, ro := 0xFFFFFFFF },
  { name := "NZP_CNT_WBUD", base := 0x072104C, lo1 := 0, c1 := 32, s1 := 0x100, ro := 0xFFFFFFFF },
  { name := "NZP_CNT_WARM", base := 0x0721050, lo1 := 0, c1 := 32, s1 := 0x100, ro := 0xFFFFFFFF },
  { name := "NZP_CNT_IW", base := 0x0721054, lo1 := 0, c1 := 32, s1 := 0x100, ro := 0xFFFFFFFF } ]

/-- Registers of block HP (R45), part 0. -/
def regMapHP0 : List RegSpec := [
  { name := "HP_CFG", base := 0x0800000, lo1 := 0, c1 := 32, s1 := 0x10000, rw := 0x0000002F, w1s := 0x00000010 },
  { name := "HP_STAT", base := 0x0800004, lo1 := 0, c1 := 32, s1 := 0x10000, w1c := 0x00001010, ro := 0x00FF0F0F },
  { name := "HP_STB_W", base := 0x0800010, lo1 := 0, c1 := 32, s1 := 0x10000, rst := fun _ => 0x000C8320, rw := 0x003FFFFF },
  { name := "HP_STB_ENV", base := 0x0800014, lo1 := 0, c1 := 32, s1 := 0x10000, rst := fun _ => 0x04B007D0, rw := 0x0FFF0FFF },
  { name := "HP_TRIM_W", base := 0x0800020, lo1 := 0, c1 := 32, s1 := 0x10000, lo2 := 0, c2 := 8, s2 := 0x4, rst := fun _ => 0x07D004B0, rw := 0x0FFF0FFF },
  { name := "HP_TRIM_CTL", base := 0x0800040, lo1 := 0, c1 := 32, s1 := 0x10000, w1c := 0x00000004, w1s := 0x00000001, ro := 0x0000FFF2 },
  { name := "HP_EW_CFG", base := 0x0800050, lo1 := 0, c1 := 32, s1 := 0x10000, rst := fun _ => 0x000000FA, rw := 0x000003FF, ro := 0xFFFF0000 },
  { name := "HP_EW_LIMIT", base := 0x0800054, lo1 := 0, c1 := 32, s1 := 0x10000, rst := fun _ => 0xFFFFFFFF, rw := 0xFFFFFFFF },
  { name := "HP_EW_SUM", base := 0x0800058, lo1 := 0, c1 := 32, s1 := 0x10000, ro := 0xFFFFFFFF },
  { name := "HP_WDOG", base := 0x0800060, lo1 := 0, c1 := 32, s1 := 0x10000, w1c := 0x0000005F, w1s := 0x00000080, ro := 0x00000020 },
  { name := "HP_TS_CFG", base := 0x0800070, lo1 := 0, c1 := 32, s1 := 0x10000, rst := fun _ => 0x00004000, rw := 0x0000FFFF },
  { name := "HP_CNT_NAK", base := 0x0800084, lo1 := 0, c1 := 32, s1 := 0x10000, lo2 := 1, c2 := 4, s2 := 0x4, ro := 0xFFFFFFFF },
  { name := "HP_CNT_ACK_TO", base := 0x0800094, lo1 := 0, c1 := 32, s1 := 0x10000, ro := 0xFFFFFFFF },
  { name := "HP_CNT_BC", base := 0x0800098, lo1 := 0, c1 := 32, s1 := 0x10000, ro := 0xFFFFFFFF },
  { name := "HP_CNT_UNMATCHED", base := 0x080009C, lo1 := 0, c1 := 32, s1 := 0x10000, ro := 0xFFFFFFFF },
  { name := "HP_CNT_FRAMES_LO", base := 0x08000A0, lo1 := 0, c1 := 32, s1 := 0x10000, ro := 0xFFFFFFFF },
  { name := "HP_CNT_FRAMES_HI", base := 0x08000A4, lo1 := 0, c1 := 32, s1 := 0x10000, ro := 0xFFFFFFFF },
  { name := "HP_TEMP", base := 0x0800100, lo1 := 0, c1 := 32, s1 := 0x10000, lo2 := 0, c2 := 8, s2 := 0x4, rst := fun _ => 0xFFFF0000, ro := 0xFFFFFFFF } ]

/-- Registers of block DGV (R45), part 0. -/
def regMapDGV0 : List RegSpec := [
  { name := "DGV_PLANE_CFG", base := 0x0A00200, lo1 := 0, c1 := 8, s1 := 0x10, rst := fun _ => 0x00000420, rw := 0x0000FF3F },
  { name := "DGV_CFG", base := 0x0A10000, lo1 := 0, c1 := 32, s1 := 0x100, rst := fun _ => 0x0000640E, rw := 0x0000FF3F },
  { name := "DGV_TH", base := 0x0A10004, lo1 := 0, c1 := 32, s1 := 0x100, rst := fun _ => 0xDC504B19, rw := 0xFFFFFFFF },
  { name := "DGV_WIN", base := 0x0A10008, lo1 := 0, c1 := 32, s1 := 0x100, rst := fun _ => 0x2EE003E8, rw := 0xFFFFFFFF },
  { name := "DGV_GEOM", base := 0x0A1000C, lo1 := 0, c1 := 32, s1 := 0x100, rst := fun _ => 0x009601F4, rw := 0xFFFFFFFF },
  { name := "DGV_VBAND", base := 0x0A10010, lo1 := 0, c1 := 32, s1 := 0x100, rst := fun _ => 0x0C000800, rw := 0xFFFFFFFF },
  { name := "DGV_SWEEP", base := 0x0A10014, lo1 := 0, c1 := 32, s1 := 0x100, rw := 0x00001FFF, ro := 0xFFFF0000 },
  { name := "DGV_SVC", base := 0x0A10018, lo1 := 0, c1 := 32, s1 := 0x100, rst := fun _ => 0x00007D00, rw := 0x0000FF04, w1c := 0x00000008, w1s := 0x00000001, ro := 0x00000002 },
  { name := "DGV_STAT", base := 0x0A10020, lo1 := 0, c1 := 32, s1 := 0x100, w1c := 0x0000000F, ro := 0x000F1F10 },
  { name := "DGV_LAST", base := 0x0A10024, lo1 := 0, c1 := 32, s1 := 0x100, ro := 0xFFFFFFFF },
  { name := "DGV_LEVEL", base := 0x0A10028, lo1 := 0, c1 := 32, s1 := 0x100, ro := 0x0000FFFF },
  { name := "DGV_CNT_PROBE", base := 0x0A10040, lo1 := 0, c1 := 32, s1 := 0x100, ro := 0xFFFFFFFF },
  { name := "DGV_CNT_OK", base := 0x0A10044, lo1 := 0, c1 := 32, s1 := 0x100, ro := 0xFFFFFFFF },
  { name := "DGV_CNT_SLOW", base := 0x0A10048, lo1 := 0, c1 := 32, s1 := 0x100, ro := 0xFFFFFFFF },
  { name := "DGV_CNT_WEAK", base := 0x0A1004C, lo1 := 0, c1 := 32, s1 := 0x100, ro := 0xFFFFFFFF },
  { name := "DGV_CNT_MISS", base := 0x0A10050, lo1 := 0, c1 := 32, s1 := 0x100, ro := 0xFFFFFFFF },
  { name := "DGV_CNT_MISSING", base := 0x0A10054, lo1 := 0, c1 := 32, s1 := 0x100, ro := 0xFFFFFFFF },
  { name := "DGV_CNT_VOID", base := 0x0A10058, lo1 := 0, c1 := 32, s1 := 0x100, ro := 0xFFFFFFFF },
  { name := "DGV_CNT_TRIM_UP", base := 0x0A1005C, lo1 := 0, c1 := 32, s1 := 0x100, ro := 0xFFFFFFFF },
  { name := "DGV_CNT_TRIM_DN", base := 0x0A10060, lo1 := 0, c1 := 32, s1 := 0x100, ro := 0xFFFFFFFF } ]

/-- Registers of block DMA (R45), part 0. -/
def regMapDMA0 : List RegSpec := [
  { name := "DMA_GSTAT", base := 0x0B00000, w1c := 0x00000001, ro := 0xFFFF3F00 },
  { name := "DMA_BUF", base := 0x0B00004, rc := 0x01FF0000, ro := 0x000001FF },
  { name := "DMA_CH_CFG", base := 0x0B10000, lo1 := 0, c1 := 64, s1 := 0x40, rst := fun _ => 0x00002000, rw := 0x0001FF07 },
  { name := "DMA_CH_CTL", base := 0x0B10004, lo1 := 0, c1 := 64, s1 := 0x40, rw := 0x00000002, w1s := 0x00000001 },
  { name := "DMA_CH_STAT", base := 0x0B10008, lo1 := 0, c1 := 64, s1 := 0x40, w1c := 0x000001F0, ro := 0x01FFF00F },
  { name := "DMA_CH_PTR_LO", base := 0x0B10010, lo1 := 0, c1 := 64, s1 := 0x40, ro := 0xFFFFFFE3 },
  { name := "DMA_CH_PTR_HI", base := 0x0B10014, lo1 := 0, c1 := 64, s1 := 0x40, ro := 0xFFFFFFFF },
  { name := "DMA_CH_START_LO", base := 0x0B10018, lo1 := 0, c1 := 64, s1 := 0x40, rw := 0xFFFFFFE3 },
  { name := "DMA_CH_START_HI", base := 0x0B1001C, lo1 := 0, c1 := 64, s1 := 0x40, rw := 0xFFFFFFFF },
  { name := "DMA_CH_ERRADDR_LO", base := 0x0B10020, lo1 := 0, c1 := 64, s1 := 0x40, ro := 0xFFFFFFFF },
  { name := "DMA_CH_ERRADDR_HI", base := 0x0B10024, lo1 := 0, c1 := 64, s1 := 0x40, ro := 0xFFFFFFFF },
  { name := "DMA_CH_CNT", base := 0x0B10028, lo1 := 0, c1 := 64, s1 := 0x40, ro := 0xFFFFFFFF },
  { name := "DMA_CH_SEQ", base := 0x0B1002C, lo1 := 0, c1 := 64, s1 := 0x40, ro := 0xFFFFFFFF },
  { name := "DMA_DB_PTR_LO", base := 0x0B20000, lo1 := 0, c1 := 64, s1 := 0x10, rw := 0xFFFFFFE3 },
  { name := "DMA_DB_PTR_HI", base := 0x0B20004, lo1 := 0, c1 := 64, s1 := 0x10, rw := 0xFFFFFFFF },
  { name := "DMA_DB_LIMIT", base := 0x0B20008, lo1 := 0, c1 := 64, s1 := 0x10, wo := 0x0001FFFF } ]

/-- Registers of block MEM (R45), part 0. -/
def regMapMEM0 : List RegSpec := [
  { name := "MEM_STAT", base := 0x0C00000, w1c := 0x00000807, ro := 0x00000708 },
  { name := "MEM_RET", base := 0x0C00010, rw := 0x0000001F, ro := 0x001F0000 },
  { name := "MEM_SCRUB_CFG", base := 0x0C00020, rst := fun _ => 0x003C0001, rw := 0xFFFF0001 },
  { name := "MEM_DRAM_SCRUB", base := 0x0C00024, rst := fun _ => 0x000C0001, rw := 0xFFFF0001 },
  { name := "MEM_BIST_CTL", base := 0x0C00030, rw := 0x0000003F, w1s := 0x00000300 },
  { name := "MEM_BIST_STAT", base := 0x0C00034, w1c := 0x000000BF, ro := 0xFFFF0040 },
  { name := "MEM_ECC_CNT", base := 0x0C00100, lo1 := 0, c1 := 7, s1 := 0x8, ro := 0xFFFFFFFF },
  { name := "MEM_ECC_ADDR", base := 0x0C00104, lo1 := 0, c1 := 7, s1 := 0x8, ro := 0xFFFFFFFF },
  { name := "MEM_REPAIR", base := 0x0C00140, lo1 := 0, c1 := 6, s1 := 0x4, ro := 0x000003FF },
  { name := "MEM_DENY_LOG0", base := 0x0C00200, lo1 := 0, c1 := 8, s1 := 0x10, ro := 0x03FFFFFF },
  { name := "MEM_DENY_LOG1", base := 0x0C00204, lo1 := 0, c1 := 8, s1 := 0x10, ro := 0x0000007F },
  { name := "MEM_DENY_LOG2", base := 0x0C00208, lo1 := 0, c1 := 8, s1 := 0x10, ro := 0xFFFFFFFF },
  { name := "MEM_DENY_LOG3", base := 0x0C0020C, lo1 := 0, c1 := 8, s1 := 0x10, ro := 0xFFFFFFFF },
  { name := "MEM_RGN_BASE", base := 0x0C10000, lo1 := 0, c1 := 4, s1 := 0x100, lo2 := 0, c2 := 16, s2 := 0x8, rw := 0x00FFFF07 },
  { name := "MEM_RGN_LIM", base := 0x0C10004, lo1 := 0, c1 := 4, s1 := 0x100, lo2 := 0, c2 := 16, s2 := 0x8, rw := 0x00FFFF00 } ]

/-- Registers of block MBX (R45), part 0. -/
def regMapMBX0 : List RegSpec := [
  { name := "MBX_STAT", base := 0x0D00000, ro := 0x0000000F },
  { name := "MBX_EARLY_CNT", base := 0x0D00004, ro := 0xFFFFFFFF },
  { name := "MBX_HOST_DENY", base := 0x0D00008, ro := 0xFFFFFFFF },
  { name := "MBX_DENY_ADDR", base := 0x0D0000C, ro := 0x03FFFFFF },
  { name := "MBX_EVT_VEC", base := 0x0D00024, lo1 := 1, c1 := 15, s1 := 0x4, rw := 0x0000007F },
  { name := "MBX_Z1_CTL", base := 0x0D00100, rw := 0x00000002, w1s := 0x00000001 },
  { name := "MBX_Z1_WIN", base := 0x0D00140, lo1 := 0, c1 := 16, s1 := 0x4, rw := 0xFFFFFFFF },
  { name := "MBX_QP_CFG", base := 0x0D10000, lo1 := 0, c1 := 32, s1 := 0x100, rst := fun q => BitVec.ofNat 32 (q * 0x100), rw := 0x00FF3F07 },
  { name := "MBX_QP_STAT", base := 0x0D10004, lo1 := 0, c1 := 32, s1 := 0x100, w1c := 0x00000034, ro := 0x001F1F0B },
  { name := "MBX_Z3_SQ_BASE_LO", base := 0x0D10008, lo1 := 0, c1 := 32, s1 := 0x100, rw := 0xFFFFF000 },
  { name := "MBX_Z3_SQ_BASE_HI", base := 0x0D1000C, lo1 := 0, c1 := 32, s1 := 0x100, rw := 0xFFFFFFFF },
  { name := "MBX_Z3_CQ_BASE_LO", base := 0x0D10010, lo1 := 0, c1 := 32, s1 := 0x100, rw := 0xFFFFF000 },
  { name := "MBX_Z3_CQ_BASE_HI", base := 0x0D10014, lo1 := 0, c1 := 32, s1 := 0x100, rw := 0xFFFFFFFF },
  { name := "MBX_Z3_SIZE", base := 0x0D10018, lo1 := 0, c1 := 32, s1 := 0x100, rw := 0x0000000F },
  { name := "MBX_Z3_SQ_TAIL", base := 0x0D10020, lo1 := 0, c1 := 32, s1 := 0x100, rw := 0x00000FFF },
  { name := "MBX_Z3_CQ_HEAD", base := 0x0D10024, lo1 := 0, c1 := 32, s1 := 0x100, rw := 0x00000FFF },
  { name := "MBX_Z3_SQ_HEAD", base := 0x0D10028, lo1 := 0, c1 := 32, s1 := 0x100, ro := 0x1FFF0FFF },
  { name := "MBX_QP_DONE", base := 0x0D1002C, lo1 := 0, c1 := 32, s1 := 0x100, ro := 0xFFFFFFFF },
  { name := "MBX_Z2_CTL", base := 0x0D10030, lo1 := 0, c1 := 32, s1 := 0x100, w1s := 0x00000001 },
  { name := "MBX_Z2_SQ", base := 0x0D20000, lo1 := 0, c1 := 32, s1 := 0x80, lo2 := 0, c2 := 16, s2 := 0x4, wo := 0xFFFFFFFF } ]

/-- Registers of block MBX (R45), part 1. -/
def regMapMBX1 : List RegSpec := [
  { name := "MBX_Z2_CQ", base := 0x0D20040, lo1 := 0, c1 := 32, s1 := 0x80, lo2 := 0, c2 := 16, s2 := 0x4, ro := 0xFFFFFFFF },
  { name := "MBX_MSIX_TABLE", base := 0x0D30000, lo1 := 0, c1 := 64, s1 := 0x10, lo2 := 0, c2 := 3, s2 := 0x4, rw := 0xFFFFFFFF },
  { name := "MBX_MSIX_CTRL", base := 0x0D3000C, lo1 := 0, c1 := 64, s1 := 0x10, rst := fun _ => 0x00000001, rw := 0x00000001 },
  { name := "MBX_MSIX_PBA", base := 0x0D31000, lo1 := 0, c1 := 2, s1 := 0x4, ro := 0xFFFFFFFF } ]

/-- Registers of block CHN (R45), part 0. -/
def regMapCHN0 : List RegSpec := [
  { name := "CHN_CFG", base := 0x0E00000, rst := fun _ => 0x00000100, rw := 0x00FF1FFF },
  { name := "CHN_STAT", base := 0x0E00004, w1c := 0x00001400, ro := 0x00F72BFF },
  { name := "CHN_MEMBERS", base := 0x0E00008, ro := 0xFFFFFFFF },
  { name := "CHN_OFS", base := 0x0E00010, ro := 0xFFFFFFFF },
  { name := "CHN_DELAY", base := 0x0E00014, ro := 0xFFFFFFFF },
  { name := "CHN_FTRIM", base := 0x0E00018, ro := 0xFFFFFFFF },
  { name := "CHN_ASYM", base := 0x0E00020, lo1 := 0, c1 := 2, s1 := 0x4, rw := 0xFFFFFFFF },
  { name := "CHN_COAST_LEN", base := 0x0E00030, rst := fun _ => 0x00640000, rw := 0xFFFFFFFF },
  { name := "CHN_SYNC_CNT", base := 0x0E00034, ro := 0xFFFFFFFF },
  { name := "CHN_OBS_CNT", base := 0x0E00038, ro := 0xFFFFFFFF },
  { name := "CHN_PCNT_ERR", base := 0x0E00100, lo1 := 0, c1 := 2, s1 := 0x10, ro := 0xFFFFFFFF },
  { name := "CHN_PCNT_DROP", base := 0x0E00104, lo1 := 0, c1 := 2, s1 := 0x10, ro := 0xFFFFFFFF },
  { name := "CHN_PCNT_LINK", base := 0x0E00108, lo1 := 0, c1 := 2, s1 := 0x10, ro := 0x0000FFFF } ]

/-- Registers of block BLT (R45), part 0. -/
def regMapBLT0 : List RegSpec := [
  { name := "BLT_STAT", base := 0x0F00000, w1c := 0x0000000C, ro := 0x00000013 },
  { name := "BLT_CTL", base := 0x0F00004, w1s := 0x00000001 },
  { name := "BLT_EVQ", base := 0x0F00008, ro := 0xFFFF1FFF },
  { name := "BLT_FLUSH_CNT", base := 0x0F00010, ro := 0xFFFFFFFF },
  { name := "BLT_FLUSH_TIME", base := 0x0F00014, ro := 0x0000FFFF },
  { name := "BLT_GEN_LO", base := 0x0F00018, ro := 0xFFFFFFFF },
  { name := "BLT_GEN_HI", base := 0x0F0001C, ro := 0xFFFFFFFF } ]

/-- Registers of block FIJ (R45), part 0. -/
def regMapFIJ0 : List RegSpec := [
  { name := "FIJ_STAT", base := 0x1000000, ro := 0x0000FF01 },
  { name := "FIJ_TAINT", base := 0x1000004, rst := fun _ => 0x00000014, rw := 0x0000FFFF },
  { name := "FIJ_SLOT_CFG", base := 0x1000100, lo1 := 0, c1 := 8, s1 := 0x20, rw := 0xFFFF1FFD, w1c := 0x00000002 },
  { name := "FIJ_SLOT_RATE", base := 0x1000104, lo1 := 0, c1 := 8, s1 := 0x20, rw := 0xFFFFFFFF },
  { name := "FIJ_SLOT_COUNT", base := 0x1000108, lo1 := 0, c1 := 8, s1 := 0x20, rw := 0xFFFFFFFF },
  { name := "FIJ_SLOT_DELAY", base := 0x100010C, lo1 := 0, c1 := 8, s1 := 0x20, rw := 0x0001FFFF },
  { name := "FIJ_SLOT_HITS", base := 0x1000110, lo1 := 0, c1 := 8, s1 := 0x20, ro := 0xFFFFFFFF } ]

/-- The registers of the 1 MiB slice `b` of BAR0 (R45; HP takes slices 8 and 9). -/
def regBlock (b : Nat) : List RegSpec :=
  match b with
  | 0 => regMapSYS0
  | 1 => regMapPWR0
  | 2 => regMapOTP0
  | 3 => regMapCAL0
  | 4 => regMapENC0 ++ regMapENC1
  | 5 => regMapDCT0 ++ regMapDCT1 ++ regMapDCT2
  | 6 => regMapSCR0 ++ regMapSCR1
  | 7 => regMapNZP0 ++ regMapNZP1
  | 8 => regMapHP0
  | 9 => regMapHP0
  | 10 => regMapDGV0
  | 11 => regMapDMA0
  | 12 => regMapMEM0
  | 13 => regMapMBX0 ++ regMapMBX1
  | 14 => regMapCHN0
  | 15 => regMapBLT0
  | 16 => regMapFIJ0
  | _ => []

end Sys2Proof.Machine
end

