-- ==== Sys2Proof/Machine/RegFile.lean ====
section
/-! DEFINITION. The register file: what a BAR0 offset names (R45, R46), its reset value, and its access masks (R15). -/
namespace Sys2Proof.Machine

/-- The copy indices an offset names in a register family, if it lies in it. -/
def regIdx (r : RegSpec) (off : Nat) : Option (Nat × Nat) :=
  if off < r.base then none
  else
    let o := off - r.base
    let i := if r.c1 = 1 then 0 else o / r.s1
    let o2 := o - i * r.s1
    let j := if r.c2 = 1 then 0 else o2 / r.s2
    if i < r.c1 ∧ j < r.c2 ∧ (if r.c1 = 1 then o else o2) = j * (if r.c2 = 1 then 0 else r.s2) then
      some (r.lo1 + i, r.lo2 + j)
    else none

/-- The register an offset of BAR0 names, with its indices (R45); none for a reserved offset (R46). -/
def regFind (off : Nat) : Option (RegSpec × Nat × Nat) :=
  (regBlock (off / 0x100000)).findSome? (fun r => (regIdx r off).map (fun ij => (r, ij)))

/-- The reset value of an offset; 0 for a reserved offset (R46). -/
def regReset (off : Nat) : BitVec 32 :=
  match regFind off with
  | some (r, i, _) => r.rst i
  | none => 0

/-- The part of a written word that a reserved or read-only bit never takes: the bits of a register that storage holds. -/
def regWritable (r : RegSpec) : BitVec 32 := r.rw ||| r.w1s

/-- A write of `v` by a master that may write the register (R15): RW fields take the value, W1C bits written 1 clear,
W1S bits written 1 set, every other bit keeps its value. -/
def regWritten (r : RegSpec) (old v : BitVec 32) : BitVec 32 :=
  ((old &&& ~~~r.rw &&& ~~~(r.w1c &&& v)) ||| (v &&& r.rw)) ||| (v &&& r.w1s)

end Sys2Proof.Machine
end

