-- ==== Sys2Proof/Machine/Types.lean ====
section
/-! DEFINITION. The typed records of the state: what the spec gives each unit beside its registers. Register fields
that software sees keep their home in the register file (State.regs); what stands here is the state behind them. -/
namespace Sys2Proof.Machine

/-- The three parts of the family (R1). -/
inductive Part where
  | sxv3200 | sxv1600 | sxv0800
  deriving DecidableEq, Repr

/-- Head ports enabled by fuses (R1). -/
def Part.ports : Part → Nat
  | .sxv3200 => 32 | .sxv1600 => 16 | .sxv0800 => 8

/-- User-visible DRAM in GiB (R1). -/
def Part.dramGib : Part → Nat
  | .sxv3200 => 32 | .sxv1600 => 16 | .sxv0800 => 8

/-- The operating modes (R36). -/
inductive Mode where
  | boot | config | print | service | idle | park
  deriving DecidableEq, Repr

/-- Mode codes (R36). -/
def Mode.code : Mode → Nat
  | .boot => 0 | .config => 1 | .print => 2 | .service => 3 | .idle => 4 | .park => 5

/-- Encoder channel states (R68). -/
inductive EncState where
  | off | waitCal | qualify | absRead | track | coast | fault
  deriving DecidableEq, Repr

/-- Encoder state codes (R68, R94). -/
def EncState.code : EncState → Nat
  | .off => 0 | .waitCal => 1 | .qualify => 2 | .absRead => 3 | .track => 4 | .coast => 5 | .fault => 6

/-- One absolute reading kept for the agreement test of R69: y_abs and the counted position at its capture. -/
structure AbsCap where
  yAbs : Int
  pos : Int
  phase : Nat
  done : Nat                         -- the capture
  comp : Nat := 0                    -- the end of the read
  deriving DecidableEq, Repr

/-- One encoder channel and its observer (R53 to R87). `m` is the counted position in whole steps with the rebase
offset of R83 in it, without the acquisition origin 2^63. -/
structure Enc where
  st : EncState := .off
  x : BitVec 80 := 0                 -- R63, unsigned 64.16
  v : Int := 0                       -- R63, Q20.12
  a : Int := 0                       -- R63, Q8.24
  e : Int := 0                       -- R63, Q16.16
  hwm : BitVec 80 := 0               -- R77
  m : Int := 0                       -- R61
  phase : Nat := 0                   -- R61, phase of the last sample used for counting
  prev : Nat := 0                    -- R62, phase of the last sample, used for counting or not
  seen : Bool := false               -- a first sample has been taken since counting began
  qa : Bool := false                 -- R53, A after the glitch filter
  qb : Bool := false                 -- R53, B after the glitch filter
  qra : Nat := 0                     -- decoder samples for which A has shown the other level
  qrb : Nat := 0                     -- the same of B
  amp : Nat := 0                     -- R98, amplitude of the last sample, unsigned 4.12 of A_NOM
  badRun : Nat := 0                  -- R79, consecutive samples out of the amplitude limits
  overRun : Nat := 0                 -- R62, consecutive over-rate samples or ticks
  goodRun : Nat := 0                 -- R68, R83, consecutive samples without loss
  goodTicks : Nat := 0               -- R68, ticks without loss in FAULT
  inLoss : Bool := false             -- R61, the samples are not used for counting
  tickLoss : Bool := false           -- R68, some sample of the last tick lay in a loss
  lossDue : Option Nat := none       -- R79, loss found in TRACK, by cause, not yet taken
  freezeDue : Bool := false          -- R80, freeze found in TRACK, not yet taken
  faultDue : Bool := false           -- R84, following error found in TRACK, not yet taken
  recovDue : Option Int := none      -- R83, recovery found in COAST: periods to add
  coastFreeze : Bool := false        -- the present coast was entered by freeze
  coastAt : BitVec 80 := 0           -- R81, x at coast start
  frz : Nat := 0                     -- R80, consecutive frozen ticks
  frzMove : List Int := []           -- R80, predicted motion in each of the last 8 ticks, newest first
  fe : Nat := 0                      -- R84
  feGood : Nat := 0                  -- R68, consecutive ticks within FE_LIMIT in FAULT
  hist : List Int := []              -- R75, measured position at the end of the last ticks, newest first
  speedValid : Bool := false         -- R75
  sign : Int := 0                    -- R76, sign of the last displacement above 8 steps
  reversed : Bool := false           -- R76
  revAge : Nat := 0                  -- R76, ticks since the last change of sign
  hold : Bool := false               -- R77
  emit : Bool := false               -- R78
  qualAt : Nat := 0                  -- R68, device time at which QUALIFY was entered or last failed
  caps : List AbsCap := []           -- R69, readings of the present attempt
  fails : Nat := 0                   -- R68, failed attempts
  absFails : Nat := 0                -- R71, consecutive failed periodic reads
  reading : Bool := false            -- an absolute read is in progress
  readAt : Nat := 0                  -- R66, device time at which it began
  agreed : Bool := false             -- R68, the readings taken in FAULT agree
  requal : Bool := false             -- R68, three attempts failed; QUALIFY follows after 1 ms
  chkDue : Nat := 0                  -- R70, device time of the next periodic check
  warns : Nat := 0                   -- R66, warning bits counted
  idxPos : Option Int := none        -- R73, position of the last latch
  idxSkip : Bool := true             -- R74, the next spacing is not checked
  idxOut : Bool := false             -- R73, the overrun of the present spacing was reported
  travel : Nat := 0                  -- R568, steps travelled beyond the whole periods counted
  resMax : Nat := 0                  -- R569, largest integer abs(e) of this second in TRACK
  resSeen : Bool := false            -- R569
  deriving DecidableEq, Repr

/-- What a queue entry is (R103, R117): a grid line, or one of the markers. -/
inductive EntryKind where
  | line | idleWarm | probe | spit
  deriving DecidableEq, Repr

/-- One entry of a row's section of the timestamp queue (R117), with what its lock point decided. -/
structure Entry where
  ts : Nat
  line : Nat
  lead : Nat
  offpar : Bool := false
  ovs : Bool := false
  kind : EntryKind := .line
  nozzle : Nat := 0                  -- probe or spit: the nozzle index h
  locked : Bool := false             -- R120, R121
  sent : Bool := false               -- R262, the transfer has been made
  latched : Bool := false            -- R265
  lost : Option Nat := none          -- reason the line must carry when it is withheld (R125)
  tid : Nat := 0                     -- R273
  epoch : Nat := 0                   -- the job the line belongs to (Plane.epoch)
  n01 : Nat := 0                     -- R281
  n10 : Nat := 0
  n11 : Nat := 0
  codes : List Nat := []             -- the codes the lock point decided it with
  pre : Nat := 0                     -- R259, 2 × W_PRE at the lock point, DT
  env : Nat := 0                     -- R261, 2 × W_ENV at the lock point, DT
  energy : Nat := 0                  -- R281
  deriving DecidableEq, Repr

/-- A computed, undecided line of a row (R220, R223). Its codes lie in the Bank L staging ring (R262). -/
structure Staged where
  line : Nat
  imgOk : Bool := false
  warmOk : Bool := false
  warmCnt : List Nat := []           -- R225, warm codes by zone, background and look-ahead
  ev : List Nat := []                -- R207, events of its final computation: share, spread, lost, dbl, sat
  atDt : Nat := 0                    -- R569, instant at which the line became complete
  deriving DecidableEq, Repr

/-- A fired Type L line that awaits its answer (R272). -/
structure Await where
  pcnt : Nat
  line : Nat
  ts : Nat
  kind : EntryKind
  deriving DecidableEq, Repr

/-- One head row (R100 to R127, R216 to R236). -/
structure Row where
  run : Bool := false                -- R103
  share : Bool := false              -- R112
  shareCnt : Nat := 0                -- R112, consecutive ticks towards SET_HOLD
  ovs : Bool := false                -- R135, the last native entry carries OVS
  ovsTick : Option Nat := none       -- R114, tick of the last OVS mark since RUN was set
  tLast : Option Nat := none         -- R113
  g : Nat := 0                       -- R101, next line
  gpos : Nat := 0                    -- R101, unsigned 64.32 accumulator
  flight : Nat := 0                  -- R106, unsigned 24.8
  period : Nat := 0                  -- R116, unsigned 24.8
  queue : List Entry := []           -- R117, in ts order
  lastFired : Option Nat := none     -- R119
  lastEntry : Option Nat := none     -- R234, TS of the row's last queue entry
  lateArm : Bool := true             -- R127, the next LINE_LATE blank raises the event
  undecided : Nat := 0               -- R220, lowest undecided grid line
  decided : List Nat := []           -- R221, lines decided beyond it
  high : Option Nat := none          -- R194, highest line locked or blanked
  staged : List Staged := []         -- R220, ascending
  cursor : Nat := 0                  -- R220, next line the cursor computes
  pspec : Nat := 0                   -- R228, unsigned 24.8
  tS : Nat := 0                      -- R216, snapshot time
  iwCnt : Nat := 0                   -- R235, 16-bit idle-warm counter
  warmPrev : Bool := false           -- R233, the last locked line had WARM_OK = 1
  nakArm : Bool := true              -- R272, the next HEAD_NAK line raises the event
  pcnt : Nat := 0                    -- R270
  await : List Await := []           -- R272
  decTick : Option Nat := none       -- R240, tick of the last decided entry
  live : Bool := false               -- R220, loaded for the present job
  snapNext : Nat := 0                -- R231, the line after the snapshot's last line
  sqTick : Option Nat := none        -- R232, tick of the last squash
  sqSpeed : Option Nat := none       -- R232, tick of the last squash by the speed test
  deriving DecidableEq, Repr

/-- Port states (R257). -/
inductive PortState where
  | off | detect | link | record | present | attached | offline | lost
  deriving DecidableEq, Repr

/-- Port state codes (R257, R287). -/
def PortState.code : PortState → Nat
  | .off => 0 | .detect => 1 | .link => 2 | .record => 3 | .present => 4 | .attached => 5
  | .offline => 6 | .lost => 7

/-- A fired entry whose last edge may still lie ahead (R259, R279, R334). -/
structure Fired where
  b : Nat                            -- 0 row A, 1 row B
  line : Nat
  ts : Nat
  kind : EntryKind
  mainAt : Nat
  last : Nat
  drops : Nat
  acked : Bool := false              -- R272, the head has acknowledged the line
  deriving DecidableEq, Repr

/-- A part of a trim set not yet sent (R273, R269). -/
structure TrimPart where
  lane : Nat
  row : Nat
  first : Nat
  count : Nat
  tries : Nat := 0
  whole : Bool := false              -- a resend keeps its extent
  deriving DecidableEq, Repr

/-- A trim frame on its way to the head (R273). -/
structure TrimFrame where
  lane : Nat
  seq : Nat
  first : Nat
  count : Nat
  row : Nat
  at_ : Nat                          -- end of its last transmission, DT
  tries : Nat := 0
  deriving DecidableEq, Repr

/-- A planned or flying probe (R299, R302, R314). -/
structure Probe where
  h : Nat
  line : Nat                         -- grid line, or the service marker
  ts : Nat := 0                      -- TS of a service probe's entry
  retry : Bool := false              -- taken from the retry queue
  mainAt : Nat := 0                  -- device time of its MAIN rising
  fired : Bool := false
  void : Bool := false               -- R305, its line was blanked or not delivered, or the port left ATTACHED
  next : Option Nat := none          -- R298, MAIN rising of the next event of the head with drops
  deriving DecidableEq, Repr

/-- A usage write-back in progress (R335, R336). -/
structure WriteBack where
  final : Bool
  tries : Nat := 0
  units : Nat := 0
  newUsage : Nat := 0
  expect : List Nat := []            -- the trailer written, whose read-back is awaited
  reads : Nat := 0                   -- fresh reads that failed
  full : Bool := false               -- R339, d had reached 2^24 when it was triggered last
  deriving DecidableEq, Repr

/-- What is known of OPU of one grid line (R200, R201); its value is the bit of the OPU ring in Bank N (R203). -/
structure Opu where
  line : Nat
  frozen : Bool := false
  deriving DecidableEq, Repr

/-- The map registers and mask bitmap a generation latched for one head (R193). -/
structure HeadMap where
  en : Bool := false
  rev : Bool := false
  policy : Nat := 1
  npr : Nat := 0
  uofs : Nat := 0
  col0 : Nat := 0
  ncol : Nat := 0
  deriving DecidableEq, Repr

/-- A spit in progress on a port (R467). -/
structure Spit where
  qp : Nat                           -- the queue pair whose SERVICE_SPIT asked for it
  code : Nat
  leftA : Nat                        -- entries still to write on row A
  leftB : Nat                        -- entries still to write on row B
  fly : Nat := 0                     -- entries written and not yet fired or dropped
  turnB : Bool := false              -- row B is next
  interval : Nat                     -- ticks between entries
  notBefore : Nat                    -- first tick in which an entry may be written
  iw : Bool                          -- IW_EN to be restored
  deriving DecidableEq, Repr

/-- A service sweep in progress (R314, R315). -/
structure Sweep where
  pos : Nat := 0                     -- next nozzle of the pass
  wait : List (Nat × Bool) := []     -- nozzles probed and not yet judged, and whether as a re-probe
  redo : List Nat := []              -- nozzles that missed, to be probed again, once for each time listed
  confirm : Bool := false            -- the confirmation pass runs
  left : List Nat := []              -- nozzles of the confirmation pass still to probe
  changed : List Nat := []           -- nozzles whose class changed in the pass
  trimWait : Bool := false           -- waits for its trim set to become current
  trimNext : Bool := false           -- that set follows the one in flight
  notBefore : Nat := 0               -- first tick in which an entry may be written
  iw : Bool := false                 -- IW_EN to be restored
  masked : Nat := 0                  -- nozzles newly masked
  changes : Nat := 0                 -- class changes
  deriving DecidableEq, Repr

/-- One head port and the head on it (R253 to R341). -/
structure Port where
  st : PortState := .off
  since : Nat := 0                   -- device time at which the state was entered
  failed : Bool := false             -- R257, failed DETECT or RECORD at least once
  waitDetect : Bool := false         -- R257, the 100 ms wait before DETECT runs
  record : List Nat := []            -- R329, the 256 bytes read, kept in Bank Q
  recOk : Bool := false              -- R329, FORMAT, TYPE, ROWS and parity pass
  recTries : Nat := 0                -- R257
  mgmt : List (Nat × List Nat) := [] -- R328, record pages received
  mgmtPend : List Nat := []          -- R267, management addresses awaiting their answer; a write counts as 0x100 more
  plane : Option Nat := none         -- R22, plane of the attached head
  args : List Nat := []              -- R522, arguments of the last HEAD_ATTACH
  attachedId : Option (Nat × Nat) := none -- FAMILY and SERIAL of the attached head
  untrusted : Bool := false          -- R332
  barred : Bool := false             -- R341
  barAfter : Option Nat := none      -- R341, last image line of the current page
  wbFail : Bool := false             -- R338
  d : Nat := 0                       -- R335, drops not yet written
  dHead : Option (Nat × Nat) := none -- R338, the head d belongs to
  wb : Option WriteBack := none      -- R336
  wbNext : Option Bool := none       -- R339, merged trigger: final?
  drops : Nat := 0                   -- R334, 64-bit drop count of the head
  ew : List (Nat × Nat) := []        -- R281, (TS, energy) of the window
  laneSeq : List Nat := [0, 0, 0, 0] -- R266, SEQ of the next frame of each lane
  bcSeq : Option Nat := none         -- R270, last back-channel sequence number
  lastBc : Nat := 0                  -- R277, device time of the last valid packet
  pollFails : Nat := 0               -- R277
  tsZone : Nat := 0                  -- R276, next zone to be measured
  selfOk : Bool := false             -- R280, a self-test passed since the trip
  trimOn : Bool := false             -- R273, a set is in flight
  trimAgain : Bool := false          -- R290, GO written during it
  trimTid : Nat := 0                 -- R273, the TID of the set in flight
  trim : List TrimFrame := []        -- R273, frames sent and not acknowledged
  trimParts : List TrimPart := []    -- R273, parts still to send
  low : List (Nat × Nat × List Nat) := [] -- R269, management and training frames to send: lane, TYPE, body
  laneFree : List Nat := [0, 0, 0, 0] -- R268, when the next frame of each lane may start
  laneHeld : List (Nat × List Nat × Nat) := [] -- R576, frames sent late: lane, bytes, when held
  bcAfter : List (List Nat) := []    -- R576, packets processed after the next one
  bcDue : List (Nat × List Nat) := [] -- R576, packets postponed: when due
  firing : List Fired := []          -- R259, R279
  pulseEnd : Nat := 0                -- R284, last scheduled edge of the pulses begun
  testEnd : Nat := 0                 -- R280, end of the self-test, during which FIRE_EN is inactive
  tempAt : List (Option Nat) := []   -- R275, tick at which each zone's reading was taken
  opu : List Opu := []               -- R203
  maps : List HeadMap := [{}, {}]    -- R193, latched by each generation
  planGap : Option Nat := none       -- R302, page number whose gap the plan serves
  plan : List Probe := []            -- R302
  flying : List Probe := []          -- R306, probes whose window has not closed
  retryQ : List Nat := []            -- R304
  clsPend : Bool := false            -- R309, classes changed in the gap
  trimPend : Bool := false           -- R309, a set started for them has not come to READY or FAIL
  trimPendNext : Bool := false       -- R309, that set follows the one in flight
  sweep : Option Sweep := none       -- R314
  spit : Option Spit := none         -- R467
  iwOff : Option Nat := none         -- R149, the tick since which IW_EN has been 0
  deriving DecidableEq, Repr

/-- Job states (R149). -/
inductive JobState where
  | opened | running
  deriving DecidableEq, Repr

/-- A job of a plane (R144 to R150). -/
structure Job where
  st : JobState := .opened
  stored : Bool := false
  no : Nat := 0                      -- stored-job number
  replay : Bool := false
  start : Nat := 0
  lastLine : Nat := 0                -- END(p) of R150 and R609
  closed : Option Nat := none        -- R609, the grid line of the last image line appended
  armWait : Option Nat := none       -- R149, tick in which IW_EN was cleared
  iwCleared : List Nat := []         -- R149, ports whose IW_EN was cleared
  armed : Bool := false
  channel : Option Nat := none       -- R461, DMA channel of a HOSTCH job
  deriving DecidableEq, Repr

/-- A strip accepted by JOB_APPEND and not yet committed (R151, R152). -/
structure Strip where
  count : Nat
  qp : Option Nat := none            -- queue pair whose JOB_APPEND waits for it
  chan : Option Nat := none          -- the DMA channel that moves it
  desc : Nat := 0                    -- DRAM address of its first descriptor
  ndesc : Nat := 0                   -- R154, R155: its descriptors, the final one included
  started : Bool := false
  done : Bool := false               -- its data is in place; committed once it is the oldest
  deriving DecidableEq, Repr

/-- A stored job held in DRAM (R146). -/
structure StoredJob where
  no : Nat
  fmt : Nat
  width : Nat
  page : Nat
  gap : Nat
  jobLines : Nat
  base : Nat
  imgLines : Nat
  held : Nat := 0                    -- image lines recorded so far
  deriving DecidableEq, Repr

/-- One plane (R138 to R198). -/
structure Plane where
  defined : Bool := false            -- R456
  job : Option Job := none           -- R144
  strips : List Strip := []          -- R153, the strip FIFO, oldest first
  avail : Nat := 0                   -- R153
  done : Nat := 0                    -- R159
  retired : Nat := 0                 -- R159
  chg : Nat := 0                     -- R172
  chgDue : Bool := false             -- R172, a table change not yet screened with
  badln : Nat := 0                   -- R174
  stallAt : Option Nat := none       -- R173, the word address in Bank S at which the line was abandoned
  gen : Nat := 0                     -- R193, newest generation
  lp : Nat := 0                      -- R194, L_p of the newest generation
  oldLive : Bool := false            -- R197
  pending : Bool := false            -- R197
  epoch : Nat := 0                   -- counts the jobs opened, so that a line is told from one of an earlier job
  iwRestore : List Nat := []         -- R236, ports whose IW_EN is to be set again
  deriving DecidableEq, Repr

/-- Supervision of one thermal zone behind its registers (R240, R241). -/
structure Zone where
  okRun : Nat := 0                   -- R241, consecutive ticks armed, fresh and in band
  fe : Bool := false                 -- R241, the count's present excess has been acted on
  deriving DecidableEq, Repr

/-- A DMA descriptor accepted by its channel (R347), with the pieces of its source and destination (R354). -/
structure Desc where
  src : Nat := 0
  dst : Nat := 0
  len : Nat := 0
  evt : Nat := 0
  seq : Nat := 0
  waitAck : Bool := false
  ns : Bool := false                 -- R358
  srcSg : Bool := false
  dstSg : Bool := false
  srcW : Nat := 0                    -- code: 2^code bytes
  dstW : Nat := 0
  swap : Nat := 0
  srcSp : Nat := 0
  dstSp : Nat := 0
  nextSp : Nat := 0
  last : Bool := false
  next : Nat := 0
  srcP : List (Nat × Nat) := []
  dstP : List (Nat × Nat) := []
  deriving DecidableEq, Repr

/-- A DMA channel behind its registers (R343 to R370). -/
structure Chan where
  desc : Option Desc := none         -- accepted and not complete
  first : Bool := true               -- R349, the next descriptor fetched is the first of its chain
  reread : Bool := false             -- R344, the NEXT word of the last descriptor processed is to be read again
  reads : Nat := 0                   -- R355, its read requests outstanding
  release : Bool := false            -- R461, Quill firmware clears HOST and DISABLE once it is DISABLED
  hostTo : Option Nat := none        -- R362, the last host address written since the start
  deriving DecidableEq, Repr

/-- A command taken from a queue pair (R421): its header, its argument bytes, and the status of the checks 1 to 4 of
R425 where one failed. -/
structure Cmd where
  op : Nat
  tag : Nat := 0
  noirq : Bool := false
  args : List Nat := []
  pre : Option Nat := none
  seen : Nat := 0                    -- R427, when the mailbox unit saw its push, GO write or doorbell
  deriving DecidableEq, Repr

/-- What a waiting command waits for (R451, R452). -/
inductive Wait where
  /-- SET_MODE or JOB_OPEN: the mode to be reported (R454). -/
  | mode (target : Mode)
  /-- HEAD_ATTACH: its commit and its first trim set (R457). -/
  | attach (n : Nat) (commit trim : Bool)
  /-- A detach: its write-back and its commit (R457). -/
  | detach (n : Nat) (wb commit : Bool)
  /-- JOB_APPEND on a plane (R156). -/
  | append (p : Nat)
  /-- MASK_SET, SUBST_POLICY, VERIFY_SWEEP CLEAR: planes whose commit is awaited, largest L_p so far (R197). -/
  | commits (planes : List Nat) (lmax : Nat)
  /-- TRIM_SET (R465), or an attach undone: the port, whether it waits for the set after the one in flight, and the status
  once it is known. -/
  | trim (n : Nat) (later : Bool) (res : Option Nat)
  /-- SERVICE_SPIT: ports still spitting, entries fired (R467). -/
  | spit (ports : List Nat) (fired : Nat)
  /-- VERIFY_SWEEP SWEEP: ports still sweeping, nozzles newly masked, class changes (R468). -/
  | sweep (ports : List Nat) (masked changes : Nat)
  /-- CAL_RUN: ports done and deferred, and whether anything was deferred (R469). -/
  | cal (done deferred : Nat) (part : Bool)
  /-- BIST_RUN of kind 2 (R470). -/
  | logic
  /-- OTP_PROGRAM (R476) or OTP_LOCK (R477). -/
  | otp
  /-- CHAIN_CONFIG join (R480). -/
  | join
  deriving DecidableEq, Repr

/-- A mailbox queue pair behind its registers (R426 to R435). -/
structure Qp where
  st : Nat := 0                      -- R444: 0 OFF, 1 ACTIVE, 2 DRAIN
  mode : Nat := 0                    -- R443, the MODE it was started with
  sq : List Cmd := []                -- commands taken and not begun, oldest first
  cur : Option (Cmd × Wait) := none  -- the command that waits (R451)
  dead : Bool := false               -- R420, its completion is discarded
  cq : List (List Nat) := []         -- R429, the completion FIFO
  asm : List Nat := []               -- R429, words of the submission window, by number; missing ones are 0
  head : Nat := 0                    -- R445, next submission slot to fetch
  ctail : Nat := 0                   -- R445, next completion slot
  phase : Bool := true               -- R434
  latchTail : Option Nat := none     -- R435
  latchHead : Option Nat := none     -- R435
  early : Bool := false              -- R430, MBX_EARLY raised
  stop : Bool := false               -- R433, fetches stopped
  doors : List (Nat × Nat) := []     -- R427, doorbells not fetched up to: tail, and when seen
  deriving DecidableEq, Repr

/-- An MSI-X vector (R436): when its last message was sent, and when a coalesced one is due. -/
structure Vec where
  last : Option Nat := none
  due : Option Nat := none
  deriving DecidableEq, Repr

/-- The power state behind the PWR registers (R37, R471, R512 to R528). -/
structure Power where
  good : Bool := false               -- R597, VMAIN has been good and no lockout has followed
  goodAt : Nat := 0                  -- R535, device time of VMAIN good
  mainLost : Bool := false           -- R512, R513: VMAIN met the switch-over condition and has not returned
  retAt : Option Nat := none         -- R514, start of the 50 ms return count
  vminOpen : Bool := false           -- R534, the window of PWR_VMIN is open
  from_ : Mode := .config            -- R37, the mode from which IDLE was entered
  sub : Nat := 0                     -- R521, the sub-state in force
  selected : Bool := false           -- R454, the first selection since IDLE was entered is in force
  entering : Option Nat := none      -- R522, R527: the sub-state whose entry awaits write-backs
  wake : Option Mode := none         -- R37, R527: a wake is requested or runs: the mode it leads to
  wakeSub : Nat := 0                 -- R527, the sub-state a wake to IDLE leads to
  wakeAt : Option Nat := none        -- R527, a wake runs: when its exit latency ends
  event : Option Nat := none         -- R525, the next known event of the last selection
  hint : Option Nat := none          -- R472, R525: the time of the last hint
  idleSince : Nat := 0               -- R37, device time of the last command
  noJobAt : Nat := 0                 -- R37, since when no job has been open in this mode
  idleDelay : Nat := 0               -- R471, ms
  maxSub : Nat := 3                  -- R471
  defSub : Nat := 1                  -- R471
  spPrint : Nat := 0                 -- R471
  spWarm : Nat := 0                  -- R471
  serviceAt : Nat := 0               -- R40, last spit or sweep received
  parkPend : Bool := false           -- R516, triggered and not begun
  parkTrig : Nat := 0                -- R516, the instant of the trigger
  parkAt : Option Nat := none        -- R516, T_P of the sequence
  exiting : Bool := false            -- R518, leaving PARK
  reattach : List Nat := []          -- R522, ports to be attached again at the wake
  logic : Bool := false              -- R470, a logic BIST run is in progress
  deriving DecidableEq, Repr

/-- A trim that a calibration found and that waits for its boundary (R545). `what`: 0 gains and reference of encoder channel
`unit`, 1 skew of port `unit`, 2 its termination, 3 its thermal-sense ratio, 4 the timebase code. -/
structure TrimDue where
  what : Nat
  unit : Nat := 0
  vals : List Nat := []
  atTick : Bool := false             -- applies at the next tick boundary; otherwise at the entry to IDLE
  deriving DecidableEq, Repr

/-- The calibration unit behind its registers (R544 to R547, R564). -/
structure Cal where
  enc : Nat := 0                     -- R55, R544: channels whose encoder items have passed
  ts : Nat := 0                      -- ports whose thermal-sense item has failed, bit n for port n
  skew : Nat := 0                    -- the same, port skew
  lvds : Nat := 0                    -- the same, LVDS terminations
  tb : Bool := false                 -- the timebase item has failed
  run : Option (Nat × Nat × Nat) := none -- scope, channels and ports of the run in progress
  later : Option (Nat × Nat) := none -- R547, scope and ports deferred to the next wake
  due : List TrimDue := []
  deriving DecidableEq, Repr

/-- One OBS held for the chain observer copy (R499, R500). -/
structure ObsFrame where
  tick : Nat
  x : BitVec 80
  v : Int
  a : Int
  st : Nat                           -- state code of R68
  flags : Nat                        -- SPEED_VALID, REVERSED, HOLD, EMIT in bits 0 to 3
  idx : Nat                          -- master INDEX
  limit : BitVec 80                  -- the master's coast limit
  deriving DecidableEq, Repr

/-- The chain observer copy (R500, R501). -/
structure Copy where
  st : EncState := .off
  x : BitVec 80 := 0
  v : Int := 0
  a : Int := 0
  emit : Bool := false
  flags : Nat := 0                   -- the flags of the last OBS taken
  limit : BitVec 80 := 0             -- coast limit
  idx : Option Nat := none           -- the master whose OBS it takes
  good : Nat := 0                    -- consecutive ticks of OBS towards recovery
  held : List ObsFrame := []
  deriving DecidableEq, Repr

/-- One 66-bit block of a lane before the scrambler (R484): a control block under sync header 10, or a data block under 01. -/
structure MBlock where
  control : Bool
  octets : List Nat
  deriving DecidableEq, Repr

/-- A Mboca port behind its registers (R485, R489). -/
structure MPort where
  run : Bool := false                -- bring-up runs, or the link is UP
  lock : Bool := false
  up : Bool := false
  good : Nat := 0                    -- consecutive LINK frames with a COUNT equal to the device's own
  wait : Nat := 1                    -- ms to the retry after the next failure
  retryAt : Option Nat := none
  expect : Option Nat := none        -- SEQ expected next
  txSeq : Nat := 0                   -- SEQ of the next frame sent
  lastRx : Nat := 0                  -- device time of the last valid frame
  crcAt : Option Nat := none         -- device time of the last CHAIN_CRC
  after : List MFrame := []          -- R576, frames processed after the next one
  due : List (Nat × MFrame) := []    -- R576, frames postponed: when due
  deriving DecidableEq, Repr

/-- A member of the chain other than the device itself, as its last ANNOUNCE gives it (R491, R492). -/
structure Member where
  idx : Nat
  ident : Nat
  pref : Nat
  heads : Nat
  sync : Nat
  at_ : Nat
  hops : List (Option (Nat × Nat)) := [none, none] -- per port: HOPS of the last ANNOUNCE, and when it arrived
  deriving DecidableEq, Repr

/-- A time measurement in progress (R494): t1 in 1/16 DT, SEQ of the request, and its port. -/
structure Meas where
  t1 : Nat
  seq : Nat
  pt : Nat
  deriving DecidableEq, Repr

/-- The chain behind the CHN registers (R482 to R504). -/
structure Chain where
  ports : List MPort := [{}, {}]
  members : List Member := []
  ident : Nat := 0                   -- own IDENT
  heads : Nat := 512                 -- HEADS of the join
  rxSeq : List (Nat × Nat × Nat) := [] -- SRC, TYPE, last OSEQ accepted
  txSeq : List (Nat × Nat) := []     -- TYPE, next OSEQ
  master : Option Nat := none        -- INDEX of the master in force
  syncPort : Option Nat := none      -- port of the sync neighbour
  hops : Nat := 0
  next : Option (Option Nat × Option Nat × Nat) := none -- R492, what the next tick boundary puts in force
  conflictAt : Option Nat := none    -- R491, when a cause of CONFLICT was last seen
  fi : Int := 0                      -- R494, ppb
  f : Int := 0
  hist : List Int := []              -- R495, the last 16 values of f, newest first
  meas : Option Meas := none
  asked : Bool := false              -- R495, the present interval has a request and no valid measurement
  good : Nat := 0
  big : Nat := 0
  miss : Nat := 0
  coastAt : Option Nat := none       -- R495, start of the coast timer
  step : Int := 0                    -- R496, o in 1/16 DT
  wasLocked : Bool := false          -- R493
  joinAt : Nat := 0                  -- R480
  inbox : List (Nat × List Nat) := [] -- R503, MSG frames for Quill firmware: SRC and payload
  deriving DecidableEq, Repr

/-- A burn of the OTP array in progress (R552, R553): the word, its value, the words still to burn, and what asked for it. -/
structure Burn where
  word : Nat
  value : Nat
  rest : List (Nat × Nat) := []
  lock : Bool := false
  deriving DecidableEq, Repr

/-- The OTP array and what the controller knows of it (R548 to R556). `raw` holds every burnt word with its check bits;
`vals` and `marg` are the words as they read now, `startVals` and `startMarg` as they read at this start. -/
structure Otp where
  raw : List (Nat × Nat) := []
  vals : List (Nat × Nat) := []
  marg : List Nat := []
  unread : List Nat := []
  startVals : List (Nat × Nat) := []
  startMarg : List Nat := []
  startUnread : List Nat := []
  startReads : List OtpRead := []    -- R549, the reads of the words that the array did not give as it holds them
  startRaw : List (Nat × Nat) := []  -- the array as the reads of stage 2 left it
  failed : List Nat := []            -- R552, words failed once
  refused : List Nat := []           -- R552, words that failed their retry
  burn : Option Burn := none
  deriving DecidableEq, Repr

/-- A fault-injection slot behind its registers (R576, R577, R579). -/
structure Slot where
  seen : Nat := 0                    -- eligible frames since arming
  owed : Bool := false               -- fell due on a frame a lower slot acted on
  hits : Nat := 0                    -- K, frames affected
  raised : Bool := false             -- INJECTED raised since arming
  deriving DecidableEq, Repr

/-- What the device keeps of a head by its FAMILY and SERIAL (R338, R340): the drops not written and all drops counted when it was last
seen on a port, and whether USAGE_LIMIT was raised since its last attach. -/
structure HeadUse where
  d : Nat := 0
  drops : Nat := 0
  limit : Bool := false
  deriving DecidableEq, Repr

/-- The scrub of a bank, or of DRAM under number 6 (R400, R401): the next window, and when the pass in hand began. -/
structure Scrub where
  win : Nat := 0
  began : Option Nat := none
  deriving DecidableEq, Repr

/-- An event (R573, R574). -/
structure Ev where
  code : Nat
  obj : Nat
  at_ : Nat
  injected : Bool := false
  remote : Option Nat := none        -- R502, device index of a remote event
  deriving DecidableEq, Repr

/-- What leaves the block on its pins and links. -/
inductive Output where
  /-- A strobe edge of port `n` (R259): pin 0 PRE A, 1 MAIN A, 2 PRE B, 3 MAIN B. -/
  | edge (n pin : Nat) (high : Bool) (dt : Nat)
  /-- A lane frame of a Type L port (R266), its bytes in order. -/
  | frame (n lane : Nat) (bytes : List Nat) (dt : Nat)
  /-- A Type S shift of one row (R264): per lane its number and its 512 bits in order. Bit j is sampled at the j-th edge of the
row's clock, which begins at `dt` from its low rest; the edges are `half` DT apart and the last one, which leaves the clock low,
ends the shift at `done`. -/
  | shift (n row : Nat) (lanes : List (Nat × List Bool)) (dt half done : Nat)
  /-- Bytes written on the two-wire bus of Type S port `n` to address `dev` (R260, R336). -/
  | twoWire (n dev addr : Nat) (bytes : List Nat)
  /-- A sequential read of `k` bytes on the two-wire bus of Type S port `n` (R327, R335, R336). -/
  | twoWireRead (n dev addr k : Nat)
  /-- Two-wire address `dev` of Type S port `n` polled until it is acknowledged (R336). -/
  | twoWirePoll (n dev : Nat)
  /-- A LATCH pulse of a Type S port (R265): rising and falling instants. -/
  | latch (n row rise fall : Nat)
  /-- A frame sent on Mboca port `pt` (R487). -/
  | mboca (pt : Nat) (blocks : List MBlock) (dt : Nat)
  /-- An MSI-X message of vector `v` (R436). -/
  | msix (v : Nat)
  /-- A request for host memory on PCIe (R355, R358, R361, R443): its address, its length, 0 for the read that only confirms, and
whether it carries the No Snoop attribute. -/
  | hostReq (write : Bool) (a k : Nat) (noSnoop : Bool)
  /-- Data returned to a read. -/
  | read (v : Nat)
  /-- A host read completed with Completer Abort (R388, R416, R417). -/
  | abort
  /-- A host read completed with Unsupported Request (R417). -/
  | unsupported
  /-- A synchronous abort taken by the Quill core whose access it was (R388, R394, R395). -/
  | coreAbort
  deriving DecidableEq, Repr

end Sys2Proof.Machine
end

