-- ==== Sys2Proof/Machine/State.lean ====
section
/-! DEFINITION. The state of the block as plain data: the register file, the memories, the typed records behind the
registers, the queue of waiting commands, and the trace of what left the block. State.reset is the state after reset. -/
namespace Sys2Proof.Machine

/-- What stops a step: nothing does. Every command of the spec has an effect in every state, a unit the part lacks included
(R4, R46). -/
inductive Fault where
  deriving DecidableEq, Repr

/-- What the model refuses. -/
inductive Refusal where
  /-- Answered by an arm of `exec` whose command has no meaning yet. Safe: the model stops. -/
  | notModelled (mnemonic : String)
  deriving DecidableEq, Repr

/-- The state of the block. What there is one of per unit is held by unit number, in the canonical form of Cells: a unit that is
not listed is as it was after reset. -/
structure State where
  part : Part := .sxv3200
  dt : BitVec 64 := 0
  mode : Mode := .boot
  regs : List (Nat × BitVec 32) := []
  chip : List Host.Cell := [(0x0F00000, 1)]
  dram : List Host.Cell := []
  hostOut : List Host.Cell := []
  flash : List Host.Cell := []
  enc : List (Nat × Enc) := []
  rows : List (Nat × Row) := []
  ports : List (Nat × Port) := []
  planes : List (Nat × Plane) := []
  zones : List (Nat × Zone) := []
  stored : List StoredJob := []
  heads : List (Nat × HeadUse) := []
  evFifo : List Ev := []
  evQueue : List Ev := []
  blt : List (Nat × Nat) := []
  out : List Output := []
  freeCtr : Nat := 0
  tick : Option Nat := none
  taintPort : List (Nat × Option Nat) := []
  taintDev : Option Nat := none
  ndCount : Nat := 0
  slackMin : Option Nat := none
  slackLate : Bool := false
  cal : Cal := {}
  squashLow : Option Nat := none
  qps : List (Nat × Qp) := []
  vecs : List (Nat × Vec) := []
  evLast : List (Nat × Option Nat) := []
  pw : Power := {}
  diag : Option Nat := none
  otp : Otp := {}
  slots : List (Nat × Slot) := []
  copy : Copy := {}
  chain : Chain := {}
  chans : List (Nat × Chan) := []
  dramBad : List Nat := []
  bankBad : List Nat := []
  tabCopy : List Host.Cell := []
  screenTurn : Nat := 7
  dmaTurn : Nat := 63
  scrub : List (Nat × Scrub) := []
  dramSr : Bool := false
  bankWake : List (Nat × Nat) := []
  bist : Option (Nat × Nat) := none
  bistTick : Option Nat := none
  flush : Option Nat := none
  flushAgain : Bool := false
  evLost : Nat := 0
  perst : Bool := false
  linkUp : Bool := false
  pcie : PcieCfg := {}
  scan : Bool := false
  overDue : Bool := false
  goodTick : Bool := false
  latch : List (Nat × Nat) := []
  pending : List Instr := []
  deriving DecidableEq, Repr

/-- The state after reset. Bank B carries the FORMAT word of R566. -/
def State.reset : State := {}

end Sys2Proof.Machine
end

