-- ==== Sys2Proof/Machine/Ops.lean ====
section
/-! DEFINITION. The named operations over registers, memories, units, events and outputs that the meanings share. -/
namespace Sys2Proof.Machine

/-! Registers. -/

/-- The stored word of the register at BAR0 offset `a`. -/
def State.get (s : State) (a : Nat) : BitVec 32 := cellGet regReset s.regs a

/-- The stored word as a number. -/
def State.getN (s : State) (a : Nat) : Nat := (s.get a).toNat

/-- `s` with the word `v` stored at offset `a`. -/
def State.set (s : State) (a : Nat) (v : BitVec 32) : State := { s with regs := cellPut regReset s.regs a [v] }

/-- `s` with the low 32 bits of `v` stored at offset `a`. -/
def State.setN (s : State) (a v : Nat) : State := s.set a (BitVec.ofNat 32 v)

/-- A field of a register as an unsigned number (R10). -/
def State.fld (s : State) (a : Nat) (f : Fld) : Nat := bits (s.getN a) f.lo f.w

/-- A one-bit field. -/
def State.bit (s : State) (a : Nat) (f : Fld) : Bool := s.fld a f ≠ 0

/-- A field read as two's complement (R12). -/
def State.fldS (s : State) (a : Nat) (f : Fld) : Int := sgn f.w (s.fld a f)

/-- `s` with a field set to the low bits of `v`. -/
def State.setFld (s : State) (a : Nat) (f : Fld) (v : Nat) : State := s.setN a (setBits (s.getN a) f.lo f.w v)

/-- `s` with a one-bit field set or cleared. -/
def State.setBit (s : State) (a : Nat) (f : Fld) (b : Bool) : State := s.setFld a f (if b then 1 else 0)

/-- `s` with an RSAT field raised by `k` (R15: it holds at its maximum). -/
def State.bump (s : State) (a : Nat) (f : Fld) (k : Nat := 1) : State :=
  s.setFld a f (satU f.w (s.fld a f + k))

/-- A whole 32-bit RSAT register raised by `k` (R15). -/
def State.bumpW (s : State) (a : Nat) (k : Nat := 1) : State := s.bump a ⟨0, 32⟩ k

/-- A 64-bit quantity held in a LO and a HI register. -/
def State.get64 (s : State) (lo hi : Nat) : Nat := s.getN lo + s.getN hi * 2 ^ 32

/-- `s` with a 64-bit quantity stored in a LO and a HI register. -/
def State.set64 (s : State) (lo hi v : Nat) : State := (s.setN lo (v % 2 ^ 32)).setN hi (v / 2 ^ 32 % 2 ^ 32)

/-! Memories: bytes, little-endian (R11). Every unlisted byte reads 0 (DESIGN CHOICE, log entry 2). -/

/-- What an unlisted byte of memory reads as. -/
def byte0 (_ : Nat) : BitVec 8 := 0

/-- `k` bytes of a memory from address `a`. -/
def memRead (m : List Host.Cell) (a k : Nat) : List Nat := (cellSlice byte0 m a k).map BitVec.toNat

/-- `k` bytes as a little-endian number (R11). -/
def memReadN (m : List Host.Cell) (a k : Nat) : Nat := ofLe (memRead m a k)

/-- `m` with bytes written from address `a`. -/
def memWrite (m : List Host.Cell) (a : Nat) (bs : List Nat) : List Host.Cell :=
  cellPut byte0 m a (bs.map (BitVec.ofNat 8))

/-- The canonical form of a memory. -/
def Memory.wf (m : List Host.Cell) : Bool := cellWf byte0 m

/-- Where each on-chip bank begins in the internal address space (R385). -/
def bankQ : Nat := 0x0000000
def bankN : Nat := 0x0400000
def bankL : Nat := 0x0800000
def bankS : Nat := 0x0C00000
def bankD : Nat := 0x0E00000
def bankB : Nat := 0x0F00000

/-- `k` bytes of on-chip memory. -/
def State.chipRead (s : State) (a k : Nat) : List Nat := memRead s.chip a k

/-- `s` with bytes written to on-chip memory. A word that was uncorrectable is so no longer once it is written (R394). -/
def State.chipWrite (s : State) (a : Nat) (bs : List Nat) : State :=
  { s with chip := memWrite s.chip a bs
           bankBad := s.bankBad.filter (fun w => w * 8 + 8 ≤ a ∨ a + bs.length ≤ w * 8) }

/-- The word address of an uncorrectable on-chip word among `k` bytes from `a` (R394). -/
def State.chipFaulty (s : State) (a k : Nat) : Option Nat :=
  s.bankBad.find? (fun w => decide (a < w * 8 + 8) && decide (w * 8 < a + k))

/-- `s` with bytes written to DRAM. A word that was uncorrectable is so no longer once it is written (R395). -/
def State.dramWrite (s : State) (a : Nat) (bs : List Nat) : State :=
  { s with dram := memWrite s.dram a bs
           dramBad := s.dramBad.filter (fun w => w * 8 + 8 ≤ a ∨ a + bs.length ≤ w * 8) }

/-- The word address of an uncorrectable DRAM word among `k` bytes from `a` (R395). -/
def State.dramFaulty (s : State) (a k : Nat) : Option Nat :=
  s.dramBad.find? (fun w => decide (a < w * 8 + 8) && decide (w * 8 < a + k))

/-- `s` with bytes the device writes to host memory. -/
def State.hostWrite (s : State) (a : Nat) (bs : List Nat) : State := { s with hostOut := memWrite s.hostOut a bs }

/-- Bit `b` of the on-chip byte at `a`. -/
def State.chipBit (s : State) (a b : Nat) : Bool := memReadN s.chip a 1 / 2 ^ b % 2 = 1

/-- `s` with bit `b` of the on-chip byte at `a` set or cleared. -/
def State.setChipBit (s : State) (a b : Nat) (v : Bool) : State :=
  s.chipWrite a [setBits (memReadN s.chip a 1) b 1 (if v then 1 else 0)]

/-! Units. -/

/-- Device time as a number of DT. -/
def State.now (s : State) : Nat := s.dt.toNat

/-- `s` with device time moved on to `t`, never back. -/
def State.advTo (s : State) (t : Nat) : State := { s with dt := BitVec.ofNat 64 (max s.now t) }

def State.encAt (s : State) (k : Nat) : Enc := cellGet (fun _ => {}) s.enc k
def State.rowAt (s : State) (i : Nat) : Row := cellGet (fun _ => {}) s.rows i
def State.portAt (s : State) (n : Nat) : Port := cellGet (fun _ => {}) s.ports n
def State.planeAt (s : State) (p : Nat) : Plane := cellGet (fun _ => {}) s.planes p
def State.chanAt (s : State) (c : Nat) : Chan := cellGet (fun _ => {}) s.chans c
def State.zoneAt (s : State) (n z : Nat) : Zone := cellGet (fun _ => {}) s.zones (n * 8 + z)
def State.modEnc (s : State) (k : Nat) (f : Enc → Enc) : State := { s with enc := cellMod (fun _ => {}) s.enc k f }
def State.modRow (s : State) (i : Nat) (f : Row → Row) : State := { s with rows := cellMod (fun _ => {}) s.rows i f }
def State.modPort (s : State) (n : Nat) (f : Port → Port) : State := { s with ports := cellMod (fun _ => {}) s.ports n f }
def State.modPlane (s : State) (p : Nat) (f : Plane → Plane) : State := { s with planes := cellMod (fun _ => {}) s.planes p f }
def State.modChan (s : State) (c : Nat) (f : Chan → Chan) : State := { s with chans := cellMod (fun _ => {}) s.chans c f }
def State.modZone (s : State) (n z : Nat) (f : Zone → Zone) : State := { s with zones := cellMod (fun _ => {}) s.zones (n * 8 + z) f }

/-- Fault-injection slot `j`. -/
def State.slotAt (s : State) (j : Nat) : Slot := cellGet (fun _ => {}) s.slots j

/-- `s` with `f` applied to slot `j`. -/
def State.modSlot (s : State) (j : Nat) (f : Slot → Slot) : State := { s with slots := cellMod (fun _ => {}) s.slots j f }

/-- MSI-X vector `v`. -/
def State.vecAt (s : State) (v : Nat) : Vec := cellGet (fun _ => {}) s.vecs v

/-- `s` with `f` applied to vector `v`. -/
def State.modVec (s : State) (v : Nat) (f : Vec → Vec) : State := { s with vecs := cellMod (fun _ => {}) s.vecs v f }

/-- Fold a state change over a list of unit numbers, in order. -/
def State.forEach {α : Type} (s : State) (l : List α) (f : State → α → State) : State := l.foldl f s

/-- A fresh free value (Config.free), and the state whose counter has moved on. -/
def State.fresh (s : State) : Nat × State := (Config.free s.freeCtr, { s with freeCtr := s.freeCtr + 1 })

/-- `k` fresh free values. -/
def State.freshList (s : State) (k : Nat) : List Nat × State :=
  ((List.range k).map (fun j => Config.free (s.freeCtr + j)), { s with freeCtr := s.freeCtr + k })

/-- `s` with one more output in the trace, newest first. -/
def State.emit (s : State) (o : Output) : State := { s with out := o :: s.out }

/-- W_p (R183). -/
def State.width (s : State) (p : Nat) : Nat := s.fld (R.SCR_PLANE_WIDTH p) F.SCR_PLANE_WIDTH_W

/-- The number of head rows of the part (R20). -/
def State.nRows (s : State) : Nat := 2 * s.part.ports

end Sys2Proof.Machine
end

