-- ==== Sys2Proof/Machine/Events.lean ====
section
/-! DEFINITION. Events (R573, R574), the Blotter's deltas (R567, R568), the taint of injected faults (R578), and the
outcomes of lines (R123 to R127). -/
namespace Sys2Proof.Machine

/-- The taint window in DT (R578, R585): TAINT ms, 0 acting as 1. -/
def State.taintWin (s : State) : Nat := max 1 (s.fld R.FIJ_TAINT F.FIJ_TAINT_TAINT) * 2000000

/-- Whether an instant lies within the taint window after the last affected frame of a scope (R578). -/
def State.within (s : State) (t : Option Nat) : Bool :=
  match t with
  | some a => s.now - a ≤ s.taintWin && decide (a ≤ s.now)
  | none => false

/-- Whether an effect in the scope of port `n` is injected (R578). -/
def State.portTainted (s : State) (n : Nat) : Bool := s.within (cellGet (fun _ => none) s.taintPort n)

/-- Whether an effect in the scope of the device is injected (R578). -/
def State.devTainted (s : State) : Bool := s.within s.taintDev

/-- Whether an event of this code and object is injected (R578). -/
def State.evTainted (s : State) (code obj : Nat) : Bool :=
  if code / 0x1000 = 2 then s.portTainted obj
  else if code / 0x1000 = 1 ∨ code / 0x1000 = 3 ∨ code / 0x1000 = 8 then s.devTainted
  else false

/-- Whether the outcome of a line of row `i` is injected (R578): in the scope of its port, or of the device. -/
def State.lineTainted (s : State) (i : Nat) : Bool := s.portTainted (i / 2) || s.devTainted

/-- `k` added to the accumulator of Blotter counter `j` (R567, R568). -/
def State.count (s : State) (j : Nat) (k : Nat := 1) : State :=
  { s with blt := cellPut (fun _ => 0) s.blt j [cellGet (fun _ => 0) s.blt j + k] }

/-- The index of Blotter counter `i` of port `n` (R568). -/
def cPort (n i : Nat) : Nat := 64 + n * 16 + i

/-- The index of Blotter counter `i` of encoder channel `k`, 4 for the chain copy (R568). -/
def cEnc (k i : Nat) : Nat := 576 + k * 8 + i

/-- An event posted to the hardware FIFO (R574); a full FIFO loses one event, which one the spec does not say. -/
def State.post (s : State) (e : Ev) : State :=
  let room := decide (s.evFifo.length < 256)
  { s with
    evFifo := if room then s.evFifo ++ [e]
      else if Config.fifoDropsOldest s.freeCtr then s.evFifo.drop 1 ++ [e] else s.evFifo
    freeCtr := if room then s.freeCtr else s.freeCtr + 1 }

/-- A Blotter counter raised by `k`, unless the effect it counts is injected (R578). -/
def State.countUnless (s : State) (inj : Bool) (j : Nat) (k : Nat := 1) : State :=
  { s with blt := if inj then s.blt else (s.count j k).blt }

/-- An event raised at device time `t` (R573, R574), marked where it is injected (R578). -/
def State.raiseAt (s : State) (t code obj : Nat) : State :=
  let inj := s.evTainted code obj
  (s.countUnless (!inj) 656).post { code := code, obj := obj, at_ := t, injected := inj }

/-- An event raised now. -/
def State.raise (s : State) (code obj : Nat) : State := s.raiseAt s.now code obj

/-- An event raised and counted at its source in Blotter counter `j` (R574). -/
def State.raiseCount (s : State) (code obj j : Nat) : State :=
  (s.countUnless (s.evTainted code obj) j).raise code obj

/-! Line outcomes. -/

/-- The reasons of R125 by code. -/
def reasonWdog : Nat := 1
def reasonNak : Nat := 2
def reasonPark : Nat := 3
def reasonTrack : Nat := 4
def reasonOverspeed : Nat := 5
def reasonFault : Nat := 6

/-- A line of row `i` blanked with cause `c` (R122, R127). The counters, the LINE_LATE event of R127 and the
Blotter's counts follow; an injected blank is counted only in counter 658. -/
def State.blank (s : State) (i c : Nat) : State :=
  let inj := s.lineTainted i
  let s := s.bumpW (R.DCT_ROW_BLK i c)
  let s := if inj then s.count 658 else (s.count (29 + c))
  let s := if c = 2 then s.countUnless inj (cPort (i / 2) 5) else s
  if c = 1 then
    let s := { s with slackLate := s.slackLate || !inj }
    if (s.rowAt i).lateArm then (s.raise 0x1001 i).modRow i (fun r => { r with lateArm := false }) else s
  else s

/-- A line of row `i` delivered (R123, R127). -/
def State.deliver (s : State) (i : Nat) : State :=
  let v := satU 64 (s.get64 (R.DCT_ROW_DLV_LO i) (R.DCT_ROW_DLV_HI i) + 1)
  (s.set64 (R.DCT_ROW_DLV_LO i) (R.DCT_ROW_DLV_HI i) v).countUnless (s.lineTainted i) (cPort (i / 2) 1)

/-- The log entry of a line not delivered (R127, R131, R132). -/
def State.ndLog (s : State) (i line ts r : Nat) : State :=
  let j := s.fld R.DCT_ND_WR F.DCT_ND_WR_NEXT
  let s := if s.ndCount ≥ 16 then s.setBit R.DCT_ND_WR F.DCT_ND_WR_WRAPPED true else s
  let s := s.setN (R.DCT_ND_LOG0 j) (line % 2 ^ 32)
  let s := s.setN (R.DCT_ND_LOG1 j) (line / 2 ^ 32 % 2 ^ 16 + i * 2 ^ 16 + r * 2 ^ 24)
  let s := s.setN (R.DCT_ND_LOG2 j) (ts % 2 ^ 32)
  let s := s.setN (R.DCT_ND_LOG3 j) (ts / 2 ^ 32 % 2 ^ 32)
  let s := s.setFld R.DCT_ND_WR F.DCT_ND_WR_NEXT ((j + 1) % 16)
  { s.setBit R.DCT_STAT F.DCT_STAT_ND_NEW true with ndCount := s.ndCount + 1 }

/-- A locked line of row `i` not delivered with reason `r` (R125, R127). -/
def State.notDelivered (s : State) (i line ts r : Nat) : State :=
  let inj := s.lineTainted i
  let s := s.bumpW (R.DCT_ROW_ND i r)
  let s := if inj then s.count 657 else s.count (19 + r)
  let s := if r = reasonNak then s.countUnless inj (cPort (i / 2) 4) else s
  s.ndLog i line ts r

/-- Whether a probe stands on the entry of line `g` at `ts`: its line says so, and the TS of a service probe. -/
def Probe.standsOn (q : Probe) (g ts : Nat) : Bool := decide (q.line = g) && decide (q.ts = 0 ∨ q.ts = ts)

/-- The probes of port `n` that stand on the entry of line `g` at `ts` become void (R305). -/
def State.voidLine (s : State) (n g ts : Nat) : State :=
  let mark := fun (q : Probe) => if q.standsOn g ts then { q with void := true } else q
  s.modPort n (fun p => { p with flying := p.flying.map mark })

/-- TYPE of port `n` (R286): 3 acts as 0. -/
def State.portType (s : State) (n : Nat) : Nat :=
  let t := s.fld (R.HP_CFG n) F.HP_CFG_TYPE
  if t = 3 then 0 else t

/-- A line of row `i` counted as delivered is so no longer. -/
def State.undeliver (s : State) (i : Nat) : State :=
  let v := s.get64 (R.DCT_ROW_DLV_LO i) (R.DCT_ROW_DLV_HI i)
  let s := s.set64 (R.DCT_ROW_DLV_LO i) (R.DCT_ROW_DLV_HI i) (v - 1)
  let b := cellGet (fun _ => 0) s.blt (cPort (i / 2) 1)
  if s.lineTainted i then s else { s with blt := cellPut (fun _ => 0) s.blt (cPort (i / 2) 1) [b - 1] }

/-- Drops of a MAIN pulse that never began taken back (R334). -/
def State.uncountDrops (s : State) (n k : Nat) : State :=
  let v := cellGet (fun _ => 0) s.blt (cPort n 0)
  let s := if s.lineTainted (2 * n) then s else { s with blt := cellPut (fun _ => 0) s.blt (cPort n 0) [v - k] }
  s.modPort n (fun p => { p with drops := p.drops - k, d := p.d - k })

/-- A fired entry of port `n` of which not every pulse occurs (R33, R279, R334): drops of a MAIN not begun are taken back, and a
line is not delivered with reason `r`. One that was counted as delivered, at its strobe on Type S or at its ACK on Type L, is
taken back; one that the head has rejected keeps its HEAD_NAK. -/
def State.cutLine (s : State) (n r : Nat) (f : Fired) : State :=
  let i := 2 * n + f.b
  let s := if f.mainAt > s.now then s.uncountDrops n f.drops else s
  if f.kind ≠ .line then (if f.kind = .probe then s.voidLine n f.line f.ts else s)
  else
    let waits := (s.rowAt i).await.any (fun a => a.ts = f.ts)
    let s := s.modRow i (fun x => { x with await := x.await.filter (fun a => a.ts ≠ f.ts) })
    if s.portType n = 2 ∧ !waits ∧ !f.acked then s
    else ((if waits then s else s.undeliver i).notDelivered i f.line f.ts r).voidLine n f.line f.ts

/-! The pulses of a port that the trace holds (R33, R259, R279): pin 0 PRE A, 1 MAIN A, 2 PRE B, 3 MAIN B. -/

/-- Whether an output is an edge of pin `pin` of port `n` that lies ahead. -/
def State.edgeAhead (s : State) (n pin : Nat) : Output → Bool
  | .edge m q _ t => decide (m = n) && decide (q = pin) && decide (s.now < t)
  | _ => false

/-- The instants of the edges ahead of one direction. -/
def State.edgesAhead (s : State) (n pin : Nat) (high : Bool) : List Nat :=
  (s.out.filter (s.edgeAhead n pin)).filterMap (fun o => match o with
    | .edge _ _ h t => if h = high then some t else none
    | _ => none)

/-- When the pulse that pin `pin` is in ends: it falls once more than it rises. -/
def State.pulseEnds (s : State) (n pin : Nat) : Option Nat :=
  match s.edgesAhead n pin false with
  | t :: l => if (s.edgesAhead n pin true).length < l.length + 1 then some (l.foldl min t) else none
  | [] => none

/-- No edge of pin `pin` lies ahead, but a fall at `t` where one is given. -/
def State.pinOnly (s : State) (n pin : Nat) (t : Option Nat) : State :=
  let s' := { s with out := s.out.filter (fun o => !s.edgeAhead n pin o) }
  match t with
  | some t => s'.emit (.edge n pin false t)
  | none => s'

/-- Every strobe of port `n` driven inactive now: the pulses in progress are cut (R279). -/
def State.cutPins (s : State) (n : Nat) : State :=
  s.forEach [0, 1, 2, 3] (fun s pin => s.pinOnly n pin ((s.pulseEnds n pin).map (fun _ => s.now)))

/-- No pulse of port `n` begins from now on, and those begun complete (R33). A line of which a pulse has begun and a later one
may not is not delivered with FAULT_STOP: DEDUCED, log entry 69. -/
def State.stopPulses (s : State) (n : Nat) : State :=
  let late := (s.portAt n).firing.filter (fun f => decide (f.kind ≠ .idleWarm) && decide (s.now < f.mainAt))
  let s := s.forEach [0, 1, 2, 3] (fun s pin => s.pinOnly n pin (s.pulseEnds n pin))
  let last := ([0, 1, 2, 3].filterMap (s.pulseEnds n)).foldl max 0
  let s := s.modPort n (fun p => { p with pulseEnd := last, firing := p.firing.filter (fun f => !late.contains f) })
  s.forEach late (fun s f => s.cutLine n reasonFault f)

/-- The reason of a line whose port has no head of a plane any more (R22, R257): DESIGN CHOICE, log entry 70. -/
def State.goneReason (s : State) (n : Nat) : Nat :=
  if s.mode = .park then reasonPark else if s.portType n = 2 then reasonNak else reasonWdog

/-- The outcome of entry `e` of row `i` withheld with reason `r`. Only a line of a job has one (R123, R314, R235), and an
empty event is decided at its lock point (R118). -/
def State.withheld (s : State) (i : Nat) (e : Entry) (r : Nat) : State :=
  match e.kind with
  | .line => (s.notDelivered i e.line e.ts r).voidLine (i / 2) e.line e.ts
  | .probe => s.voidLine (i / 2) e.line e.ts
  | .idleWarm => s.modPort (i / 2) (fun p => { p with ew := p.ew.erase (e.ts, e.energy) })
  | .spit => s.modPort (i / 2) (fun p => { p with spit := p.spit.map (fun w => { w with fly := w.fly - 1 }) })

/-- Every entry of row `i` that `which` names leaves its section withheld with reason `r` (R117, R125). -/
def State.withholdRow (s : State) (i : Nat) (which : Entry → Bool) (r : Nat) : State :=
  let out := (s.rowAt i).queue.filter which
  let s := s.modRow i (fun w => { w with queue := w.queue.filter (fun e => !which e) })
  out.foldl (fun s e => s.withheld i e r) s

end Sys2Proof.Machine
end

