-- ==== Sys2Proof/Machine/Mailbox.lean ====
section
/-! DEFINITION. The mailbox unit (chapter "Host link and Zielo mailboxes"): completions, MSI-X messages, submission of
commands, and queue pairs. What a command does stands in the files of its family. -/
namespace Sys2Proof.Machine

/-! Status codes (R424). -/
def stOk : Nat := 0x00
def stDeferred : Nat := 0x01
def stBusy : Nat := 0x02
def stNotReady : Nat := 0x03
def stBadArg : Nat := 0x04
def stDenied : Nat := 0x05
def stFault : Nat := 0x06
def stUnsupported : Nat := 0x07

/-- The opcodes of R452. -/
def zieloOps : List Nat :=
  [0x01, 0x02, 0x03, 0x10, 0x11, 0x12, 0x13, 0x14, 0x20, 0x21, 0x22, 0x23, 0x30, 0x31, 0x32, 0x40, 0x41, 0x50, 0x51,
   0x60, 0x61, 0x70, 0x71, 0x80, 0x81, 0x82, 0x90, 0x91, 0xA0, 0xF0]

def State.qpAt (s : State) (q : Nat) : Qp := cellGet (fun _ => {}) s.qps q
def State.modQp (s : State) (q : Nat) (f : Qp → Qp) : State := { s with qps := cellMod (fun _ => {}) s.qps q f }

/-- READY of SYS_MODE (R48). -/
def State.ready (s : State) : Bool := s.bit R.SYS_MODE F.SYS_MODE_READY

/-- The generation queue pair `q` runs, 0 in OFF (R426, R443). -/
def State.qpMode (s : State) (q : Nat) : Nat := (s.qpAt q).mode

/-- NS of queue pair `q` (R437, R443): its ring entries and IND arguments go without snoop. -/
def State.qpNs (s : State) (q : Nat) : Bool := s.bit (R.MBX_QP_CFG q) F.MBX_QP_CFG_NS

/-- The entries of a Z3 ring (R431, R446). -/
def State.ringSize (s : State) (q : Nat) : Nat := 2 ^ clampN 2 12 (s.fld (R.MBX_Z3_SIZE q) F.MBX_Z3_SIZE_LOG2)

/-- A denied host write (R423). -/
def State.denyWrite (s : State) (off : Nat) : State := (s.bumpW R.MBX_HOST_DENY).setN R.MBX_DENY_ADDR (off % 2 ^ 26)

/-! Interrupts. -/

/-- The message of vector `v`: sent, or held in the Pending Bit Array while the vector or the function is masked (R413, R436); none before
READY (R538), and none while MSI-X is not enabled (PCIe). -/
def State.msixSend (s : State) (v : Nat) : State :=
  if !s.ready ∨ !s.pcie.msixEn then s
  else
  let s := s.modVec v (fun _ => { last := some s.now, due := none })
  if s.pcie.msixMask ∨ s.bit (R.MBX_MSIX_CTRL v) F.MBX_MSIX_CTRL_MASK then s.setBit (R.MBX_MSIX_PBA (v / 32)) ⟨v % 32, 1⟩ true
  else s.emit (.msix v)

/-- The message of a vector just unmasked, where one is held (R436). -/
def State.msixUnmasked (s : State) (v : Nat) : State :=
  if s.pcie.msixEn ∧ !s.pcie.msixMask ∧ !s.bit (R.MBX_MSIX_CTRL v) F.MBX_MSIX_CTRL_MASK ∧ s.bit (R.MBX_MSIX_PBA (v / 32)) ⟨v % 32, 1⟩ then
    (s.setBit (R.MBX_MSIX_PBA (v / 32)) ⟨v % 32, 1⟩ false).emit (.msix v)
  else s

/-- The message of a completion of queue pair `q`, coalesced where COAL is set (R436). -/
def State.qpIrq (s : State) (q : Nat) : State :=
  let v := s.fld (R.MBX_QP_CFG q) F.MBX_QP_CFG_VEC
  let coal := s.fld (R.MBX_QP_CFG q) F.MBX_QP_CFG_COAL * 2000
  match (s.vecAt v).last with
  | some t =>
    if coal ≠ 0 ∧ s.now < t + coal then
      s.modVec v (fun x => { x with due := some (x.due.getD (t + coal)) })
    else s.msixSend v
  | none => s.msixSend v

/-- A coalescing interval ends (R436). -/
def State.msixCoalesceExpiry (s : State) (v : Nat) : State :=
  match (s.vecAt v).due with
  | some t => (s.advTo t).msixSend v
  | none => s

/-! Completions. -/

/-- The 32 bytes of a completion (R422). -/
def cplBytes (c : Cmd) (status : Nat) (phase limited : Bool) (sqHead : Nat) (res : List Nat) : List Nat :=
  leBytes 2 c.tag ++ [status, (if phase then 1 else 0) + (if limited then 2 else 0)] ++ leBytes 2 sqHead ++ [c.op, 0] ++
    (res ++ List.replicate 24 0).take 24

/-- Bytes as 32-bit words. -/
def wordsOf : List Nat → List Nat
  | a :: b :: c :: d :: l => ofLe [a, b, c, d] :: wordsOf l
  | _ => []

/-- The words of the Z1 window from word `w` on written (R428). -/
def State.z1Put (s : State) (w : Nat) : List Nat → State
  | [] => s
  | v :: l => (s.setN (R.MBX_Z1_WIN w) v).z1Put (w + 1) l

/-- The completion of command `c` of queue pair `q` delivered where its generation puts it (R428, R429, R434), then the
message (R437). A completion of a queue pair reset under R420 is discarded. -/
def State.deliverCpl (s : State) (q : Nat) (c : Cmd) (status : Nat) (res : List Nat) : State :=
  let lim := s.bit R.SYS_MODE F.SYS_MODE_LIMITED
  let p := s.qpAt q
  let s := s.bumpW (R.MBX_QP_DONE q)
  if p.dead then s.modQp q (fun p => { p with dead := false })
  else
    match s.qpMode q with
    | 1 =>
      let s := s.modQp q (fun p => { p with cq := p.cq ++ [cplBytes c status false lim p.sq.length res] })
      if c.noirq then s else s.qpIrq q
    | 3 =>
      let s := s.z1Put 0 (wordsOf (cplBytes c status false lim 0 res) ++ List.replicate 8 0)
      let s := s.setBit R.MBX_Z1_CTL F.MBX_Z1_CTL_GO false
      if c.noirq || !s.bit R.MBX_Z1_CTL F.MBX_Z1_CTL_IRQ then s
      else s.msixSend (s.fld (R.MBX_QP_CFG 0) F.MBX_QP_CFG_VEC)
    | _ =>
      let size := s.ringSize q
      let base := s.get64 (R.MBX_Z3_CQ_BASE_LO q) (R.MBX_Z3_CQ_BASE_HI q) / 4096 * 4096
      let s := s.hostWrite (base + p.ctail * 32) (cplBytes c status p.phase lim p.head res)
      let s := s.emit (.hostReq true (base + p.ctail * 32) 32 (s.qpNs q))
      let s := s.modQp q (fun p => { p with
        ctail := (p.ctail + 1) % size, phase := if p.ctail + 1 = size then !p.phase else p.phase })
      if c.noirq then s else s.qpIrq q

/-- The head of the commands taken, where nothing waits on the queue pair and its completion has room (R427, R430). -/
def State.headCmd (s : State) (q : Nat) : Option Cmd :=
  let p := s.qpAt q
  if p.cur.isSome ∨ p.st = 0 ∨ (s.qpMode q = 1 ∧ p.cq.length ≥ 16) then none else p.sq.head?

/-- Commands at the head that failed a check of R425 1 to 4 are completed, in order (R427). -/
def State.settle (s : State) (q : Nat) : Nat → State
  | 0 => s
  | k + 1 =>
    match s.headCmd q with
    | some c =>
      match c.pre with
      | some st =>
        let s := s.modQp q (fun p => { p with sq := p.sq.drop 1 })
        State.settle (s.deliverCpl q c st []) q k
      | none => s
    | none => s

/-- Every completable failed head of queue pair `q`. -/
def State.settleQp (s : State) (q : Nat) : State := s.settle q ((s.qpAt q).sq.length)

/-- Command `c`, just taken from queue pair `q`, completes. -/
def State.finish (s : State) (q : Nat) (c : Cmd) (status : Nat) (res : List Nat := []) : State :=
  let s := { s with pw := { s.pw with idleSince := s.now } }
  (s.deliverCpl q c status res).settleQp q

/-- The command that waits on queue pair `q` completes. -/
def State.finishCur (s : State) (q : Nat) (status : Nat) (res : List Nat := []) : State :=
  match (s.qpAt q).cur with
  | some (c, _) => (s.modQp q (fun p => { p with cur := none })).finish q c status res
  | none => s

/-- Command `c` waits on queue pair `q`. -/
def State.hold (s : State) (q : Nat) (c : Cmd) (w : Wait) : State := s.modQp q (fun p => { p with cur := some (c, w) })

/-- The wait of queue pair `q`. -/
def State.waitOf (s : State) (q : Nat) : Option Wait := (s.qpAt q).cur.map (·.2)

/-- Every waiting command that `which` names completes with `status` and result `res`. -/
def State.finishAll (s : State) (which : Wait → Bool) (status : Nat) (res : List Nat := []) : State :=
  s.forEach (List.range 32) (fun s q =>
    match s.waitOf q with
    | some w => if which w then s.finishCur q status res else s
    | none => s)

/-- The waits changed by `f`. -/
def State.mapWaits (s : State) (f : Wait → Wait) : State :=
  { s with qps := cellMap (fun _ => {}) s.qps (fun p => { p with cur := p.cur.map (fun cw => (cw.1, f cw.2)) }) }

/-- The ports of a mask. -/
def maskPorts (m : Nat) : List Nat := (List.range 32).filter m.testBit

/-- The planes, ports, encoder channels and stored jobs that the arguments of a command name, as (kind, number) (R427). -/
def Cmd.objects (c : Cmd) : List (Nat × Nat) :=
  let b := fun (k : Nat) => leAt c.args k 1
  let ports := fun (l : List Nat) => l.map (fun n => (1, n))
  let stored := fun (on : Bool) (k : Nat) => if on then [(3, b k)] else []
  if c.op = 0x20 then (0, b 0) :: stored (b 1 % 2 = 1) 3
  else if c.op = 0x23 then (0, b 0) :: stored (b 1 = 1) 2
  else if [0x10, 0x21, 0x22].contains c.op then [(0, b 0)]
  else if c.op = 0x11 then (1, b 0) :: (if b 1 = 1 then [(0, b 2)] else [])
  else if c.op = 0x12 then [(if b 0 = 1 then 2 else 1, b 1)]
  else if c.op = 0x13 then (if b 0 = 2 then [(0, b 1)] else [])
  else if c.op = 0x30 ∨ c.op = 0x31 then [(1, b 0)]
  else if c.op = 0x32 then ports (if b 0 = 0xFF then List.range 32 else [b 0])
  else if c.op = 0x40 ∨ c.op = 0x50 then ports (maskPorts (leAt c.args 0 4))
  else if c.op = 0x41 then ports (maskPorts (leAt c.args 4 4))
  else []

/-- Whether a command of another queue pair, seen before `c` and not completed yet, acts on an object of `c`; of commands
seen at once, that of the lower queue pair is first (R427). -/
def State.outranked (s : State) (q : Nat) (c : Cmd) : Bool :=
  (List.range 32).any (fun j => j ≠ q && (((s.qpAt j).cur.map (·.1)).toList ++ (s.qpAt j).sq).any (fun d =>
    d.pre = none && (decide (d.seen < c.seen) || (d.seen = c.seen && decide (j < q))) && d.objects.any c.objects.contains))

/-- Take the head command of queue pair `q` where its opcode is `op` and none goes before it, and run `f` on it (R427). -/
def State.take (s : State) (q op : Nat) (f : State → Cmd → State) : State :=
  match s.headCmd q with
  | some c =>
    if c.op = op ∧ c.pre = none ∧ s.ready ∧ !s.outranked q c then
      let s := s.modQp q (fun p => { p with sq := p.sq.drop 1 })
      f { s with pw := { s.pw with idleSince := s.now } } c
    else s
  | none => s

/-! Submission. -/

/-- A submitted command, seen at device time `seen`, with the checks 1 to 4 of R425. `ind` is what the fetch of IND arguments brought: none where it
failed. -/
def State.cmdOf (s : State) (seen : Nat) (msg : List Nat) (limit : Nat) (ind : Option (List Nat)) : Cmd :=
  let op := leAt msg 0 1
  let isInd := leAt msg 1 1 % 2 = 1
  let n := leAt msg 4 2
  let pre :=
    if !s.ready then some stNotReady
    else if !zieloOps.contains op then some stUnsupported
    else if (!isInd && decide (n > limit)) || (isInd && decide (n > 4096)) then some stBadArg
    else if isInd && ind.isNone then some stFault
    else none
  let args := if isInd then (ind.getD []).take n else ((msg.drop 8).take n)
  { op := op, tag := leAt msg 2 2, seen := seen, noirq := decide (leAt msg 1 1 / 2 % 2 = 1), pre := pre
    args := (args ++ List.replicate n 0).take n }

/-- The fetch of IND arguments, where command `c` of message `msg` comes to it (R421, R425). -/
def State.indFetch (s : State) (q : Nat) (c : Cmd) (msg : List Nat) : State :=
  if leAt msg 1 1 % 2 = 1 ∧ (c.pre = none ∨ c.pre = some stFault) ∧ leAt msg 4 2 ≠ 0 then
    s.emit (.hostReq false (leAt msg 8 8) (leAt msg 4 2) (s.qpNs q))
  else s

/-- A command joins the commands taken of queue pair `q`. -/
def State.submit (s : State) (q : Nat) (c : Cmd) : State :=
  let s := { s with pw := { s.pw with idleSince := s.now } }
  (s.modQp q (fun p => { p with sq := p.sq ++ [c] })).settleQp q

/-- GO written in MBX_Z1_CTL (R428). -/
def State.z1Go (s : State) (irq : Bool) (ind : Option (List Nat)) : State :=
  let s := s.setBit R.MBX_Z1_CTL F.MBX_Z1_CTL_IRQ irq
  if s.qpMode 0 ≠ 3 ∨ (s.qpAt 0).st ≠ 1 ∨ s.bit R.MBX_Z1_CTL F.MBX_Z1_CTL_GO then s
  else
    let msg := (List.range 16).flatMap (fun w => leBytes 4 (s.getN (R.MBX_Z1_WIN w)))
    let c := s.cmdOf s.now msg 56 ind
    ((s.setBit R.MBX_Z1_CTL F.MBX_Z1_CTL_GO true).indFetch 0 c msg).submit 0 c

/-- A write of word `w` of the Z2 submission window of queue pair `q` other than the last (R429). -/
def State.z2Word (s : State) (q w v : Nat) : State :=
  s.modQp q (fun p => { p with asm := (p.asm ++ List.replicate 16 0).take 16 |>.set w v })

/-- A write covering window offset 0x3C (R429, R430): the push. -/
def State.z2Push (s : State) (q v : Nat) (ind : Option (List Nat)) : State :=
  let s := s.z2Word q 15 v
  let msg := (s.qpAt q).asm.flatMap (leBytes 4)
  let s := s.modQp q (fun p => { p with asm := [] })
  if s.qpMode q ≠ 1 ∨ (s.qpAt q).st ≠ 1 then s
  else if !s.ready then
    let s := s.bumpW R.MBX_EARLY_CNT
    if (s.qpAt q).early then s else (s.modQp q (fun p => { p with early := true })).raise 0x7002 q
  else if (s.qpAt q).sq.length ≥ 16 then (s.setBit (R.MBX_QP_STAT q) F.MBX_QP_STAT_OVF true).raiseCount 0x7001 q 13
  else (s.indFetch q (s.cmdOf s.now msg 56 ind) msg).submit q (s.cmdOf s.now msg 56 ind)

/-- POP written in MBX_Z2_CTL (R429, R430). -/
def State.z2Pop (s : State) (q : Nat) : State :=
  if s.qpMode q = 1 then (s.modQp q (fun p => { p with cq := p.cq.drop 1 })).settleQp q else s

/-- The submission doorbell (R432, R433, R435). -/
def State.z3Tail (s : State) (q v : Nat) : State :=
  if !s.ready then s.modQp q (fun p => { p with latchTail := some v })
  else if v ≥ s.ringSize q then s.setBit (R.MBX_QP_STAT q) F.MBX_QP_STAT_DB_ERR true
  else (s.setN (R.MBX_Z3_SQ_TAIL q) v).modQp q (fun p => { p with stop := false, doors := p.doors ++ [(v, s.now)] })

/-- The completion doorbell (R434, R435), at which a stopped queue pair retries its slot too (R433: "the next doorbell write"). -/
def State.z3Head (s : State) (q v : Nat) : State :=
  if !s.ready then s.modQp q (fun p => { p with latchHead := some v })
  else if v ≥ s.ringSize q then s.setBit (R.MBX_QP_STAT q) F.MBX_QP_STAT_DB_ERR true
  else (s.setN (R.MBX_Z3_CQ_HEAD q) v).modQp q (fun p => { p with stop := false })

/-- Whether the completion ring of `q` has a slot left for one more command than those taken (R432). -/
def State.z3Room (s : State) (q : Nat) : Bool :=
  let p := s.qpAt q
  let size := s.ringSize q
  let held := (p.ctail + size - s.getN (R.MBX_Z3_CQ_HEAD q) % size) % size
  decide (held + p.sq.length + (if p.cur.isSome then 1 else 0) < size - 1)

/-- When the unit saw the doorbell that covers the next submission slot of `q` (R427). -/
def State.doorSeen (s : State) (q : Nat) : Nat := ((s.qpAt q).doors.head?.map (·.2)).getD s.now

/-- The doorbells that entries are still to be fetched for, once slot `h` is the next one. -/
def doorsLeft (h : Nat) (l : List (Nat × Nat)) : List (Nat × Nat) :=
  if (l.head?.map (·.1)) = some h then (l.drop 1).dropWhile (fun d => d.1 = h) else l

/-- A submission entry fetched (R432, R433). `msg` is none where the fetch failed. -/
def State.z3Fetch (s : State) (q : Nat) (msg ind : Option (List Nat)) : State :=
  let p := s.qpAt q
  if s.qpMode q ≠ 2 ∨ p.st ≠ 1 ∨ p.stop ∨ !s.ready ∨ p.head = s.getN (R.MBX_Z3_SQ_TAIL q) ∨ !s.z3Room q then s
  else
    let base := s.get64 (R.MBX_Z3_SQ_BASE_LO q) (R.MBX_Z3_SQ_BASE_HI q) / 4096 * 4096
    let s := s.emit (.hostReq false (base + p.head * 256) 256 (s.qpNs q))
    match msg with
    | none => (s.setBit (R.MBX_QP_STAT q) F.MBX_QP_STAT_FETCH_ERR true).modQp q (fun p => { p with stop := true })
    | some m =>
      let next := (p.head + 1) % s.ringSize q
      let m := (m ++ List.replicate 256 0).take 256
      let c := s.cmdOf (s.doorSeen q) m 248 ind
      ((s.modQp q (fun p => { p with head := next, doors := doorsLeft next p.doors })).indFetch q c m).submit q c

/-- A write of MODE in OFF (R426, R443: 3 on `q` ≠ 0 acts as 0): the queue pair starts empty, at slot 0 of its rings, with
PHASE 1. A command still running from before a reset of R420 stays. -/
def State.qpStart (s : State) (q mode : Nat) : State :=
  if mode = 0 ∨ (mode = 3 ∧ q ≠ 0) then s
  else ((s.setN (R.MBX_Z3_SQ_TAIL q) 0).setN (R.MBX_Z3_CQ_HEAD q) 0).modQp q
    (fun p => { st := 1, mode := mode, early := p.early, dead := p.dead, cur := p.cur })

/-- MODE of queue pair `q` written 0 (R426): no further fetch or push; the commands taken run to their end. -/
def State.qpModeOff (s : State) (q : Nat) : State :=
  let s := s.setFld (R.MBX_QP_CFG q) F.MBX_QP_CFG_MODE 0
  if (s.qpAt q).st = 1 then s.modQp q (fun p => { p with st := 2 }) else s

/-- The drain of queue pair `q` ends once the commands taken are complete (R426). -/
def State.qpDrainEnd (s : State) (q : Nat) : State :=
  let p := s.qpAt q
  if p.st = 2 ∧ p.sq = [] ∧ p.cur = none then
    s.modQp q (fun p => { p with st := 0, mode := 0, asm := [], stop := false, doors := [], latchTail := none, latchHead := none })
  else s

/-- Every queue pair reset by R420: OFF, FIFOs empty, latched doorbells discarded; a command already running runs to its
end and its completion is discarded. -/
def State.qpResetAll (s : State) : State :=
  { s with qps := cellMap (fun _ => {}) s.qps (fun p => { cur := p.cur, dead := p.cur.isSome }) }

/-- The latched doorbells of every queue pair served at READY (R435). -/
def State.serveLatched (s : State) : State :=
  s.forEach (List.range 32) (fun s q =>
    let p := s.qpAt q
    let s := s.modQp q (fun p => { p with latchTail := none, latchHead := none, early := false })
    let s := match p.latchHead with
      | some v => s.z3Head q v
      | none => s
    match p.latchTail with
    | some v => s.z3Tail q v
    | none => s)

end Sys2Proof.Machine
end

