-- ==== Sys2Proof/Machine/Stop.lean ====
section
/-! DEFINITION. Modes, admission and the fault stop (R32 to R40). -/
namespace Sys2Proof.Machine

/-- FAULT_STOP of SYS_MODE (R48). -/
def State.faultStopped (s : State) : Bool := s.bit R.SYS_MODE F.SYS_MODE_FAULT_STOP

/-- LIMITED of SYS_MODE (R48). -/
def State.limited (s : State) : Bool := s.bit R.SYS_MODE F.SYS_MODE_LIMITED

/-- SYS_ADMIT_STOP as it reads (R49): three causes held, three that follow the mode and FAULT_STOP. -/
def State.admitStop (s : State) : Nat :=
  s.getN R.SYS_ADMIT_STOP % 8 + (if s.mode = .park then 8 else 0) + (if s.faultStopped then 16 else 0) +
    (if s.mode = .print then 0 else 32)

/-- Whether admission is open (R32). -/
def State.admitOpen (s : State) : Bool := s.admitStop = 0

/-- IW_EN of port `n` set again (R314, R467): not on a head that has been barred meanwhile (R341). -/
def State.iwRestored (s : State) (n : Nat) : State :=
  if (s.portAt n).barred then s else s.setBit (R.NZP_TH_CFG n) F.NZP_TH_CFG_IW_EN true

/-- The spits and sweeps of SERVICE end (R37, R467): IW_EN is restored, and the waiting commands complete with `status`,
a spit with the entries fired. -/
def State.endService (s : State) (status : Nat) : State :=
  let s := s.forEach (List.range s.part.ports) (fun s n =>
    let p := s.portAt n
    let iw := (p.spit.map (·.iw)).getD false || (p.sweep.map (·.iw)).getD false
    let s := if iw then s.iwRestored n else s
    s.modPort n (fun p => { p with spit := none, sweep := none }))
  s.forEach (List.range 32) (fun s q =>
    match s.waitOf q with
    | some (.spit _ k) => s.finishCur q status (leBytes 4 k)
    | some (.sweep _ m c) => s.finishCur q status (leBytes 4 m ++ leBytes 4 c)
    | _ => s)

/-- The mode becomes `m` (R37): what leaving SERVICE ends is ended with `status`. -/
def State.enterMode (s : State) (m : Mode) (status : Nat := stDeferred) : State :=
  let s := if s.mode = .service ∧ m ≠ .service then s.endService status else s
  { s with mode := m, pw := { s.pw with idleSince := s.now, noJobAt := s.now, serviceAt := s.now } }

/-- A fault stop (R33): every locked line not begun is withheld, no pulse begins any more, FAULT_STOP is set, and the mode changes as R37 states for
the mode in which it arose. In IDLE the wake to CONFIG begins; in BOOT and PARK the mode stays. -/
def State.faultStop (s : State) : State :=
  let m := s.mode
  let s := (s.forEach (List.range s.nRows) (fun s i => s.withholdRow i (·.locked) reasonFault)).count 7
  let s := s.forEach (List.range s.part.ports) State.stopPulses
  let s := match m with
    | .print | .config => s.enterMode .config
    | .service => s.enterMode .config stFault
    | .idle => { s with pw := { s.pw with wake := some .config } }
    | .boot | .park => s
  s.setBit R.SYS_MODE F.SYS_MODE_FAULT_STOP true

/-- `k` corrected errors of bank `b` (R393, R395). -/
def State.eccCorr (s : State) (b : Nat) : Nat → State
  | 0 => s
  | k + 1 =>
    let s := (s.raiseCount 0x5001 b (40 + b)).setBit R.MEM_STAT F.MEM_STAT_ECC_CORR true
    State.eccCorr (s.bump (R.MEM_ECC_CNT b) F.MEM_ECC_CNT_CORR) b k

/-- The planes whose screening reads one of `k` bytes at Bank S offset `o` (R162 to R164). -/
def State.planesReading (s : State) (o k : Nat) : List Nat :=
  (List.range 8).filter (fun p =>
    let w := s.width p
    let t := s.fld (R.SCR_PLANE_TRC p) F.SCR_PLANE_TRC_TRC_BASE * 256
    let a := s.fld (R.SCR_PLANE_CFG p) F.SCR_PLANE_CFG_ARRAY
    let base := 0x100000 + s.fld (R.SCR_ARR_BASE a) F.SCR_ARR_BASE_ARR_BASE * 64
    let size := s.fld (R.SCR_ARR_SIZE a) F.SCR_ARR_SIZE_W_A * s.fld (R.SCR_ARR_SIZE a) F.SCR_ARR_SIZE_H_A * 4
    decide (s.fld (R.SCR_PLANE_CFG p) F.SCR_PLANE_CFG_FMT = 1) && decide (w ≠ 0) &&
      ((decide (t < o + k) && decide (o < t + (w + 15) / 16 * 256)) ||
        (decide (base < o + k) && decide (o < base + size))))

/-- The screening of plane `p` stalls at word `a` of Bank S (R173, R394). -/
def State.stallPlane (s : State) (a p : Nat) : State :=
  (s.setBit (R.SCR_PLANE_STAT p) F.SCR_PLANE_STAT_STALL true).modPlane p (fun x => { x with stallAt := some a })

/-- Where each on-chip bank begins (R380, R405), by bank index. -/
def bankBase : Nat → Nat
  | 0 => bankQ
  | 1 => bankN
  | 2 => bankL
  | 3 => bankS
  | 4 => bankD
  | _ => bankB

/-- Word `a` of bank `b`, 6 for DRAM, holds an uncorrectable error from now on. -/
def State.wordBad (s : State) (b a : Nat) : State :=
  if b = 6 then { s with dramBad := a :: s.dramBad.filter (· ≠ a) }
  else { s with bankBad := (bankBase b / 8 + a) :: s.bankBad.filter (· ≠ bankBase b / 8 + a) }

/-- An uncorrectable error of bank `b` at word address `a` (R394, R395): the event, its count and its address. In Banks N, L and D it
is a fault stop (R33); in Bank S the planes that read the word stall. The word stays uncorrectable until it is written: of DRAM
R395 says so, of the banks it is DEDUCED, log entry 78. -/
def State.eccUncorr (s : State) (b a : Nat) : State :=
  let s := (s.raiseCount 0x5002 b (47 + b)).bump (R.MEM_ECC_CNT b) F.MEM_ECC_CNT_UNCORR
  let s := (s.setN (R.MEM_ECC_ADDR b) a).setBit R.MEM_STAT F.MEM_STAT_ECC_UNCORR true
  let s := s.wordBad b a
  if b = 1 ∨ b = 2 ∨ b = 4 then s.faultStop
  else if b = 3 then s.forEach (s.planesReading (a * 8) 8) (fun s p => s.stallPlane a p)
  else s

/-- The ECC errors that reads of the banks `banks` meet (R393 to R395). -/
def State.eccMeet (s : State) (banks : List Nat) (e : EccIn) : State :=
  let s := s.forEach (e.corr.filter banks.contains) (fun s b => s.eccCorr b 1)
  match e.bad with
  | some (b, a) => if banks.contains b then s.eccUncorr b a else s
  | none => s

/-- A cause bit of SYS_ADMIT_STOP cleared by Quill firmware (R31, R32). -/
def State.admitClear (s : State) (bits : Nat) : State :=
  s.setN R.SYS_ADMIT_STOP (s.getN R.SYS_ADMIT_STOP - (s.getN R.SYS_ADMIT_STOP &&& (bits % 8)))

/-- Whether a calibration item of start-up holds port `n` OFF (R544). -/
def State.calHolds (s : State) (n : Nat) : Bool := s.bit R.CAL_PORT_FAIL ⟨n, 1⟩ && (s.portAt n).st = .off

/-- Whether port `n` is able to print (R39). -/
def State.ableToPrint (s : State) (n : Nat) : Bool :=
  let row := fun i => s.bit (R.DCT_ROW_CFG i) F.DCT_ROW_CFG_EN && decide (s.fld (R.DCT_ROW_CFG i) F.DCT_ROW_CFG_SRC ≤ 4)
  (s.portAt n).st = .attached && !(s.portAt n).barred && !s.bit R.DCT_THERM_BLK ⟨n, 1⟩ && !s.calHolds n &&
    row (2 * n) && row (2 * n + 1)

/-- The ports whose heads belong to plane `p` (R22, R39). -/
def State.portsOf (s : State) (p : Nat) : List Nat :=
  (List.range s.part.ports).filter (fun n => (s.portAt n).plane = some p)

/-- PRINT_PERMIT (R38): released in PRINT while admission is open and every port of every defined plane is able to
print. -/
def State.permit (s : State) : Bool :=
  s.mode = .print && s.admitOpen &&
    (List.range 8).all (fun p => !(s.planeAt p).defined || (s.portsOf p).all s.ableToPrint)

end Sys2Proof.Machine
end

