-- ==== Sys2Proof/Machine/Banks.lean ====
section
/-! DEFINITION. The banks of on-chip memory, the region checks of every master but a bank's owner, and the alias windows
(R380 to R391, R397, R398). -/
namespace Sys2Proof.Machine

/-! Banks (R380, R405): 0 Q, 1 N, 2 L, 3 S, 4 D, 5 B. -/

/-- The first internal address and the size of bank `b`. -/
def bankSpan (b : Nat) : Nat × Nat :=
  (bankBase b, match b with
    | 0 => 0x200000
    | 1 => 0x400000
    | 2 => 0x400000
    | 3 => 0x200000
    | _ => 0x100000)

/-- The bank that holds every byte of an access of `k` bytes at `a`. -/
def bankAt (a k : Nat) : Option Nat :=
  (List.range 6).find? (fun b => decide ((bankSpan b).1 ≤ a) && decide (a + k ≤ (bankSpan b).1 + (bankSpan b).2))

/-- Which window an internal address lies in: 0 the banks, 1 bit-set, 2 bit-clear, 3 none; and the address beneath (R390). -/
def aliasOf (a : Nat) : Nat × Nat :=
  if a < 0x1000000 then (0, a) else if a < 0x2000000 then (1, a - 0x1000000)
  else if a < 0x3000000 then (2, a - 0x2000000) else (3, a)

/-- Whether the part of bank `b` that holds address `a` is accessible (R396, R397, R407). -/
def State.awake (s : State) (b a : Nat) : Bool :=
  let aw := fun (j : Nat) => s.bit R.MEM_RET ⟨16 + j, 1⟩
  match b with
  | 0 => decide (a < 0x40000) || aw 0
  | 1 => aw 1
  | 2 => aw 4
  | 3 => aw 2
  | 4 => aw 3
  | _ => true

/-- Whether an enabled region of master `m` covers `k` bytes at `a`, and grants the permission (R387). -/
def State.regionHit (s : State) (m a k : Nat) (write : Bool) : Bool × Bool :=
  let hit := (List.range 16).filter (fun r =>
    s.bit (R.MEM_RGN_BASE m r) F.MEM_RGN_BASE_EN &&
      decide (s.fld (R.MEM_RGN_BASE m r) F.MEM_RGN_BASE_BASE * 256 ≤ a) &&
      decide (a + k ≤ s.fld (R.MEM_RGN_LIM m r) F.MEM_RGN_LIM_LIMIT * 256 + 256))
  (hit ≠ [], hit.any (fun r =>
    s.bit (R.MEM_RGN_BASE m r) (if write then F.MEM_RGN_BASE_W else F.MEM_RGN_BASE_R)))

/-- Why an access of master `m` to `k` bytes at internal address `a` is refused, as a cause of R409: none where it is
permitted (R381, R387, R391, R397, R398). -/
def State.refusal (s : State) (m a k : Nat) (write : Bool) : Option Nat :=
  let (w, u) := aliasOf a
  match bankAt u k with
  | none => some 1
  | some b =>
    if w = 3 ∨ (w ≠ 0 ∧ (b = 2 ∨ b = 5)) then some 1
    else if w ≠ 0 ∧ ((k ≠ 4 ∧ k ≠ 8) ∨ a % k ≠ 0) then some 4
    else if b = 2 ∧ s.bit R.MEM_STAT F.MEM_STAT_L_INIT then some 5
    else if !s.awake b u then some 3
    else if (m = 0 ∧ b = 0) ∨ 4 ≤ m then none
    else
      let (cover, ok) := s.regionHit m u k (write || decide (w ≠ 0))
      if !cover then some 1 else if !ok then some 2 else none

/-- A refused access of master `m`, 4 for an owning unit, entered in the log (R388, R409): an alias access counts as a write. -/
def State.regionDeny (s : State) (m a : Nat) (write : Bool) (cause : Nat) : State :=
  let write := write || decide (0x1000000 ≤ a)
  let j := s.fld R.MEM_STAT F.MEM_STAT_DENY_NEXT
  let used := (s.getN (R.MEM_DENY_LOG1 j) / 16) % 8 ≠ 0
  let s := (s.raiseCount 0x5005 m 16).setBit R.MEM_STAT F.MEM_STAT_DENY true
  let s := if used then s.setBit R.MEM_STAT F.MEM_STAT_DENY_WRAP true else s
  let s := s.setN (R.MEM_DENY_LOG0 j) (a % 2 ^ 26)
  let s := s.setN (R.MEM_DENY_LOG1 j) (m + (if write then 8 else 0) + cause * 16)
  let s := s.set64 (R.MEM_DENY_LOG2 j) (R.MEM_DENY_LOG3 j) s.now
  s.setFld R.MEM_STAT F.MEM_STAT_DENY_NEXT ((j + 1) % 8)

/-- Combine a byte of memory with a byte written through a window (R390). -/
def aliasByte (w old new : Nat) : Nat :=
  if w = 1 then (old ||| new) % 256 else if w = 2 then old % 256 - ((old % 256) &&& new) else new % 256

/-- The planes that screen with one of `k` bytes written at `u` have a table changed (R172). -/
def State.tablesWritten (s : State) (u k : Nat) : State :=
  if bankS < u + k ∧ u < bankS + 0x200000 then
    s.forEach (s.planesReading (u - bankS) k) (fun s p => s.modPlane p (fun x => { x with chgDue := true }))
  else s

/-- A write of master `m` to internal address `a` (R383, R387, R388, R390): whether it was permitted, and the state. -/
def State.busWrite (s : State) (m a : Nat) (bs : List Nat) : Bool × State :=
  match s.refusal m a bs.length true with
  | some c => (false, s.regionDeny m a true c)
  | none =>
    let (w, u) := aliasOf a
    let old := s.chipRead u bs.length
    (true, (s.chipWrite u ((old.zip bs).map (fun x => aliasByte w x.1 x.2))).tablesWritten u bs.length)

/-- A read of master `m` of `k` bytes at internal address `a` (R387, R388, R390): the bytes where it was permitted, and the
state. -/
def State.busRead (s : State) (m a k : Nat) : Option (List Nat) × State :=
  match s.refusal m a k false with
  | some c => (none, s.regionDeny m a false c)
  | none => (some (s.chipRead (aliasOf a).2 k), s)

/-- An uncorrectable word among `k` bytes read at `u` (R394): its address, and the state that has met it. -/
def State.chipMeet (s : State) (u k : Nat) : Option Nat × State :=
  match s.chipFaulty u k with
  | none => (none, s)
  | some w => (some (w * 8), match bankAt (w * 8) 8 with
    | some b => s.eccUncorr b (w - bankBase b / 8)
    | none => s)

/-! Quill firmware (master 0). -/

/-- Quill firmware writes bytes (R388): a refused write is dropped, and its core takes an abort. -/
def State.quillWrite (s : State) (a : Nat) (bs : List Nat) : State :=
  let r := s.busWrite 0 a bs
  if r.1 then r.2 else r.2.emit .coreAbort

/-- Quill firmware reads `k` bytes (R388, R394): a refused read returns 0, and it or an uncorrectable word aborts the core. -/
def State.quillRead (s : State) (a k : Nat) : List Nat × State :=
  match s.busRead 0 a k with
  | (none, s) => (List.replicate k 0, s.emit .coreAbort)
  | (some l, s) => match s.chipMeet a k with
    | (none, s) => (l, s)
    | (some _, s) => (l, s.emit .coreAbort)

/-- Quill firmware writes one bit of a byte (R383, R388). -/
def State.quillBit (s : State) (a b : Nat) (v : Bool) : State :=
  s.quillWrite a [setBits (memReadN s.chip a 1) b 1 (if v then 1 else 0)]

/-! Owning units (R386, R388, R397, R398): refused only where the bank is in retention or waking, or Bank L initialises. -/

/-- The cause for which the owner of the bank at `a` is refused (R409). -/
def State.ownRefusal (s : State) (a : Nat) : Option Nat := s.refusal 4 a 1 false

/-- `k` bytes as the owner of their bank reads them (R388): 0 where it is refused. -/
def State.ownRead (s : State) (a k : Nat) : List Nat :=
  if (s.ownRefusal a).isSome then List.replicate k 0 else s.chipRead a k

/-- The owner of a bank writes bytes (R388): dropped where it is refused. -/
def State.ownWrite (s : State) (a : Nat) (bs : List Nat) : State :=
  match s.ownRefusal a with
  | some c => s.regionDeny 4 a true c
  | none => s.chipWrite a bs

/-- A bit as the owner of its bank reads it. -/
def State.ownBit (s : State) (a b : Nat) : Bool := ofLe (s.ownRead a 1) / 2 ^ b % 2 = 1

/-- The owner of a bank is about to read at `a`: where it is refused, the read is entered in the log (R388). -/
def State.ownTouch (s : State) (a : Nat) : State :=
  match s.ownRefusal a with
  | some c => s.regionDeny 4 a false c
  | none => s

end Sys2Proof.Machine
end

