-- ==== Sys2Proof/Machine/Encoder.lean ====
section
/-! DEFINITION. Encoder channels and the position observer (chapter "Encoder inputs and the position observer"). -/
namespace Sys2Proof.Machine

/-- MODE of a channel (R89): 3 acts as 0. -/
def State.encMode (s : State) (k : Nat) : Nat :=
  let m := s.fld (R.ENC_CFG k) F.ENC_CFG_MODE
  if m = 3 then 0 else m

/-- ABS of a channel (R89): 3 acts as 0. -/
def State.encAbs (s : State) (k : Nat) : Nat :=
  let m := s.fld (R.ENC_CFG k) F.ENC_CFG_ABS
  if m = 3 then 0 else m

/-- A_NOM, the calibrated code amplitude for 1 Vpp (R59). -/
def State.aNom (s : State) (k : Nat) : Nat := s.fld (R.CAL_ENC_REF k) F.CAL_ENC_REF_A_NOM

/-- An event of channel `k`: the event, its Blotter counter, its sticky bit of ENC_STAT, and its count (R68, R94, R95). -/
def State.encEvent (s : State) (k code j : Nat) (stat : Fld) (cnt : Option Fld) : State :=
  let s := (s.raiseCount code k (cEnc k j)).setBit (R.ENC_STAT k) stat true
  match cnt with
  | some f => s.bump (R.ENC_EVT_CNT k) f
  | none => s

/-- ABS_DRIFT raised on channel `k` (R70, R71, R68). -/
def State.absDrift (s : State) (k : Nat) : State :=
  s.encEvent k 0x3004 3 F.ENC_STAT_ABS_DRIFT (some F.ENC_EVT_CNT_ABS_CNT)

/-- INDEX_DRIFT raised on channel `k` (R73). -/
def State.indexDrift (s : State) (k : Nat) : State :=
  s.encEvent k 0x3005 4 F.ENC_STAT_INDEX_DRIFT (some F.ENC_EVT_CNT_IDX_CNT)

/-! From tracks to steps. -/

/-- A corrected sample (R58): s1 and c2. -/
def correct (osS osC gr phi : Int) (s c : Int) : Int × Int :=
  let s1 := s - osS
  let c1 := rsr ((c - osC) * gr) 14
  (s1, rsr ((c1 - rsr (s1 * sinPhi phi) 15) * invCosPhi phi) 14)

/-- The phase of a corrected sample in steps, with DIR applied (R58). -/
def samplePhase (dir : Bool) (s1 c2 : Int) : Nat :=
  let p := atanSteps s1 c2
  if dir then (65536 - p) % 65536 else p

/-- The signed phase difference of R61, -32,768 to 32,767. -/
def phaseDiff (p q : Nat) : Int := sgn 16 (p + 65536 - q % 65536)

/-- One sine/cosine sample (R58, R61, R62, R79): amplitude and over-rate over three consecutive samples decide loss; outside
loss the phase difference is counted; counting resumes at the first good sample from the phase last used. A sample outside the
limits breaks the run of R68 and R83 also where it is not yet a loss: DESIGN CHOICE, log entry 17. -/
def encSample (aNom : Nat) (dir : Bool) (e : Enc) (s1 c2 : Int) : Enc :=
  let ph := samplePhase dir s1 c2
  let a2 := (s1 * s1 + c2 * c2).toNat
  let low := decide (100 * a2 < 16 * aNom * aNom)
  let high := decide (100 * a2 > 169 * aNom * aNom)
  let overrate := e.seen && decide ((phaseDiff ph e.prev).natAbs > 8192)
  let badRun := if low || high then e.badRun + 1 else 0
  let overRun := if overrate then e.overRun + 1 else 0
  let good := !(low || high || overrate)
  let inLoss := decide (badRun ≥ 3) || decide (overRun ≥ 3) || (e.inLoss && !good)
  let cause := if e.inLoss then none else if badRun ≥ 3 then (if low then some 0 else some 1) else if overRun ≥ 3 then some 2 else none
  let e1 := { e with
    amp := satU 16 (sqrtFree 1 (a2 * 2 ^ 24) (aNom * aNom)), badRun := badRun, overRun := overRun, inLoss := inLoss
    prev := ph, tickLoss := e.tickLoss || inLoss, goodRun := if inLoss || !good then 0 else e.goodRun + 1
    lossDue := if e.lossDue.isSome then e.lossDue else cause }
  if inLoss then e1
  else if e.seen then { e1 with m := e.m + phaseDiff ph e.phase, phase := ph }
  else { e1 with m := ph, phase := ph, seen := true }

/-- All samples of a tick. -/
def encSamples (aNom : Nat) (dir : Bool) (os : Int × Int) (gr phi : Int) : Enc → List (Int × Int) → Enc
  | e, [] => e
  | e, (s, c) :: l =>
    let p := correct os.1 os.2 gr phi s c
    encSamples aNom dir os gr phi (encSample aNom dir e p.1 p.2) l

/-- The samples of a tick as signed 16-bit codes (R53, R58): 16, or one in Idle-Deep (R524). -/
def State.tickSamples (s : State) (i : ChanIn) : List (Int × Int) :=
  (List.range (if s.mode = .idle ∧ s.pw.sub = 3 then 1 else 16)).map (fun j => let x := i.sc.getD j (0, 0); (sgn 16 (uns 16 x.1), sgn 16 (uns 16 x.2)))

/-- One level behind the 40 ns glitch filter (R53): it follows the input once four decoder samples in a row show the other level.
DEDUCED, log entry 67. The pair is the level and the run. -/
def glitch (level : Bool) (run : Nat) (input : Bool) : Bool × Nat :=
  if input = level then (level, 0) else if run ≥ 3 then (input, 0) else (level, run + 1)

/-- The count of a transition of A and B (R53, R89): +1 where A leads B, -1 where B leads A, 0 where nothing or both change. -/
def quadCount (a b a' b' : Bool) : Int :=
  if a = a' ∧ b ≠ b' then (if a = b' then 1 else -1)
  else if a ≠ a' ∧ b = b' then (if a' = b then -1 else 1)
  else 0

/-- The decoder samples of a tick from sample `j` on (R53, R79): the channel, the counts, and the sample instants in which an
illegal transition, a change of both A and B, was seen. -/
def quadDecode : Nat → Enc → List (Bool × Bool) → Enc × Int × List Nat
  | _, e, [] => (e, 0, [])
  | j, e, (a, b) :: l =>
    if !e.seen then quadDecode (j + 1) { e with qa := a, qb := b, qra := 0, qrb := 0, seen := true } l
    else
      let fa := glitch e.qa e.qra a
      let fb := glitch e.qb e.qrb b
      let r := quadDecode (j + 1) { e with qa := fa.1, qb := fb.1, qra := fa.2, qrb := fb.2 } l
      (r.1, quadCount e.qa e.qb fa.1 fb.1 + r.2.1, if fa.1 ≠ e.qa ∧ fb.1 ≠ e.qb then j / 25 :: r.2.2 else r.2.2)

/-- The quadrature sample instants of a tick (R79): three consecutive bad ones are loss, cause 3. -/
def quadInstants : Enc → List Bool → Enc
  | e, [] => e
  | e, b :: l =>
    let badRun := if b then e.badRun + 1 else 0
    let inLoss := decide (badRun ≥ 3) || (e.inLoss && b)
    quadInstants { e with
      badRun := badRun, inLoss := inLoss, tickLoss := e.tickLoss || inLoss
      goodRun := if b || inLoss then 0 else e.goodRun + 1
      lossDue := if e.lossDue.isSome then e.lossDue else if badRun ≥ 3 ∧ ¬e.inLoss then some 3 else none } l

/-- A quadrature tick (R61, R62, R79): counting goes on through a loss; more than 8 counts in each of three
consecutive ticks is over-rate. -/
def quadTick (dir : Bool) (e : Enc) (i : ChanIn) : Enc :=
  let r := quadDecode 0 e (i.ab.take 400)
  let dq := if dir then -r.2.1 else r.2.1
  let e := quadInstants r.1 ((List.range 16).map (fun j => i.low.getD j false || r.2.2.contains j))
  let overRun := if dq.natAbs > 8 then e.overRun + 1 else 0
  { e with
    m := e.m + dq * 16384, overRun := overRun
    inLoss := e.inLoss || decide (overRun ≥ 3), tickLoss := e.tickLoss || decide (overRun ≥ 3), goodRun := if overRun ≥ 3 then 0 else e.goodRun
    lossDue := if e.lossDue.isSome then e.lossDue else if overRun ≥ 3 ∧ ¬e.inLoss then some 2 else none }

/-- The tick's samples taken by channel `k` (R55: none before the encoder items of start-up calibration are complete). -/
def State.encInput (s : State) (k : Nat) (i : ChanIn) : Enc :=
  let e := s.encAt k
  let e := { e with tickLoss := e.inLoss }
  if bits s.cal.enc k 1 = 0 then e
  else
    let dir := s.bit (R.ENC_CFG k) F.ENC_CFG_DIR
    if s.encMode k = 1 then
      encSamples (s.aNom k) dir
        (s.fldS (R.ENC_LISS_OFS k) F.ENC_LISS_OFS_OS_S, s.fldS (R.ENC_LISS_OFS k) F.ENC_LISS_OFS_OS_C)
        (s.fld (R.ENC_LISS_GP k) F.ENC_LISS_GP_GR) (s.fldS (R.ENC_LISS_GP k) F.ENC_LISS_GP_PHI)
        e (s.tickSamples i)
    else if s.encMode k = 2 then quadTick dir e i
    else e

/-! The observer. -/

/-- Signed reading of a 64.16 difference (R64). -/
def pos80 (x : BitVec 80) : Int := x.toInt

/-- The motion R64 predicts for a tick, in 64.16: v + a/2. -/
def predMove (v a : Int) : Int := v * 16 + asr a 9

/-- The measured position as R64 uses it, in 64.16, advanced by the front-end delay. The acquisition origin 2^63 is part
of it (R68, R69). -/
def measY (m v : Int) : BitVec 80 := BitVec.ofInt 80 ((2 ^ 63 + m) * 65536 + v * 3)

/-- The arithmetic of R64 on one channel: `coast` takes e = 0. -/
def observe (g1 g2 g3 : Nat) (coast : Bool) (m : Int) (e : Enc) : Enc :=
  let xp := e.x + BitVec.ofInt 80 (predMove e.v e.a)
  let vp := satS 32 (e.v + asr e.a 12)
  let r := if coast then 0 else satS 32 (pos80 (measY m e.v - xp))
  { e with
    x := xp + BitVec.ofInt 80 (asr (g1 * r) 32), v := satS 32 (vp + asr (g2 * r) 40)
    a := satS 32 (e.a + asr (g3 * r) 36), e := r }

/-- The periods N that bring the measured position nearest the prediction (R83); ties go to the N nearer 0. -/
def rebaseN (m v : Int) (xp : BitVec 80) : Int :=
  let d := pos80 (xp - measY m v)
  let n := d / 2 ^ 32
  let r := d % 2 ^ 32
  if 2 * r < 2 ^ 32 then n else if 2 * r > 2 ^ 32 then n + 1 else if n < 0 then n + 1 else n

/-- Freeze (R80): the run of frozen ticks and the motion predicted in the last 8. -/
def freezeStep (quad : Bool) (dm : Int) (e : Enc) : Enc :=
  let mv := predMove e.v e.a
  let e := { e with frzMove := (mv :: e.frzMove).take 8 }
  if quad then if dm = 0 then { e with frz := e.frz + 1 } else { e with frz := 0 }
  else if dm.natAbs ≤ 4 ∧ mv.natAbs > 64 * 65536 then { e with frz := e.frz + 1 } else { e with frz := 0 }

/-- Whether the freeze condition of R80 holds. -/
def frozen (quad : Bool) (e : Enc) : Bool :=
  decide (e.frz ≥ 8) && (!quad || decide (e.frzMove.sum.natAbs > 32768 * 65536))

/-- The measured position of a tick, with the rebase offset of a recovery found in it (R83, R87). -/
def Enc.measured (e : Enc) : Int := e.m + e.recovDue.getD 0 * 65536

/-- Whether the channel coasts in this tick (R81): in COAST with no recovery found, or in TRACK with a loss or freeze found. -/
def Enc.coasting (e : Enc) : Bool :=
  (e.st = .coast && e.recovDue.isNone) || (e.st = .track && (e.lossDue.isSome || e.freezeDue))

/-- The observer's position in whole steps, without the origin 2^63. -/
def Enc.xSteps (e : Enc) : Int := (e.x.toNat / 65536 : Nat) - 2 ^ 63

/-- The position whose displacement R75 takes: the measured position, and while the channel coasts, where no measurement is used
and lines keep being scheduled (R81), the observer's. DEDUCED, log entry 68. -/
def Enc.speedPos (e : Enc) : Int := if e.coasting then e.xSteps else e.measured

/-- The displacement over 16 ticks; 0 until 16 ticks have passed since acquisition (R75). -/
def disp16 (e : Enc) : Int := e.hist[15]?.elim 0 (fun h => sgn 64 (uns 64 (e.speedPos - h)))

/-- SPEED_VALID and REVERSED (R75, R76): the displacement over 16 ticks. -/
def speedStep (e : Enc) : Enc :=
  let disp := disp16 e
  let valid := decide (disp.natAbs > 8)
  let sg : Int := if disp > 0 then 1 else -1
  let turned := valid && decide (e.sign ≠ 0) && decide (sg ≠ e.sign)
  { e with
    hist := (e.speedPos :: e.hist).take 16, speedValid := valid, sign := if valid then sg else e.sign
    reversed := e.reversed || turned, revAge := if turned then 0 else e.revAge + 1
    idxSkip := e.idxSkip || turned }

/-- The high-water mark and HOLD (R77). -/
def hwmStep (hyst : Nat) (e : Enc) : Enc :=
  let above := decide (pos80 (e.x - e.hwm) > 0)
  let hold := e.hold && !above
  let h := if above then e.x else e.hwm
  { e with hwm := h, hold := hold || decide (pos80 (e.x - h) < -(hyst * 65536 : Nat)) }

/-- EMIT (R78): 0 too in the tick whose step 5 ends in FAULT (R87). -/
def emitStep (e : Enc) : Enc :=
  { e with emit := ((e.st = .track && !(e.faultDue && !e.coasting)) || e.st = .coast) && e.speedValid && !e.hold }

/-- Whether x crossed between 2^64 - 1 and 0 (R86). -/
def wrapped (x x' : BitVec 80) : Bool :=
  let d := pos80 (x' - x)
  (decide (d > 0) && decide (x'.toNat < x.toNat)) || (decide (d < 0) && decide (x.toNat < x'.toNat))

/-- POS_WRAP of channel `k`, whose x stood at `x` before the tick (R86). -/
def State.posWrap (s : State) (k : Nat) (x : BitVec 80) : State :=
  if wrapped x (s.encAt k).x then (s.raiseCount 0x3006 k 18).setBit (R.ENC_STAT k) F.ENC_STAT_POS_WRAP true else s

/-- Lissajous adaptation (R59): at a phase wrap in TRACK between 10 Hz and 100 kHz each parameter moves by a step the
device chooses, within its bound, and holds at its clamp limit. The signal frequency is that of the observer's v, and 0.80 of GR
is one of the two words around it: DESIGN CHOICE, log entry 15. -/
def State.lissAdapt (s : State) (k : Nat) (e : Enc) (m0 : Int) : State :=
  let hz := e.v.natAbs * 250000
  let ok := s.bit (R.ENC_CFG k) F.ENC_CFG_LISS_ADAPT && s.encMode k = 1 && decide (e.st = .track)
    && decide (10 * 65536 * 4096 ≤ hz) && decide (hz ≤ 100000 * 65536 * 4096)
    && decide (m0 / 65536 < e.m / 65536)
  if !ok then s
  else
    let step := fun (j b : Nat) => Config.lissStep j s.freeCtr % (2 * b + 1) - b
    let lim : Int := s.aNom k / 8
    let mv := fun (lo hi v st : Int) => clampI lo hi (v + st)
    let osS := mv (-lim) lim (s.fldS (R.ENC_LISS_OFS k) F.ENC_LISS_OFS_OS_S) (step 0 2)
    let osC := mv (-lim) lim (s.fldS (R.ENC_LISS_OFS k) F.ENC_LISS_OFS_OS_C) (step 1 2)
    let grLo := divFree 5 65536 5
    let gr := mv grLo 20480 (s.fld (R.ENC_LISS_GP k) F.ENC_LISS_GP_GR) (step 2 4)
    let phi := mv (-5718) 5718 (s.fldS (R.ENC_LISS_GP k) F.ENC_LISS_GP_PHI) (step 3 8)
    let hit := decide (osS.natAbs = lim.natAbs) || decide (osC.natAbs = lim.natAbs)
      || decide (gr = grLo) || decide (gr = 20480) || decide (phi.natAbs = 5718)
    let s := s.setFld (R.ENC_LISS_OFS k) F.ENC_LISS_OFS_OS_S (uns 16 osS)
    let s := s.setFld (R.ENC_LISS_OFS k) F.ENC_LISS_OFS_OS_C (uns 16 osC)
    let s := s.setFld (R.ENC_LISS_GP k) F.ENC_LISS_GP_GR (uns 16 gr)
    let s := s.setFld (R.ENC_LISS_GP k) F.ENC_LISS_GP_PHI (uns 16 phi)
    let s := { s with freeCtr := s.freeCtr + 1 }
    if hit then s.setBit (R.ENC_STAT k) F.ENC_STAT_LISS_CLAMP true else s

/-! Which head rows a channel rules (R85), and their grid positions (R100). -/

/-- The position source of row `i` (R134). -/
def State.rowSrc (s : State) (i : Nat) : Nat := s.fld (R.DCT_ROW_CFG i) F.DCT_ROW_CFG_SRC

/-- EN of row `i` (R134). -/
def State.rowEn (s : State) (i : Nat) : Bool := s.bit (R.DCT_ROW_CFG i) F.DCT_ROW_CFG_EN

/-- PLANE of row `i` (R134). -/
def State.rowPlane (s : State) (i : Nat) : Nat := s.fld (R.DCT_ROW_CFG i) F.DCT_ROW_CFG_PLANE

/-- The rows of the part ruled on source `k`. -/
def State.rowsOn (s : State) (k : Nat) : List Nat :=
  (List.range s.nRows).filter (fun i => s.rowEn i && s.rowSrc i = k)

/-- Whether some head row of a defined plane is ruled on source `k` (R85). -/
def State.srcUsed (s : State) (k : Nat) : Bool :=
  (s.rowsOn k).any (fun i => (s.planeAt (s.rowPlane i)).defined && (s.portAt (i / 2)).plane = some (s.rowPlane i))

/-- PITCH(i), unsigned 32.32 (R101). -/
def State.pitch (s : State) (i : Nat) : Nat := s.get64 (R.DCT_ROW_PITCH_LO i) (R.DCT_ROW_PITCH_HI i)

/-- ORG(i), Q48.16 (R101). -/
def State.org (s : State) (i : Nat) : Int := sgn 64 (s.get64 (R.DCT_ROW_ORG_LO i) (R.DCT_ROW_ORG_HI i))

/-- START(p) in steps (R101). -/
def State.startPos (s : State) (p : Nat) : Nat := s.get64 (R.DCT_PLANE_START_LO p) (R.DCT_PLANE_START_HI p)

/-- X_i(g) in 2^-32 steps, modulo 2^96 (R100, R101). -/
def State.gridPos (s : State) (i g : Nat) : Nat :=
  uns 96 (s.startPos (s.rowPlane i) * 2 ^ 32 + s.org i * 65536 + g * s.pitch i)

/-- Whether a grid position lies beyond the coast limit (R82): ahead of it, modulo 2^64 steps. -/
def beyond (gpos : Nat) (limit : BitVec 80) : Bool :=
  decide (sgn 96 (uns 96 ((gpos : Int) - limit.toNat * 65536)) > 0)

/-- COAST_LEN as a length in 64.16. -/
def coastLen (len : Nat) : BitVec 80 := BitVec.ofNat 80 (len * 65536)

/-- TRACK_FAULT on source `k` (R82, R85): the cause of SYS_ADMIT_STOP where a row of a defined plane is ruled on it, and
the locked lines beyond the coast limit withheld. -/
def State.trackStop (s : State) (k : Nat) (limit : Option (BitVec 80)) : State :=
  let s := if s.srcUsed k then s.setBit R.SYS_ADMIT_STOP F.SYS_ADMIT_STOP_TRACK true else s
  match limit with
  | none => s
  | some c => s.forEach (s.rowsOn k) (fun s i =>
      s.withholdRow i (fun e => e.locked && e.kind = .line && beyond (s.gridPos i e.line) c) reasonTrack)

/-- Channel `k` enters FAULT (R68, R84): the event, its flag and its count. -/
def State.encFault (s : State) (k : Nat) (limit : Option (BitVec 80)) : State :=
  let s := s.modEnc k (fun e => { e with
    st := .fault, goodTicks := 0, feGood := 0, faultDue := false, fe := 0, emit := false, caps := [], reading := false
    agreed := false })
  (s.encEvent k 0x3003 2 F.ENC_STAT_TRACK_FAULT none).trackStop k limit

/-! One update (R87). -/

/-- An absolute read of the channel begins at device time `now` (R66). -/
def Enc.startRead (e : Enc) (now : Nat) : Enc := { e with reading := true, readAt := now }

/-- The position whose travel R73 tests: where the channel coasts the observer's, as R74 has it for a latch. -/
def Enc.travelPos (e : Enc) : Int := if e.st = .coast then e.xSteps else e.m

/-- Loss, freeze and recovery as the tick finds them (R87 steps 1 and 2, R83), from the samples and the state before. -/
def encFind (quad : Bool) (e0 e : Enc) : Enc :=
  let dm := e.m - e0.m
  let e := freezeStep quad dm e
  match e.st with
  | .track =>
    if e.lossDue.isSome then { e with freezeDue := false, a := 0, coastAt := if e0.lossDue.isSome then e.coastAt else e.x }
    else if e.freezeDue then e
    else if frozen quad e then { e with freezeDue := true, a := 0, coastAt := e.x }
    else e
  | .coast =>
    let e := { e with
      coastFreeze := e.coastFreeze && e.lossDue.isNone, lossDue := none, freezeDue := false, a := 0 }
    let back := if e.coastFreeze then decide (dm.natAbs > 4) else decide (e.goodRun ≥ 16)
    if e.recovDue.isSome then e
    else if back then { e with recovDue := some (rebaseN e.m e.v (e.x + BitVec.ofInt 80 (predMove e.v e.a))) }
    else e
  | .fault => { e with
      lossDue := none, freezeDue := false, goodTicks := if e.tickLoss then 0 else e.goodTicks + 1 }
  | _ => { e with lossDue := none, freezeDue := false }

/-- The correction of R87 steps 3 to 5: as in COAST while a loss or freeze waits to be taken, as in TRACK with the
rebase applied while a recovery waits. The residual of the recovery tick itself does not count towards FE_TIME: DESIGN CHOICE,
log entry 17. -/
def encCorrect (g1 g2 g3 : Nat) (feLimit feTime : Nat) (e : Enc) : Enc :=
  let coast := e.coasting
  let e := observe g1 g2 g3 coast e.measured e
  let big := decide (e.e.natAbs > feLimit * 65536)
  if e.st = .track ∧ ¬coast then
    let fe := if big then e.fe + 1 else 0
    { e with
      fe := fe, faultDue := e.faultDue || decide (fe > feTime), resSeen := true
      resMax := max e.resMax (e.e.natAbs / 65536) }
  else if e.st = .fault then
    { e with feGood := if e.goodTicks > 16 ∧ ¬big then e.feGood + 1 else 0 }
  else { e with fe := 0 }

/-- The index and absolute checks due at the end of an update (R87 step 11, R73, R68): the travel of 1.5 × SPACING without a
latch, in every state that counts, and the reads of R68 in FAULT. -/
def State.encChecks (s : State) (k : Nat) : State :=
  let e := s.encAt k
  let sp := s.getN (R.ENC_IDX_SPACING k)
  let s := match e.idxPos with
    | some p =>
      if sp ≠ 0 ∧ s.bit (R.ENC_CFG k) F.ENC_CFG_IDX_EN ∧ ¬e.idxOut ∧
          2 * (sgn 64 (uns 64 (e.travelPos - p))).natAbs > 3 * sp then
        (s.indexDrift k).modEnc k (fun e => { e with idxOut := true })
      else s
    | none => s
  if e.st = .fault ∧ s.encAbs k ≠ 0 ∧ e.feGood ≥ s.fld (R.ENC_FE k) F.ENC_FE_FE_TIME ∧ e.caps = [] ∧ ¬e.reading then
    s.modEnc k (fun e => e.startRead s.now)
  else s

/-! Transitions that are commands of their own (R68). -/

/-- Channel `k` enters COAST by loss, where the samples show it (R79, R68). -/
def State.encLoss (s : State) (k : Nat) : State :=
  let e := s.encAt k
  match e.st, e.lossDue with
  | .track, some c =>
    let s := s.modEnc k (fun e => { e with
      st := .coast, lossDue := none, freezeDue := false, coastFreeze := false, faultDue := false, fe := 0, a := 0
      goodRun := 0, recovDue := none })
    let s := s.encEvent k 0x3001 0 F.ENC_STAT_LOSS (some F.ENC_EVT_CNT_LOSS_CNT)
    s.setFld (R.ENC_STAT k) F.ENC_STAT_LOSS_CAUSE c
  | _, _ => s

/-- Channel `k` enters COAST by freeze (R80, R68). -/
def State.encFreeze (s : State) (k : Nat) : State :=
  let e := s.encAt k
  if e.st = .track ∧ e.freezeDue ∧ e.lossDue = none then
    let s := s.modEnc k (fun e => { e with
      st := .coast, freezeDue := false, coastFreeze := true, faultDue := false, fe := 0, a := 0, recovDue := none
      frz := 0, frzMove := [] })
    s.encEvent k 0x3002 1 F.ENC_STAT_FREEZE (some F.ENC_EVT_CNT_FRZ_CNT)
  else s

/-- The update of channel `k` in one tick (R87). `ran` is false where the item was skipped (R30): the observer then stays
on its prediction. -/
def State.encTick (s : State) (k : Nat) (i : ChanIn) (ran : Bool) : State :=
  let e0 := s.encAt k
  let e := s.encInput k i
  let quad := s.encMode k = 2
  let live := e.st = .track || e.st = .coast || e.st = .fault
  let gone := e.travel + (e.m - e0.m).natAbs
  let s := match e.lossDue with
    | some c => if e0.lossDue.isNone then s.setFld (R.ENC_STAT k) F.ENC_STAT_LOSS_CAUSE c else s
    | none => s
  if !live then s.modEnc k (fun _ => { e with lossDue := none })
  else
    let e := { e with travel := gone % 65536 }
    let s := s.countUnless s.devTainted (cEnc k 6) (gone / 65536)
    if !ran then
      (s.modEnc k (fun _ => { e with
        x := e.x + BitVec.ofInt 80 (predMove e.v e.a), v := satS 32 (e.v + asr e.a 12)
        hist := (e.speedPos :: e.hist).take 16
        coastAt := if e.st = .track ∧ e.lossDue.isSome ∧ e0.lossDue = none then e.x else e.coastAt })).posWrap k e0.x
    else
      let e := encFind quad e0 e
      let e := encCorrect (s.getN (R.ENC_OBS_G1 k)) (s.getN (R.ENC_OBS_G2 k)) (s.getN (R.ENC_OBS_G3 k))
        (s.fld (R.ENC_FE k) F.ENC_FE_FE_LIMIT) (s.fld (R.ENC_FE k) F.ENC_FE_FE_TIME) e
      let overran := e.coasting &&
        decide ((pos80 (e.x - e.coastAt)).natAbs > s.getN (R.ENC_COAST_LEN k) * 65536)
      let s := s.modEnc k (fun _ => e)
      let s := s.lissAdapt k e e0.m
      let s := if overran then
        ((s.encLoss k).encFreeze k).encFault k (some (e.coastAt + coastLen (s.getN (R.ENC_COAST_LEN k)))) else s
      let s := s.posWrap k e0.x
      let s := s.modEnc k (fun e =>
        emitStep (hwmStep (s.fld (R.ENC_HWM_CFG k) F.ENC_HWM_CFG_HYST) (speedStep e)))
      s.encChecks k

/-- Recovery of channel `k` from COAST (R83): the rebase, REBASED, and an absolute read where one is fitted. -/
def State.encRecovery (s : State) (k : Nat) : State :=
  let e := s.encAt k
  match e.st, e.recovDue with
  | .coast, some n =>
    let s := s.modEnc k (fun e => { e with
      st := .track, recovDue := none, m := e.m + n * 65536, fe := 0, frz := 0, frzMove := [], idxSkip := true
      reading := decide (s.encAbs k ≠ 0), readAt := s.now })
    (s.countUnless s.devTainted (cEnc k 5)).setBit (R.ENC_STAT k) F.ENC_STAT_REBASED true
  | _, _ => s

/-- Following-error fault of channel `k` (R84). -/
def State.encTrackFault (s : State) (k : Nat) : State :=
  let e := s.encAt k
  if e.st = .track ∧ e.faultDue ∧ e.lossDue = none then s.encFault k none else s

/-- ACQ of channel `k` cleared (R89). -/
def State.clearAcq (s : State) (k : Nat) : State := s.setBit (R.ENC_CFG k) F.ENC_CFG_ACQ false

/-- Recovery of channel `k` from FAULT (R68): 16 ticks without loss, then FE_TIME ticks within FE_LIMIT, and with an
absolute word an absolute read passing R69, whose position x takes. -/
def State.encFaultRecovery (s : State) (k : Nat) : State :=
  let e := s.encAt k
  let back := e.st = .fault && decide (e.goodTicks ≥ 16) &&
    decide (e.feGood ≥ s.fld (R.ENC_FE k) F.ENC_FE_FE_TIME)
  if !back then s
  else if s.encAbs k = 0 then
    (s.modEnc k (fun e => { e with st := .track, fe := 0, frz := 0 })).clearAcq k
  else match e.caps with
    | [c] =>
      if !e.agreed then s
      else (s.modEnc k (fun e => { e with
        st := .track, fe := 0, frz := 0, caps := [], agreed := false, m := c.yAbs + (e.m - c.pos)
        x := BitVec.ofInt 80 ((2 ^ 63 + c.yAbs + (e.m - c.pos)) * 65536) })).clearAcq k
    | _ => s

/-- Channel `k` starts tracking at counted position `m` (R68): x, the high-water mark, and the records that a new position
makes stale. ENC_RESID then reads 0 until the first update, and the travel of R73 is taken from the first latch that follows:
DESIGN CHOICE, log entry 9. -/
def State.encStart (s : State) (k : Nat) (m v : Int) : State :=
  let x := BitVec.ofInt 80 ((2 ^ 63 + m) * 65536)
  (s.modEnc k (fun e => { e with
    st := .track, x := x, hwm := x, v := v, a := 0, e := 0, m := m, hist := [], speedValid := false, sign := 0
    reversed := false, hold := false, emit := false, fe := 0, frz := 0, frzMove := [], idxSkip := true, caps := []
    reading := false, fails := 0, lossDue := none, freezeDue := false, faultDue := false, recovDue := none
    absFails := 0, idxPos := none, idxOut := false
    chkDue := s.now + s.fld (R.ENC_ABS_CHK k) F.ENC_ABS_CHK_INTERVAL * 2000000 })).clearAcq k

/-- QUALIFY of channel `k` complete (R68). -/
def State.encQualified (s : State) (k : Nat) : State :=
  let e := s.encAt k
  if e.st = .qualify ∧ e.goodRun ≥ 16 then
    if s.encAbs k ≠ 0 then
      s.modEnc k (fun e => { e with st := .absRead, caps := [], fails := 0, reading := true, readAt := s.now, requal := false })
    else if s.encMode k = 2 then s.encStart k 0 0
    else s.encStart k e.phase 0
  else s

/-- 10 ms in QUALIFY without qualification (R68). -/
def State.encQualifyTimeout (s : State) (k : Nat) : State :=
  let e := s.encAt k
  if e.st = .qualify ∧ e.goodRun < 16 then
    let s := s.advTo (e.qualAt + 20000000)
    let s := (s.setBit (R.ENC_STAT k) F.ENC_STAT_ACQ_FAIL true).clearAcq k
    s.modEnc k (fun e => { e with qualAt := s.now })
  else s

/-- Channel `k` enters QUALIFY (R68). -/
def State.encQualify (s : State) (k : Nat) : State :=
  s.modEnc k (fun e => { e with
    st := .qualify, goodRun := 0, qualAt := s.now, seen := false, inLoss := false, badRun := 0, overRun := 0
    caps := [], reading := false, requal := false, emit := false, lossDue := none, freezeDue := false, faultDue := false
    recovDue := none, speedValid := false })

/-- A write of ACQ (R68, R89): accepted with MODE ≠ 0 in OFF, and in TRACK, COAST and FAULT only in CONFIG and IDLE; any
other write is refused and clears at once. -/
def State.encAcq (s : State) (k : Nat) : State :=
  let e := s.encAt k
  let s1 := s.setBit (R.ENC_CFG k) F.ENC_CFG_ACQ true
  if s.encMode k = 0 then s.clearAcq k
  else match e.st with
    | .off => if bits s.cal.enc k 1 = 1 then s1.encQualify k else s1.modEnc k (fun e => { e with st := .waitCal })
    | .track | .coast | .fault =>
      if s.mode = .config ∨ s.mode = .idle then s1.encQualify k else s.clearAcq k
    | _ => s

/-- MODE of channel `k` written 0 (R68): the observer stops and x holds. -/
def State.encOff (s : State) (k : Nat) : State :=
  (s.modEnc k (fun e => { e with
    st := .off, emit := false, speedValid := false, hold := false, reversed := false, lossDue := none
    freezeDue := false, faultDue := false, recovDue := none, reading := false, requal := false, seen := false
    goodRun := 0 })).clearAcq k

/-! The absolute word. -/

/-- ENC_ABS_CFG as the device keeps it for a setting of ABS: for SSI it raises CLK_DIV to 4 if it is set lower (R66). -/
def absClkWord (abs v : Nat) : Nat := if abs = 1 ∧ bits v 12 4 < 4 then setBits v 12 4 4 else v

/-- The word of ENC_ABS_CFG(k) after a change of it or of ABS (R66). -/
def State.absClock (s : State) (k : Nat) : State :=
  s.setN (R.ENC_ABS_CFG k) (absClkWord (s.encAbs k) (s.getN (R.ENC_ABS_CFG k)))

/-- Binary value of a Gray-coded word (R66). -/
def grayToBin : Nat → Nat → Nat
  | 0, w => w
  | k + 1, w => w ^^^ grayToBin k (w / 2)

/-- The CRC of R66 over `k` bits, most significant first: 6 bits, polynomial x^6 + CRC_POLY. -/
def absCrc (poly : Nat) : Nat → Nat → Nat → Nat
  | 0, _, c => c
  | k + 1, w, c =>
    let fb := (c / 32 + w / 2 ^ k) % 2
    absCrc poly k w ((c * 2 % 64) ^^^ (if fb = 1 then poly else 0))

/-- Whether a completed word is valid (R66, R90): the length is allowed, and for BiSS-C the CRC matches and no error bit
is low. EWBITS 3, which R90 does not give, is taken as 2: DESIGN CHOICE, log entry 16. -/
def State.absValid (s : State) (k : Nat) (r : AbsIn) : Bool :=
  let nb := s.fld (R.ENC_ABS_CFG k) F.ENC_ABS_CFG_BITS
  let ew := min 2 (s.fld (R.ENC_ABS_CFG k) F.ENC_ABS_CFG_EWBITS)
  let okLen := decide (8 ≤ nb) && decide (nb ≤ 40)
  if s.encAbs k = 2 then
    let crc := absCrc (s.fld (R.ENC_ABS_CFG k) F.ENC_ABS_CFG_CRC_POLY) (nb + ew)
      (r.word % 2 ^ nb * 2 ^ ew + r.ew % 2 ^ ew) 0
    okLen && decide (crc = 63 - r.crc % 64) && (ew = 0 || decide (r.ew / 2 ^ (ew - 1) % 2 = 1))
  else okLen

/-- The captured position (R67): between the samples around the instant, linearly. -/
def between (m : Int) (b : Between) : Int := m + b.d0 + divFree 2 ((b.d1 - b.d0) * b.num) 500

/-- y_abs of a word (R67). FRAC 17 to 31, which R67 does not give, is taken as 16: DESIGN CHOICE, log entry 16. -/
def State.yAbs (s : State) (k : Nat) (word : Nat) : Int :=
  let nb := s.fld (R.ENC_ABS_CFG k) F.ENC_ABS_CFG_BITS
  let w := word % 2 ^ nb
  let w := if s.encAbs k = 1 ∧ s.bit (R.ENC_ABS_CFG k) F.ENC_ABS_CFG_GRAY then grayToBin nb w else w
  let frac := min 16 (s.fld (R.ENC_ABS_CFG k) F.ENC_ABS_CFG_FRAC)
  (w * 2 ^ (16 - frac) : Nat) + sgn 32 (s.getN (R.ENC_ABS_OFS k))

/-- The agreement of two readings and the alignment of the second (R69): the position they give at the second capture. -/
def State.absAgree (s : State) (k : Nat) (c1 c2 : AbsCap) : Option Int :=
  let limit := s.fld (R.ENC_ABS_CHK k) F.ENC_ABS_CHK_LIMIT
  let frac := min 16 (s.fld (R.ENC_ABS_CFG k) F.ENC_ABS_CFG_FRAC)
  let tol := max 1024 (2 ^ (16 - frac))
  let p := divNearFree 3 (c2.yAbs - c2.phase) 65536 * 65536 + c2.phase
  if ((c2.yAbs - c1.yAbs) - (c2.pos - c1.pos)).natAbs ≤ limit ∧ (p - c2.yAbs).natAbs ≤ tol then some p else none

/-- A failed attempt in ABS_READ (R68): the third sets ACQ_FAIL and raises ABS_DRIFT; QUALIFY follows after 1 ms. -/
def State.absAttemptFail (s : State) (k : Nat) : State :=
  let e := s.encAt k
  if e.fails + 1 < 3 then
    s.modEnc k (fun e => { e with fails := e.fails + 1, caps := [], reading := true, readAt := s.now })
  else
    let s := (s.setBit (R.ENC_STAT k) F.ENC_STAT_ACQ_FAIL true).clearAcq k
    (s.absDrift k).modEnc k (fun e => { e with
      fails := e.fails + 1, caps := [], reading := false, requal := true, qualAt := s.now })

/-- A failed read (R66, R71): an attempt lost in acquisition, a count in TRACK, a new start in FAULT. -/
def State.absReadFail (s : State) (k : Nat) : State :=
  let e := s.encAt k
  match e.st with
  | .absRead => s.absAttemptFail k
  | .track | .coast =>
    let s := s.modEnc k (fun e => { e with reading := false, absFails := e.absFails + 1 })
    if e.absFails + 1 = 3 then
      (s.setBit (R.ENC_STAT k) F.ENC_STAT_ABS_COMM true).absDrift k
    else s
  | _ => s.modEnc k (fun e => { e with caps := [], reading := false })

/-- A valid read (R69, R70). -/
def State.absReadOk (s : State) (k : Nat) (c : AbsCap) : State :=
  let e := s.encAt k
  match e.st, e.caps with
  | .absRead, [] => s.modEnc k (fun e => { e with caps := [c], reading := false })
  | .absRead, c1 :: _ =>
    match s.absAgree k c1 c with
    | some p =>
      let t := (c.done : Int) - c1.done
      let v := if t ≤ 0 then 0 else satS 32 (divFree 4 ((c.pos - c1.pos) * 4096 * 8000) t)
      s.encStart k (p + (e.m - c.pos)) v
    | none => s.absAttemptFail k
  | .track, _ =>
    let d := satS 32 (c.yAbs - c.pos)              -- the sense is DESIGN CHOICE, log entry 16
    let s := (s.setN (R.ENC_ABS_DIFF k) (uns 32 d)).modEnc k (fun e => { e with reading := false, absFails := 0 })
    if d.natAbs > s.fld (R.ENC_ABS_CHK k) F.ENC_ABS_CHK_LIMIT then s.absDrift k else s
  | .fault, [] => s.modEnc k (fun e => { e with caps := [c] , reading := false, fails := 0 })
  | .fault, c1 :: _ =>
    match s.absAgree k c1 c with
    | some p => s.modEnc k (fun e => { e with caps := [{ c with yAbs := p }], reading := false, agreed := true })
    | none => s.modEnc k (fun e => { e with caps := [], reading := false })
  | _, _ => s.modEnc k (fun e => { e with reading := false })

/-- When a read that began at the state's `readAt` times out (R66, R90). -/
def State.absDeadline (s : State) (k : Nat) : Nat :=
  (s.encAt k).readAt + s.fld (R.ENC_ABS_CFG k) F.ENC_ABS_CFG_TIMEOUT * 2000

/-- Whether a word came too late (R66): complete after TIMEOUT in SSI, its start bit after TIMEOUT in BiSS-C. -/
def State.absLate (s : State) (k : Nat) (r : AbsIn) : Bool :=
  decide (s.absDeadline k < if s.encAbs k = 2 then r.start else r.done)

/-- An absolute read that gets no answer within TIMEOUT fails then (R66). -/
def State.absTimeout (s : State) (k : Nat) : State :=
  if (s.encAt k).reading then (s.advTo (s.absDeadline k)).absReadFail k else s

/-- An absolute read of channel `k` completes (R66 to R71). -/
def State.absRead (s : State) (k : Nat) (r : AbsIn) : State :=
  let e := s.encAt k
  if !e.reading then s.advTo r.done
  else if s.absLate k r then s.absTimeout k
  else
  let s := s.advTo r.done
  if !s.absValid k r then s.absReadFail k
  else
    let p := between e.m r.cap
    let ew := min 2 (s.fld (R.ENC_ABS_CFG k) F.ENC_ABS_CFG_EWBITS)
    let s := if s.encAbs k = 2 ∧ ew = 2 ∧ r.ew % 2 = 0 then s.modEnc k (fun e => { e with warns := e.warns + 1 }) else s
    s.absReadOk k { yAbs := s.yAbs k r.word, pos := p, phase := uns 16 p, done := r.cap.dt, comp := r.done }

/-- The periodic check of channel `k` falls due (R70): a read starts, in TRACK alone. -/
def State.absCheck (s : State) (k : Nat) : State :=
  let e := s.encAt k
  let int := s.fld (R.ENC_ABS_CHK k) F.ENC_ABS_CHK_INTERVAL
  if e.st ≠ .track ∨ s.encAbs k = 0 ∨ int = 0 ∨ e.reading then s
  else
    let s := s.advTo e.chkDue
    s.modEnc k (fun e => { e with reading := true, readAt := s.now, chkDue := s.now + int * 2000000 })

/-- The second read of an attempt starts, 100 µs after the first ended (R68); in FAULT too, whose recovery asks for a read that
passes R69, and so for both of its reads. -/
def State.absSecond (s : State) (k : Nat) : State :=
  let e := s.encAt k
  match e.caps with
  | [c] =>
    if (e.st = .absRead ∨ e.st = .fault ∧ ¬e.agreed) ∧ !e.reading then
      (s.advTo (c.comp + 200000)).modEnc k (fun e => e.startRead (max s.now (c.comp + 200000)))
    else s
  | _ => s

/-- 1 ms after the third failed attempt (R68): QUALIFY. -/
def State.absRequalify (s : State) (k : Nat) : State :=
  let e := s.encAt k
  if e.st = .absRead ∧ e.requal then (s.advTo (e.qualAt + 2000000)).encQualify k else s

/-- REVERSED clears 64 ticks after the last change of sign (R76). -/
def State.reversedClear (s : State) (k : Nat) : State :=
  if (s.encAt k).revAge ≥ 64 then s.modEnc k (fun e => { e with reversed := false }) else s

/-- The index edge of channel `k` (R72 to R74): of the polarity EDGE and held for 100 ns, else it is not qualified. The latched
position carries the origin 2^63, as ENC_POS does: DEDUCED, log entry 16. -/
def State.indexEdge (s : State) (k : Nat) (i : EdgeIn) : State :=
  let e := s.encAt k
  let b := i.at_
  let s := s.advTo b.dt
  let qualified := (i.rising = !s.bit (R.ENC_IDX_CFG k) F.ENC_IDX_CFG_EDGE) && decide (200 ≤ i.held)
  if bits s.cal.enc k 1 = 0 || !s.bit (R.ENC_CFG k) F.ENC_CFG_IDX_EN || !qualified then s
  else
    let away := e.st = .coast || e.st = .fault
    let p : Int := if e.st = .coast then e.xSteps else between e.m b
    let pos := uns 64 (2 ^ 63 + p)
    let s := s.set64 (R.ENC_INDEX_LATCH_LO k) (R.ENC_INDEX_LATCH_HI k) pos
    let s := s.set64 (R.ENC_INDEX_DT_LO k) (R.ENC_INDEX_DT_HI k) b.dt
    let s := s.setBit (R.ENC_STAT k) F.ENC_STAT_IDX_NEW true
    let sp := s.getN (R.ENC_IDX_SPACING k)
    let tol := s.fld (R.ENC_IDX_CFG k) F.ENC_IDX_CFG_TOL
    let drift := match e.idxPos with
      | some q => !e.idxSkip && !away && decide (sp ≠ 0) &&
          decide ((((sgn 64 (uns 64 (p - q))).natAbs : Int) - sp).natAbs > tol)
      | none => false
    let s := s.modEnc k (fun e => { e with idxPos := some p, idxSkip := away, idxOut := false })
    if drift then s.indexDrift k else s

end Sys2Proof.Machine
end

