-- ==== Sys2Proof/Machine/Nozzle.lean ====
section
/-! DEFINITION. Nozzle mapping, masks and substitution: the code of a plane column, the effective mask, OPU, and the
per-line computation of R204 (chapter "Nozzle mapping, masks and substitution"). -/
namespace Sys2Proof.Machine

/-! Packing. -/

/-- The 2-bit codes of bytes, four to a byte, lowest first (R13, R140). -/
def unpackCodes (bs : List Nat) : List Nat := bs.flatMap (fun b => [b % 4, b / 4 % 4, b / 16 % 4, b / 64 % 4])

/-- Codes packed four to a byte. -/
def packCodes : List Nat → List Nat
  | a :: b :: c :: d :: l => (a % 4 + b % 4 * 4 + c % 4 * 16 + d % 4 * 64) :: packCodes l
  | [] => []
  | [a] => [a % 4]
  | [a, b] => [a % 4 + b % 4 * 4]
  | [a, b, c] => [a % 4 + b % 4 * 4 + c % 4 * 16]

/-- The bits of bytes, lowest first. -/
def unpackBits (bs : List Nat) : List Bool := bs.flatMap (fun b => (List.range 8).map (fun j => b / 2 ^ j % 2 = 1))

/-- `k` bits of a bitmap of Bank N at `base`, from bit `b` on, as the nozzle pipeline reads them (R397). -/
def State.chipBits (s : State) (base b k : Nat) : List Bool :=
  ((unpackBits (s.ownRead (base + b / 8) ((b % 8 + k + 7) / 8))).drop (b % 8)).take k

/-! The head on a port. -/

/-- Z of R225. -/
def State.zonesOf (s : State) (n : Nat) : Nat := if s.portType n = 1 then 4 else 8

/-- NPR of the head on port `n` as its record gave it (R185): what its lanes and its trim set follow (R256, R273). -/
def State.nprSet (s : State) (n : Nat) : Nat := s.fld (R.NZP_MAP_CFG n) F.NZP_MAP_CFG_NPR

/-- T_min of row `i` (R115). -/
def State.tMin (s : State) (i : Nat) : Nat :=
  let floor := if s.portType (i / 2) = 2 then 41668 else if s.portType (i / 2) = 1 then 125000 else 1
  max 1 (max floor (s.fld (R.DCT_ROW_TMIN i) F.DCT_ROW_TMIN_TMIN))

/-- END(p) (R103, R136). -/
def State.endLine (s : State) (p : Nat) : Nat :=
  min (2 ^ 48 - 17) (s.getN (R.DCT_PLANE_END_LO p) + s.fld (R.DCT_PLANE_END_HI p) F.DCT_PLANE_END_HI_END * 2 ^ 32)

/-- Where the mask source bitmaps and the generation bitmaps of R190 lie in Bank N. -/
def maskRec : Nat := bankN + 0x380000
def maskDgv : Nat := bankN + 0x384000
def maskHset : Nat := bankN + 0x388000
def maskHclr : Nat := bankN + 0x38C000
def maskGen (gen : Nat) : Nat := bankN + 0x390000 + gen * 0x4000

/-- The generation of line `g` (R195). -/
def Plane.genOf (p : Plane) (g : Nat) : Nat := if p.oldLive ∧ g < p.lp then 1 - p.gen else p.gen

/-- The plane record of the head on port `n`. -/
def State.headPlane (s : State) (n : Nat) : Plane :=
  match (s.portAt n).plane with
  | some p => s.planeAt p
  | none => {}

/-- The map registers generation `gen` latched for port `n` (R193). -/
def State.headMap (s : State) (n gen : Nat) : HeadMap := (s.portAt n).maps.getD gen {}

/-- NPR of port `n` as the newest generation of its plane latched it (R193, R212). -/
def State.npr (s : State) (n : Nat) : Nat := (s.headMap n (s.headPlane n).gen).npr

/-- The first used head column and the number of used ones under a map (R186). -/
def HeadMap.used (m : HeadMap) : Nat × Nat := if m.en then (m.uofs, min m.ncol (m.npr - m.uofs)) else (0, 0)

/-- The effective masks of `k` nozzles of row `b` of port `n` from head column `u` on, under generation `gen` (R190 to
R192): a nozzle of a disabled row counts as masked. -/
def State.rowMasks (s : State) (n gen b u k : Nat) : List Bool :=
  if !s.bit (R.DCT_ROW_CFG (2 * n + b)) F.DCT_ROW_CFG_EN then List.replicate k true
  else s.chipBits (maskGen gen) (n * 4096 + b * (s.headMap n gen).npr + u) k

/-- Whether nozzle `u` of row `b` may carry a warm code under generation `gen` (R224): used and not masked. -/
def State.mayWarm (s : State) (n gen b u : Nat) : Bool :=
  let (u0, k) := (s.headMap n gen).used
  decide (u0 ≤ u) && decide (u < u0 + k) && (s.rowMasks n gen b u 1 == [false])

/-! The code ring (R158). -/

def codesSize (w : Nat) : Nat := ((w + 3) / 4 + 63) / 64 * 64
def doubleSize (w : Nat) : Nat := ((w + 7) / 8 + 63) / 64 * 64

/-- D_p (R158, R180). -/
def State.ringDepth (s : State) (p : Nat) : Nat := 2 ^ clampN 10 16 (s.fld (R.SCR_PLANE_CFG p) F.SCR_PLANE_CFG_CODE_DEPTH)

/-- The DRAM address of the code line of grid line `g` (R158). -/
def State.codeAddr (s : State) (p g : Nat) : Nat :=
  let w := s.width p
  s.get64 (R.SCR_PLANE_CODE_BASE_LO p) (R.SCR_PLANE_CODE_BASE_HI p) / 64 * 64 +
    g % s.ringDepth p * (codesSize w + doubleSize w)

/-- The codes and DOUBLE flags of `k` columns from `c` on, on line `g` (R158). -/
def State.codeSpan (s : State) (p g c k : Nat) : List (Nat × Bool) :=
  let a := s.codeAddr p g
  let cs := (unpackCodes (memRead s.dram (a + c / 4) ((c % 4 + k + 3) / 4))).drop (c % 4)
  let d := a + codesSize (s.width p)
  let ds := (unpackBits (memRead s.dram (d + c / 8) ((c % 8 + k + 7) / 8))).drop (c % 8)
  (cs.zip ds).take k

/-! The off-parity use decision. -/

/-- Row of port `n` to which line `g` is native, and the partner row (R188). -/
def natRow (n g : Nat) : Nat := 2 * n + g % 2
def parRow (n g : Nat) : Nat := 2 * n + 1 - g % 2

/-- OPU as R200 would decide it now for line `g`. -/
def State.opuNow (s : State) (n g : Nat) : Bool :=
  let r := s.rowAt (parRow n g)
  let m := s.fld R.DCT_SHARE_CFG F.DCT_SHARE_CFG_SET_MARGIN
  r.share && decide (r.period = 0xFFFFFFFF ∨ r.period * 64 ≥ s.tMin (parRow n g) * 256 * (64 + m))

/-- Where OPU(g) lies in the ring of R203. -/
def opuByte (n g : Nat) : Nat := bankN + 0x398000 + n * 512 + g % 4096 / 8
def State.opuGet (s : State) (n g : Nat) : Bool := s.ownBit (opuByte n g) (g % 8)
def State.opuPut (s : State) (n g : Nat) (v : Bool) : State :=
  s.ownWrite (opuByte n g) [setBits (ofLe (s.ownRead (opuByte n g) 1)) (g % 8) 1 (if v then 1 else 0)]

/-- What is known of OPU(g). -/
def State.opuRec (s : State) (n g : Nat) : Option Opu := (s.portAt n).opu.find? (·.line = g)

/-- OPU(g) recorded, frozen or not; records a ring length behind are dropped (R203). -/
def State.opuNote (s : State) (n g : Nat) (frozen : Bool) : State :=
  s.modPort n (fun p => { p with
    opu := { line := g, frozen := frozen } :: p.opu.filter (fun o => o.line ≠ g ∧ g < o.line + 4096) })

/-- OPU(g) at a computation or recomputation of line `g` (R200): whether it changed, and the state. -/
def State.opuEval (s : State) (n g : Nat) : Bool × State :=
  match s.opuRec n g with
  | some o =>
    if o.frozen then (false, s)
    else
      let v := s.opuNow n g
      (v != s.opuGet n g, s.opuPut n g v)
  | none => (false, (s.opuPut n g (s.opuNow n g)).opuNote n g false)

/-- Whether a recomputation of line `g` would change OPU(g). -/
def State.opuStale (s : State) (n g : Nat) : Bool :=
  match s.opuRec n g with
  | some o => !o.frozen && (s.opuNow n g != s.opuGet n g)
  | none => true

/-- OPU(g) frozen at `v` where it is not frozen yet (R201): whether that changed it, and the state. -/
def State.opuFreeze (s : State) (n g : Nat) (v : Bool) : Bool × State :=
  match s.opuRec n g with
  | some o =>
    if o.frozen then (false, s) else (v != s.opuGet n g, (s.opuPut n g v).opuNote n g true)
  | none => (false, (s.opuPut n g v).opuNote n g true)

/-- OPU(g) frozen at the value it holds (R201.2, R221). -/
def State.opuHold (s : State) (n g : Nat) : State :=
  match s.opuRec n g with
  | some o => if o.frozen then s else s.opuNote n g true
  | none => (s.opuPut n g (s.opuNow n g)).opuNote n g true

/-! The per-line computation (R204). -/

/-- One used column: its code and DOUBLE flag, and the masks of its native and partner nozzles. -/
structure Col where
  q : Nat
  d : Bool
  mn : Bool
  mp : Bool
  deriving DecidableEq, Repr

/-- Where step 1 of R204 sends a column: the native code, the off-parity code, the neighbour stepped up (1 the lower, 2 the
higher), and the events share, spread, lost, dbl_drop, sat. -/
structure Sent where
  nat : Nat := 0
  off : Nat := 0
  dir : Nat := 0
  ev : List Nat := [0, 0, 0, 0, 0]
  deriving DecidableEq, Repr

/-- Step 1 of R204 on one column; `low` and `high` say whether the neighbours pass ok(). -/
def sendCol (policy : Nat) (odd opu : Bool) (c : Col) (low high : Bool) : Sent :=
  let dbl := if c.d then 1 else 0
  if !c.mn then
    if c.d ∧ opu ∧ !c.mp then { nat := c.q, off := 3 } else { nat := c.q, ev := [0, 0, 0, dbl, 0] }
  else if c.q = 0 then {}
  else if policy = 0 then { ev := [0, 0, 1, dbl, 0] }
  else if policy = 1 ∧ opu ∧ !c.mp then { off := c.q, ev := [1, 0, 0, dbl, 0] }
  else
    let first := if odd then high else low
    let second := if odd then low else high
    if first then { dir := if odd then 2 else 1, ev := [0, 1, 0, dbl, 0] }
    else if second then { dir := if odd then 1 else 2, ev := [0, 1, 0, dbl, 0] }
    else { ev := [0, 0, 1, dbl, 0] }

/-- Step 2 of R204: one step up of a native code; the count of sat. -/
def bumpCode (q : Nat) : Nat × Nat := if q = 0 then (2, 0) else if q = 2 then (3, 0) else (q, 1)

/-- Step 2 of R204 on one column, with the number of neighbours that step it up. -/
def bumpCol (q k : Nat) : Nat × Nat :=
  match k with
  | 0 => (q, 0)
  | 1 => bumpCode q
  | _ =>
    let a := bumpCode q
    let b := bumpCode a.1
    (b.1, a.2 + b.2)

/-- The columns of a span paired with the neighbour tests of R204 and R205. -/
def sendAll (policy : Nat) (odd opu : Bool) (cols : List Col) : List Sent :=
  let oks := cols.map (fun c => !c.mn)
  let low := false :: oks
  let high := oks.drop 1 ++ [false]
  (cols.zip (low.zip high)).map (fun x => sendCol policy odd opu x.1 x.2.1 x.2.2)

/-- The outcome of R204 for one head and line: the native and off-parity codes of every head column, and the events. -/
structure LineOut where
  nat : List Nat
  off : List Nat
  ev : List Nat
  deriving DecidableEq, Repr

/-- R204 on the used columns of a line. -/
def lineOf (policy : Nat) (odd opu : Bool) (cols : List Col) : LineOut :=
  let sent := sendAll policy odd opu cols
  let up := false :: sent.map (fun x => decide (x.dir = 2))
  let down := (sent.map (fun x => decide (x.dir = 1))).drop 1 ++ [false]
  let bumped := (sent.zip (up.zip down)).map (fun x =>
    bumpCol x.1.nat ((if x.2.1 then 1 else 0) + (if x.2.2 then 1 else 0)))
  let sum := fun (j : Nat) => (sent.map (fun x => x.ev.getD j 0)).foldl (· + ·) 0
  { nat := bumped.map (·.1), off := sent.map (·.off)
    ev := [sum 0, sum 1, sum 2, sum 3, (bumped.map (·.2)).foldl (· + ·) 0] }

/-- `l` as the used columns from `u` on of a row of `npr` columns. -/
def padRow (npr u : Nat) (l : List Nat) : List Nat :=
  ((List.replicate u 0 ++ l) ++ List.replicate npr 0).take npr

/-- The codes of line `g` of port `n` under its generation, with OPU as held (R186, R204). A planned probe of a native
nozzle that is not masked adds its code 11 (R299, R302). -/
def State.lineCodes (s : State) (n g : Nat) : LineOut :=
  match (s.portAt n).plane with
  | none => { nat := [], off := [], ev := [] }
  | some p =>
    let gen := (s.planeAt p).genOf g
    let m := s.headMap n gen
    let npr := m.npr
    let (u, k) := m.used
    let cs := s.codeSpan p g m.col0 m.ncol
    let cs := (if m.rev then cs.reverse else cs).take k
    let mn := s.rowMasks n gen (g % 2) u k
    let mp := s.rowMasks n gen (1 - g % 2) u k
    let cols := (cs.zip (mn.zip mp)).map (fun x => { q := x.1.1, d := x.1.2, mn := x.2.1, mp := x.2.2 : Col })
    let out := lineOf m.policy (decide (g / 2 % 2 = 1)) (s.opuGet n g) cols
    let probes := (s.portAt n).plan.filter (fun q =>
      decide (q.line = g) && decide (q.h / max 1 m.npr = g % 2) && s.mayWarm n gen (g % 2) (q.h - g % 2 * m.npr))
    let put := fun (l : List Nat) (q : Probe) => l.set (q.h - g % 2 * m.npr) 3
    { nat := probes.foldl put (padRow npr u out.nat), off := padRow npr u out.off, ev := out.ev }

/-- The events of a line's final computation counted (R207). -/
def State.countEvents (s : State) (n : Nat) (ev : List Nat) : State :=
  let s := s.bumpW (R.NZP_CNT_SHARE n) (ev.getD 0 0)
  let s := s.bumpW (R.NZP_CNT_SPREAD n) (ev.getD 1 0)
  let s := s.bumpW (R.NZP_CNT_LOST n) (ev.getD 2 0)
  let s := s.bumpW (R.NZP_CNT_DBL n) (ev.getD 3 0)
  s.bumpW (R.NZP_CNT_SAT n) (ev.getD 4 0)

/-! The staging ring (R262). -/

/-- The Bank L address of row `i`'s codes of line `g`. -/
def stageAddr (i g : Nat) : Nat := bankL + i / 2 * 0x10000 + g % 64 * 0x400 + i % 2 * 512

/-- The staged codes of row `i`'s line `g`. -/
def State.stageGet (s : State) (i g : Nat) : List Nat :=
  (unpackCodes (s.ownRead (stageAddr i g) ((s.npr (i / 2) + 3) / 4))).take (s.npr (i / 2))

/-- `s` with the codes of row `i`'s line `g` staged. -/
def State.stagePut (s : State) (i g : Nat) (cs : List Nat) : State := s.ownWrite (stageAddr i g) (packCodes cs)

/-- Every 01 code read as 00 (R223, R231): the image codes. -/
def stripWarm (cs : List Nat) : List Nat := cs.map (fun c => if c = 1 then 0 else c)

/-! Decided lines. -/

/-- The lowest undecided line moved past the lines decided beyond it. -/
def advanceLow : Nat → Nat → List Nat → Nat
  | 0, u, _ => u
  | k + 1, u, d => if d.contains u then advanceLow k (u + 1) d else u

/-- Line `g` of a row decided (R221). -/
def Row.decideLine (r : Row) (g : Nat) : Row :=
  if g < r.undecided ∨ r.decided.contains g then { r with staged := r.staged.filter (·.line ≠ g) }
  else
    let d := g :: r.decided
    let u := advanceLow d.length r.undecided d
    { r with undecided := u, decided := d.filter (fun x => u ≤ x), staged := r.staged.filter (·.line ≠ g) }

/-- Whether line `g` of a row is decided. -/
def Row.isDecided (r : Row) (g : Nat) : Bool := decide (g < r.undecided) || r.decided.contains g

/-- RUN of plane `p` (R133): some row of it runs, enabled or not. -/
def State.planeRun (s : State) (p : Nat) : Bool :=
  (List.range s.nRows).any (fun i => decide (s.rowPlane i = p) && (s.rowAt i).run)

/-- The rows of a plane that are enabled (R103, R159). -/
def State.planeRows (s : State) (p : Nat) : List Nat :=
  (List.range s.nRows).filter (fun i => s.rowEn i && s.rowPlane i = p)

/-- RETIRED_p (R159): the lowest grid line that some enabled row has not decided, never back within a job. A row disabled meanwhile
holds it no longer. -/
def State.retiredNow (s : State) (p : Nat) : Nat :=
  match (s.planeRows p).map (fun i => if (s.rowAt i).live then (s.rowAt i).undecided else 0) with
  | [] => (s.planeAt p).retired
  | a :: l => max (s.planeAt p).retired (l.foldl min a)

/-- RETIRED_p after a decision (R159). -/
def State.retire (s : State) (p : Nat) : State := s.modPlane p (fun x => { x with retired := s.retiredNow p })

end Sys2Proof.Machine
end

