-- ==== Sys2Proof/Machine/ProbePlan.lean ====
section
/-! DEFINITION. Where the probes of a gap stand (R299 to R304): the page layout, the ranges of R301 and the plan of R302. -/
namespace Sys2Proof.Machine

/-! Pages (R147, R148, R609). -/

/-- PAGE_LINES of plane `p` (R183: 0 acts as 1). -/
def State.pageLines (s : State) (p : Nat) : Nat := max 1 (s.fld (R.SCR_PLANE_PAGE p) F.SCR_PLANE_PAGE_PAGE_LINES)

/-- GAP_LINES of plane `p` (R183). -/
def State.gapLines (s : State) (p : Nat) : Nat := s.fld (R.SCR_PLANE_GAP p) F.SCR_PLANE_GAP_GAP_LINES

/-- The grid line of the last image line of a closed stream job (R609). -/
def State.closedAt (s : State) (p : Nat) : Option Nat :=
  match (s.planeAt p).job with
  | some j => if j.stored then none else j.closed
  | none => none

/-- The last image line E of the page whose gap holds grid line `g`, where `g` is a gap line (R148, R609). -/
def State.gapOf (s : State) (p g : Nat) : Option Nat :=
  let pl := s.pageLines p
  let per := pl + s.gapLines p
  match s.closedAt p with
  | some l => if l < g then some l else if g % per < pl then none else some (g / per * per + pl - 1)
  | none => if g % per < pl then none else some (g / per * per + pl - 1)

/-- The last image line of the newest page that ends at grid line `x` or before it (R148, R609). -/
def State.pageEnd (s : State) (p x : Nat) : Option Nat :=
  let pl := s.pageLines p
  let end_ := if x + 1 < pl then none else some ((x + 1 - pl) / (pl + s.gapLines p) * (pl + s.gapLines p) + pl - 1)
  match s.closedAt p with
  | some l => if l ≤ x then some l else end_
  | none => end_

/-- Δ of R301: the row spacing of a head in lines, rounded up. -/
def State.rowSpacing (s : State) (n : Nat) : Nat :=
  let d := (s.org (2 * n + 1) - s.org (2 * n)).natAbs * 65536
  let p := max 1 (min (s.pitch (2 * n)) (s.pitch (2 * n + 1)))
  (d + p - 1) / p

/-- PR_MAX of plane `p` (R318). -/
def State.prMax (s : State) (p : Nat) : Nat := clampN 1 16 (s.fld (R.DGV_PLANE_CFG p) F.DGV_PLANE_CFG_PR_MAX)

/-- The address of the verification record of nozzle `h` of port `n` (R307). -/
def dgvRec (n h : Nat) : Nat := bankN + 0x300000 + (n * 4096 + h) * 4
def State.dgvGet (s : State) (n h : Nat) : Nat := memReadN s.chip (dgvRec n h) 4
def State.dgvPut (s : State) (n h v : Nat) : State := s.chipWrite (dgvRec n h) (leBytes 4 v)

/-- A record written by the drop verification unit, whose accesses are region-checked (R386, R388). -/
def State.dgvStore (s : State) (n h v : Nat) : State := (s.busWrite 3 (dgvRec n h) (leBytes 4 v)).2

/-- Bit RQ of a record (R307). -/
def State.setRq (s : State) (n h : Nat) (v : Bool) : State :=
  s.dgvStore n h (setBits (s.dgvGet n h) 7 1 (if v then 1 else 0))

/-- The range of R301 for row `b` of port `n` in the gap after line `e`: lowest and highest line. -/
def State.probeRange (s : State) (n p b e : Nat) : Int × Int :=
  let gd : Int := s.fld (R.DGV_PLANE_CFG p) F.DGV_PLANE_CFG_GUARD
  let d : Int := s.rowSpacing n
  let g : Int := s.gapLines p
  let leads := if b = 0 then s.org (2 * n) < s.org (2 * n + 1) else s.org (2 * n + 1) < s.org (2 * n)
  if leads then (e + 1 + d + gd, e + g - gd) else (e + 1 + gd, e + g - d - gd)

/-- The probe lines of R302 step 3. -/
def probeLines (b : Nat) (lo hi : Int) (sp : Nat) (k : Nat) : List Nat :=
  let first := if lo % 2 = (b : Int) then lo else lo + 1
  ((List.range k).map (fun j => first + (j * sp : Nat))).filterMap (fun g => if g ≤ hi then some g.toNat else none)

/-- The sweep's nozzles (R302 step 5): up to `k` nozzles of the row from `h` on, below `stop`, for which `ok` holds, and
the position the sweep is left at. -/
def sweepTake (ok : Nat → Bool) (stop : Nat) : Nat → Nat → Nat → List Nat → List Nat × Nat
  | 0, _, h, acc => (acc.reverse, h)
  | fuel + 1, k, h, acc =>
    if k = 0 ∨ stop ≤ h then (acc.reverse, h)
    else if ok h then sweepTake ok stop fuel (k - 1) (h + 1) (h :: acc)
    else sweepTake ok stop fuel k (h + 1) acc

/-- POS after a sweep of row `b` left it at `h` (R303). -/
def State.setPos (s : State) (n b h : Nat) : State :=
  if b = 1 ∧ 2 * s.npr n ≤ h then
    (s.setFld (R.DGV_SWEEP n) F.DGV_SWEEP_POS 0).bump (R.DGV_SWEEP n) F.DGV_SWEEP_PASS
  else s.setFld (R.DGV_SWEEP n) F.DGV_SWEEP_POS h

/-- The plan of port `n` for the gap after line `e` (R302). -/
def State.probePlan (s : State) (n p e : Nat) : State :=
  let npr := s.npr n
  let pos := s.fld (R.DGV_SWEEP n) F.DGV_SWEEP_POS
  let b := if pos < npr then 0 else 1
  let i := 2 * n + b
  let (lo, hi) := s.probeRange n p b e
  let per := max 1 ((s.rowAt i).period / 256)
  let wc := s.fld (R.DGV_WIN n) F.DGV_WIN_WIN_CLOSE
  let sp := 2 * ((wc * 20 + 8000 + 2 * per - 1) / (2 * per))
  let lines := probeLines b lo hi sp (s.prMax p)
  if lines = [] then s.setBit (R.DGV_STAT n) F.DGV_STAT_NO_WINDOW true
  else
    let gen := (s.headPlane n).gen
    let inRow := fun (h : Nat) => decide (b * npr ≤ h) && decide (h < (b + 1) * npr)
    let retry := ((s.portAt n).retryQ.filter inRow).take lines.length
    let s := s.forEach retry (fun s h => s.setRq n h false)
    let s := s.modPort n (fun q => { q with retryQ := q.retryQ.filter (fun h => !retry.contains h) })
    let ok := fun (h : Nat) => s.mayWarm n gen b (h - b * npr) && !retry.contains h
    let (swept, h) := sweepTake ok ((b + 1) * npr) npr (lines.length - retry.length) pos []
    let s := s.setPos n b h
    let plan := ((retry.map (fun h => (h, true))) ++ swept.map (fun h => (h, false))).zip lines
    let probes := plan.map (fun x => { h := x.1.1, line := x.2, retry := x.1.2 : Probe })
    s.modPort n (fun q => { q with plan := q.plan ++ probes })

/-- Whether port `n` probes (R295). -/
def State.probesOn (s : State) (n : Nat) : Bool := s.bit (R.DGV_CFG n) F.DGV_CFG_EN && (s.portAt n).st = .attached

/-- The plan made when the cursor of either row of port `n` first reaches the lower end of a gap's ranges, as it is to compute
line `g` (R295, R300, R302). A gap that finds the port not probing has no plan. -/
def State.probeAt (s : State) (n p g : Nat) : State :=
  let guard_ := s.fld (R.DGV_PLANE_CFG p) F.DGV_PLANE_CFG_GUARD
  let on := s.mode = .print && s.bit (R.DGV_PLANE_CFG p) F.DGV_PLANE_CFG_PR_EN && s.probesOn n
  match if g < 1 + guard_ then none else s.pageEnd p (g - 1 - guard_) with
  | some e =>
    if (match (s.portAt n).planGap with
        | some x => decide (e ≤ x)
        | none => false) then s
    else
      let s := s.modPort n (fun q => { q with planGap := some e })
      if on then s.probePlan n p e else s
  | none => s

/-- The planned probes of row `i` that stand on line `g`. -/
def State.plannedOn (s : State) (i g : Nat) : List Probe :=
  (s.portAt (i / 2)).plan.filter (fun q => decide (q.line = g) && decide (q.h / max 1 (s.npr (i / 2)) = i % 2))

/-- The planned probes of line `g` of row `i` take flight, at its lock point or as it slips (R299, R302, R305): a nozzle that the
generation masks is withdrawn, and so is one whose gate is no longer enabled (R295). -/
def State.launchLine (s : State) (i g : Nat) : State :=
  let n := i / 2
  let mine := s.plannedOn i g
  if mine = [] then s
  else
    let keep := mine.filter (fun q => s.bit (R.DGV_CFG n) F.DGV_CFG_EN &&
      s.mayWarm n ((s.headPlane n).genOf g) (i % 2) (q.h - i % 2 * s.npr n))
    let fly := keep.map (fun q => { q with void := q.void || (s.portAt n).st ≠ .attached })
    s.modPort n (fun p => { p with plan := p.plan.filter (fun q => !mine.contains q), flying := p.flying ++ fly })

/-- The codes of line `g` of row `i` with those of its planned probes taken out where the port does not probe (R295). -/
def State.dropProbes (s : State) (i g : Nat) (codes : List Nat) : List Nat :=
  if s.probesOn (i / 2) then codes
  else (s.plannedOn i g).foldl (fun l q => l.set (q.h - i % 2 * s.npr (i / 2)) 0) codes

end Sys2Proof.Machine
end

