-- ==== Sys2Proof/Machine/Thermal.lean ====
section
/-! DEFINITION. The nozzle thermal model: heat indices, the cursor, warm codes, the squash, and the snapshot (chapter "Nozzle
thermal model, warm codes and head regulation"). -/
namespace Sys2Proof.Machine

/-! Decay and rise (R218). -/

/-- The largest integer whose 1,024th power, times 2^j, does not exceed 131,072^1,024, found bit by bit. -/
def expRoot (j : Nat) : Nat → Nat → Nat
  | 0, acc => acc
  | k + 1, acc => if (acc + 2 ^ k) ^ 1024 * 2 ^ j ≤ 131072 ^ 1024 then expRoot j k (acc + 2 ^ k) else expRoot j k acc

/-- Entry `j` of EXP2TAB: round(65,536 × 2^(-j/1,024)) (R218). -/
def exp2tab (j : Nat) : Nat := (expRoot j 18 0 + 1) / 2

/-- The factor f for `x` half-lives in unsigned 8.16, saturated (R218). -/
def decayFactor (x : Nat) : Nat :=
  let x := min x 0xFFFFFF
  if x / 65536 ≥ 17 then 0 else exp2tab (x % 65536 / 64) / 2 ^ (x / 65536)

/-- The factor of a line period in unsigned 24.8 DT. -/
def periodFactor (p inv : Nat) : Nat := decayFactor (p * inv / 2 ^ 24)

/-- The factor of an elapsed time in whole DT. -/
def timeFactor (d inv : Nat) : Nat := decayFactor (d * inv / 2 ^ 16)

/-- One index decayed (R218). -/
def decay1 (f h : Nat) : Nat := (h * f + 0x8000) / 65536

/-- One index raised (R218). -/
def rise1 (h r : Nat) : Nat := min (h + r) 0xFFFF

/-- A row's indices decayed `k` times. -/
def decayTimes (f : Nat) : Nat → List Nat → List Nat
  | 0, l => l
  | k + 1, l => if l.all (· = 0) then l else decayTimes f k (l.map (decay1 f))

/-! Parameters of the head on a port (R217, R244, R247). -/

def State.tmEn (s : State) (n : Nat) : Bool := s.bit (R.NZP_TH_CFG n) F.NZP_TH_CFG_TM_EN
def State.invHalf (s : State) (n : Nat) : Nat := s.getN (R.NZP_TH_DECAY n)

/-- The rises of codes 00, 01, 10 and 11. -/
def State.rises (s : State) (n : Nat) : List Nat :=
  [0, s.fld (R.NZP_TH_RISEW n) F.NZP_TH_RISEW_RISE_W, s.fld (R.NZP_TH_RISE n) F.NZP_TH_RISE_RISE_S,
   s.fld (R.NZP_TH_RISE n) F.NZP_TH_RISE_RISE_L]

/-- The zone of head column `u` (R225). -/
def State.zoneOf (s : State) (n u : Nat) : Nat := u * s.zonesOf n / max 1 (s.npr n)

/-- WBUD and BG_CAP of every zone of a port (R246). -/
def State.caps (s : State) (n : Nat) : List (Nat × Nat) :=
  (List.range 8).map (fun z => (s.fld (R.NZP_WBUD n z) F.NZP_WBUD_WBUD, s.fld (R.NZP_WBUD n z) F.NZP_WBUD_BG_CAP))

/-- WF(z) in force (R238, R251): 0 for a disabled loop (R237). -/
def State.warmFrac (s : State) (n z : Nat) : Nat :=
  if s.bit (R.DCT_LOOP_CFG n z) F.DCT_LOOP_CFG_EN then s.fld (R.DCT_LOOP_OUT n z) F.DCT_LOOP_OUT_WF else 0

/-! The heat indices in Bank N (R216). -/

def words16 : List Nat → List Nat
  | a :: b :: l => (a + 256 * b) :: words16 l
  | _ => []

/-- Where the speculative indices of row `i` lie. -/
def State.specAddr (s : State) (i : Nat) : Nat := bankN + (i / 2 * 4096 + i % 2 * s.npr (i / 2)) * 2

/-- Where the committed snapshot of row `i` lies. -/
def State.snapAddr (s : State) (i : Nat) : Nat := s.specAddr i + 0x40000

def State.heatGet (s : State) (i a : Nat) : List Nat := words16 (s.ownRead a (2 * s.npr (i / 2)))
def State.heatPut (s : State) (a : Nat) (l : List Nat) : State := s.ownWrite a (l.flatMap (leBytes 2))

/-! Warm codes. -/

/-- One nozzle of the background walk: head column, code, index, and whether it may carry a warm code by R224. -/
structure Warm where
  u : Nat
  c : Nat
  h : Nat
  may : Bool
  deriving DecidableEq, Repr

/-- The background walk of R226 in ascending u, with the zone counts so far: the nozzles, the counts, and the number
refused by a cap. -/
def bgWalk (zone : Nat → Nat) (key : Nat) (wf : List Nat) (caps : List (Nat × Nat)) (rw : Nat) :
    List Warm → List Nat → List Warm × List Nat × Nat
  | [], cnt => ([], cnt, 0)
  | x :: l, cnt =>
    let z := zone x.u
    let want := x.may && decide (x.c = 0) && decide ((x.u * 0x269 + key * 0x185) % 1024 < wf.getD z 0)
    let cap := caps.getD z (0, 0)
    let full := decide (cnt.getD z 0 ≥ cap.2) || decide (cnt.getD z 0 ≥ cap.1)
    let x' := if want && !full then { x with c := 1, h := rise1 x.h rw } else x
    let cnt' := if want && !full then cnt.set z (cnt.getD z 0 + 1) else cnt
    let r := bgWalk zone key wf caps rw l cnt'
    (x' :: r.1, r.2.1, r.2.2 + (if want && full then 1 else 0))

/-- The nozzles of row `b` of port `n` with what R224 allows under generation `gen`. -/
def State.warmList (s : State) (n gen b : Nat) (codes heat : List Nat) : List Warm :=
  let (u0, k) := (s.headMap n gen).used
  let may := List.replicate u0 false ++ (s.rowMasks n gen b u0 k).map (fun m => !m)
  ((List.range codes.length).zip (codes.zip (heat.zip (may ++ List.replicate codes.length false)))).map
    (fun x => { u := x.1, c := x.2.1, h := x.2.2.1, may := x.2.2.2 })

/-- Background warm codes on a row (R226). -/
def State.background (s : State) (n gen b key : Nat) (codes heat : List Nat) : List Warm × List Nat × Nat :=
  bgWalk (s.zoneOf n) key ((List.range 8).map (s.warmFrac n)) (s.caps n)
    ((s.rises n).getD 1 0) (s.warmList n gen b codes heat) (List.replicate 8 0)

/-- Change of the staged record of one line. -/
def Row.modStaged (r : Row) (g : Nat) (f : Staged → Staged) : Row :=
  { r with staged := r.staged.map (fun x => if x.line = g then f x else x) }

def Row.stagedAt (r : Row) (g : Nat) : Option Staged := r.staged.find? (·.line = g)

/-- A look-ahead miss (R227). -/
def State.wmiss (s : State) (n : Nat) : State :=
  (s.bumpW (R.NZP_CNT_WMISS n)).setBit (R.NZP_TH_STAT n) F.NZP_TH_STAT_WMISS true

/-- The look-ahead insertions for nozzle `u` of row `i` about to fire on line `g` (R227); the result is the index before
the rise of line `g`. `left` is WARM_MAX less the codes inserted. -/
def State.insertWarm (s : State) (i u : Nat) (f2 thr : Nat) : Nat → Int → Nat → Nat → State × Nat
  | 0, _, _, h => (s, h)
  | left + 1, gw, add, h =>
    let n := i / 2
    if h ≥ thr then (s, h)
    else if gw < 0 ∨ (s.rowAt i).isDecided gw.toNat then (s.wmiss n, h)
    else
      let g := gw.toNat
      match (s.rowAt i).stagedAt g with
      | none => (s.wmiss n, h)
      | some st =>
        let z := s.zoneOf n u
        let cap := ((s.caps n).getD z (0, 0)).1
        let byte := stageAddr i g + u / 4
        let old := ofLe (s.ownRead byte 1)
        if !s.mayWarm n ((s.headPlane n).genOf g) (i % 2) u then (s, h)
        else if bits old (2 * (u % 4)) 2 ≠ 0 then (s, h)
        else if st.warmCnt.getD z 0 ≥ cap then (s.bumpW (R.NZP_CNT_WBUD n), h)
        else
          let add := (add * f2 + 0x8000) / 65536
          let s := s.ownWrite byte [setBits old (2 * (u % 4)) 2 1]
          let s := s.modRow i (fun r => r.modStaged g (fun x => { x with
            warmCnt := x.warmCnt.set z (x.warmCnt.getD z 0 + 1) }))
          State.insertWarm s i u f2 thr left (gw - 2) add (rise1 h add)

/-- The rises of line `g`'s image codes, each after its look-ahead (R220 step 3, R227): the indices of the row. -/
def State.riseRow (s : State) (i : Nat) (la : Bool) (f2 thr wmax : Nat) (rise : List Nat) (g0 : Int) :
    List (Nat × Nat × Nat) → State × List Nat
  | [] => (s, [])
  | (u, c, h) :: l =>
    let r := if la ∧ c ≥ 2 then s.insertWarm i u f2 thr wmax g0 (rise.getD 1 0) h else (s, h)
    let rest := State.riseRow r.1 i la f2 thr wmax rise g0 l
    (rest.1, (if c ≥ 2 then rise1 r.2 (rise.getD c 0) else r.2) :: rest.2)

/-! The squash (R228 to R233). -/

/-- The tick in which device time lies. -/
def State.tickNow (s : State) : Nat := s.now / 8000

/-- The speculative index taken from the snapshot, and the cursor back at the first undecided line, from the line after
the snapshot's (R231 step 3, R232). -/
def State.restartRow (s : State) (i : Nat) : State :=
  let s := if s.tmEn (i / 2) then s.heatPut (s.specAddr i) (s.heatGet i (s.snapAddr i)) else s
  s.modRow i (fun r => { r with cursor := min r.snapNext r.undecided })

/-- Row `i` squashed now (R231). `redo` names the lines whose image codes are recomputed; `pobs` is P_obs where the speed
test squashes. -/
def State.squash (s : State) (i : Nat) (redo : Nat → Bool) (pobs : Option Nat) : State :=
  let k := s.tickNow
  let r := s.rowAt i
  let n := i / 2
  let tm := s.tmEn n
  let s := if r.sqTick = some k then s else (s.bumpW (R.NZP_CNT_SQUASH n)).count (cPort n 10)
  let s := { s with squashLow := some (min i (s.squashLow.getD i)) }
  let here := fun (g : Nat) => r.queue.any (fun e => e.kind = .line && e.line = g && decide (e.ts ≤ s.now + 16000))
  let s := s.forEach (r.staged.filter (fun x => !here x.line)) (fun s x =>
    if x.imgOk then s.stagePut i x.line (stripWarm (s.stageGet i x.line)) else s)
  let s := s.modRow i (fun r => { r with
    pspec := match pobs with
      | some p => p
      | none => if r.sqSpeed = some k then r.pspec else r.period
    sqTick := some k, sqSpeed := if pobs.isSome then some k else r.sqSpeed
    staged := r.staged.map (fun x =>
      if here x.line then x
      else { x with
        imgOk := x.imgOk && !redo x.line
        warmOk := x.warmOk && !tm && !redo x.line, warmCnt := List.replicate 8 0 }) })
  s.restartRow i

/-- An OPU squash for line `g` of port `n` (R230): each row that holds the line staged. -/
def State.squashOpu (s : State) (n g : Nat) : State :=
  s.forEach [natRow n g, parRow n g] (fun s i =>
    if ((s.rowAt i).stagedAt g).isSome then s.squash i (fun x => x = g) none else s)

/-! The cursor (R220). -/

/-- The first line from `g` on that row `r` has not decided. -/
def Row.skipTo (r : Row) (g : Nat) : Nat := advanceLow r.decided.length (max g r.undecided) r.decided

/-- The lines the cursor walks as decay only (R231 step 4, R221). -/
def State.cursorSkip (s : State) (i : Nat) : State :=
  let r := s.rowAt i
  let c := r.skipTo r.cursor
  let s := if s.tmEn (i / 2) ∧ r.cursor < c then
      s.heatPut (s.specAddr i)
        (decayTimes (periodFactor r.pspec (s.invHalf (i / 2))) (c - r.cursor) (s.heatGet i (s.specAddr i)))
    else s
  s.modRow i (fun r => { r with cursor := c })

/-- Whether the cursor of row `i` may compute its next line (R220). -/
def State.cursorMay (s : State) (i : Nat) : Bool :=
  let r := s.rowAt i
  let p := s.rowPlane i
  r.live && decide (r.cursor ≤ r.undecided + 63) && decide (r.cursor < (s.planeAt p).done) &&
    decide (r.cursor ≤ s.endLine p) && (s.planeAt p).job.isSome

/-- Insert a staged record in line order. -/
def putStaged (x : Staged) : List Staged → List Staged
  | [] => [x]
  | y :: l => if x.line < y.line then x :: y :: l else if x.line = y.line then x :: l else y :: putStaged x l

/-- The image codes of line `g` of row `i` computed (R220 step 1, R204): the row's own codes, and, where a native
computation finds OPU(g) changed, the partner's off-parity codes as well (R610). Whether OPU(g) changed, and the state. -/
def State.imageCodes (s : State) (i g : Nat) : Bool × State :=
  let n := i / 2
  let native := decide (g % 2 = i % 2)
  let (chg, s) := s.opuEval n g
  let out := s.lineCodes n g
  let counts := native || !s.rowEn (natRow n g)
  let s := s.stagePut i g (if native then out.nat else out.off)
  let s := s.modRow i (fun r => { r with
    staged := putStaged { line := g, imgOk := true, ev := if counts then out.ev else [] } r.staged })
  let j := parRow n g
  let s := if chg ∧ native ∧ ((s.rowAt j).stagedAt g).isSome then
      (s.stagePut j g out.off).modRow j (fun r => r.modStaged g (fun x => { x with imgOk := true, warmOk := false }))
    else s
  (chg, s)

/-- The squash that follows a computation of line `g` on row `i` which changed OPU(g) (R230, R610): of the partner row where
the line is native to row `i`, of both rows otherwise. -/
def State.opuSquash (s : State) (i g : Nat) : State :=
  let n := i / 2
  if g % 2 = i % 2 then
    if ((s.rowAt (parRow n g)).stagedAt g).isSome then s.squash (parRow n g) (fun _ => false) none else s
  else
    let s := if ((s.rowAt (natRow n g)).stagedAt g).isSome then s.squash (natRow n g) (fun x => x = g) none else s
    s.squash i (fun _ => false) none

/-- Steps 2 and 3 of R220 on line `g` of row `i`: decay, background, look-ahead and rise. -/
def State.heatLine (s : State) (i g : Nat) : State :=
  let n := i / 2
  let native := decide (g % 2 = i % 2)
  let f := periodFactor (s.rowAt i).pspec (s.invHalf n)
  let rise := s.rises n
  let codes := s.stageGet i g
  let heat := (s.heatGet i (s.specAddr i)).map (decay1 f)
  let gen := (s.headPlane n).genOf g
  let (ws, cnt, refused) :=
    if native ∧ s.bit (R.NZP_TH_CFG n) F.NZP_TH_CFG_BG_EN then s.background n gen (i % 2) (g / 2) codes heat
    else ((codes.zip heat).map (fun x => { u := 0, c := x.1, h := x.2, may := false }), List.replicate 8 0, 0)
  let s := s.bumpW (R.NZP_CNT_WBUD n) refused
  let s := s.stagePut i g (ws.map (·.c))
  let s := s.modRow i (fun r => r.modStaged g (fun x => { x with warmCnt := cnt }))
  let la := s.bit (R.NZP_TH_CFG n) F.NZP_TH_CFG_LA_EN
  let g0 : Int := (g : Int) - 2 + (if native then 0 else 1)
  let (s, heat) := s.riseRow i la (f * f / 65536) (s.fld (R.NZP_TH_CFG n) F.NZP_TH_CFG_WARM_THR)
    (s.fld (R.NZP_TH_CFG n) F.NZP_TH_CFG_WARM_MAX) rise g0
    ((List.range ws.length).zip (ws.map (fun w => (w.c, w.h))))
  s.heatPut (s.specAddr i) heat

/-- Step 2 of R220 alone: the row's indices one line on. -/
def State.decayLine (s : State) (i : Nat) : State :=
  let f := periodFactor (s.rowAt i).pspec (s.invHalf (i / 2))
  if s.tmEn (i / 2) then s.heatPut (s.specAddr i) ((s.heatGet i (s.specAddr i)).map (decay1 f)) else s

/-- OPU of the line the native row computed last (R214). -/
def State.opuShow (s : State) (i g : Nat) : State :=
  if g % 2 = i % 2 then s.setBit (R.NZP_HEAD_STAT (i / 2)) F.NZP_HEAD_STAT_OPU (s.opuGet (i / 2) g) else s

/-- The cursor of row `i` computes its next line (R220). `bad` is an uncorrectable error newly met in the code line in DRAM
(R395); a word found so before is one still. `ecc` are the errors its reads of Banks N and L and of DRAM meet (R393, R394). -/
def State.cursorLine (s : State) (i : Nat) (bad : Bool) (ecc : EccIn) : State :=
  let s := s.cursorSkip i
  if !s.cursorMay i then s
  else
    let n := i / 2
    let g := (s.rowAt i).cursor
    let s := s.probeAt n (s.rowPlane i) g
    let native := decide (g % 2 = i % 2)
    let fresh : Bool := match (s.rowAt i).stagedAt g with
      | some x => !x.imgOk || (native && s.opuStale n g)
      | none => true
    let a := s.codeAddr (s.rowPlane i) g
    let word := match s.dramFaulty a (codesSize (s.width (s.rowPlane i)) + doubleSize (s.width (s.rowPlane i))) with
      | some w => some w
      | none => if bad then some (a / 8) else none
    let s := ((s.ownTouch (s.specAddr i)).ownTouch (stageAddr i g)).eccMeet [1, 2, 6] ecc
    if word.isSome && fresh then
      let s := (s.eccUncorr 6 (word.getD 0)).stagePut i g (List.replicate (s.npr n) 0)
      (s.decayLine i).modRow i (fun r => { r with
        staged := putStaged { line := g, warmCnt := List.replicate 8 0 } r.staged, cursor := g + 1 })
    else
      let (chg, s) := if fresh then s.imageCodes i g else (false, s)
      let s := s.opuShow i g
      let s := if s.tmEn n then s.heatLine i g
        else s.modRow i (fun r => r.modStaged g (fun x => { x with warmCnt := List.replicate 8 0 }))
      let s := s.modRow i (fun r => { (r.modStaged g (fun x => { x with warmOk := true, atDt := s.now })) with
        cursor := g + 1 })
      if chg then s.opuSquash i g else s

/-! Decisions (R221, R222, R235). -/

/-- The snapshot of row `i` advanced to an entry's TS by the codes it is decided with (R222, R219). -/
def State.snapAdvance (s : State) (i ts : Nat) (codes : List Nat) : State :=
  let n := i / 2
  let d := min (2 ^ 40 - 1) (ts - (s.rowAt i).tS)
  let s := if s.tmEn n then
      let f := timeFactor d (s.invHalf n)
      let rise := s.rises n
      let h := (s.heatGet i (s.snapAddr i)).map (decay1 f)
      let cs := codes ++ List.replicate h.length 0
      s.heatPut (s.snapAddr i) ((h.zip cs).map (fun x => rise1 x.1 (rise.getD x.2 0)))
    else s
  s.modRow i (fun r => { r with tS := ts, decTick := some s.tickNow })

/-- Line `g` of row `i` decided with codes at a lock point (R221, R232): RETIRED_p follows, and a cursor that the lock point
overtook restarts. -/
def State.decidedAt (s : State) (i g : Nat) : State :=
  let behind := (s.rowAt i).cursor ≤ g
  let s := s.modRow i (fun r => { (r.decideLine g) with
    snapNext := max r.snapNext (g + 1), high := some (max g (r.high.getD 0)) })
  let s := s.retire (s.rowPlane i)
  if behind then s.restartRow i else s

/-- SHARE substitutes and DOUBLE drops of line `g` that the partner row will not fire (R202). -/
def State.shareLost (s : State) (n g : Nat) : State :=
  let k := if g < (s.headPlane n).done then ((s.lineCodes n g).off.filter (· ≠ 0)).length else 0
  if k = 0 then s
  else (s.bumpW (R.NZP_CNT_SHARE_LOST n) k).setBit (R.NZP_HEAD_STAT n) F.NZP_HEAD_STAT_SHARE_LOST true

/-- The events of row `i`'s computation of line `g`, final now that the line is decided (R207). -/
def State.settleEvents (s : State) (i g : Nat) : State :=
  match (s.rowAt i).stagedAt g with
  | some x => if x.imgOk then s.countEvents (i / 2) x.ev else s
  | none => s

/-- Ductus steps over off-parity line `g` of row `i` (R112, R201, R202, R221). -/
def State.stepOver (s : State) (i g : Nat) : State :=
  let n := i / 2
  let frozen := match s.opuRec n g with
    | some o => o.frozen
    | none => false
  let s :=
    if frozen then (if s.opuGet n g then s.shareLost n g else s)
    else
      let (chg, s) := s.opuFreeze n g false
      if chg then s.squashOpu n g else s
  let s := if s.rowEn (natRow n g) then s.settleEvents i g
    else if g < (s.headPlane n).done then s.countEvents n (s.lineCodes n g).ev else s
  let s := s.modRow i (fun r => r.decideLine g)
  s.retire (s.rowPlane i)

/-- Line `g` of row `i` slips (R111, R221): decided with no codes; a native line freezes OPU(g). -/
def State.slipLine (s : State) (i g : Nat) : State :=
  let s := if g % 2 = i % 2 then s.opuHold (i / 2) g else s
  let s := s.settleEvents i g
  let s := s.modRow i (fun r => { (r.decideLine g) with high := some (max g (r.high.getD 0)) })
  s.retire (s.rowPlane i)

/-- The codes of an idle-warm entry at its lock point (R235), and the idle-warm counter moved on. A row without TM_EN receives no
warm codes (R219). -/
def State.idleWarmCodes (s : State) (i : Nat) : State × List Nat :=
  let n := i / 2
  let npr := s.npr n
  let z := List.replicate npr 0
  let (ws, _, refused) := s.background n (s.headPlane n).gen (i % 2) (s.rowAt i).iwCnt z z
  let s' := s.modRow i (fun r => { r with iwCnt := (r.iwCnt + 1) % 65536 })
  if s.tmEn n then (s'.bumpW (R.NZP_CNT_WBUD n) refused, ws.map (·.c)) else (s', z)

/-- The speed test of R229 on row `i`, at T_k + 6,400. -/
def State.speedTest (s : State) (i : Nat) : State :=
  let s := s.advTo (s.tick.getD 0 * 8000 + 6400)
  let r := s.rowAt i
  let tol := s.fld R.NZP_SQ_CFG F.NZP_SQ_CFG_SQ_TOL
  let far := decide (((r.period : Int) - r.pspec).natAbs * 10000 > tol * r.pspec)
  if s.bit R.NZP_SQ_CFG F.NZP_SQ_CFG_SQ_EN ∧ r.period ≠ 0xFFFFFFFF ∧ far ∧ s.tmEn (i / 2) then
    s.squash i (fun _ => false) (some r.period)
  else s

end Sys2Proof.Machine
end

