-- ==== Sys2Proof/Machine/Maps.lean ====
section
/-! DEFINITION. Map commits and generations (R191 to R198). -/
namespace Sys2Proof.Machine

/-- The effective mask of R191 from its four sources. -/
def effMask (hset rec_ dgv hclr : Bool) : Bool := hset || ((rec_ || dgv) && !hclr)

/-- `k` bytes of bits packed eight to a byte, lowest first; missing bits are 0. -/
def packBits : Nat → List Bool → List Nat
  | 0, _ => []
  | k + 1, l =>
    ((l.take 8).zip (List.range 8)).foldl (fun a x => a + (if x.1 then 2 ^ x.2 else 0)) 0 :: packBits k (l.drop 8)

/-- The effective masks of every nozzle of port `n` (R191). -/
def State.evalMasks (s : State) (n : Nat) : List Bool :=
  let k := 2 * s.nprSet n
  let src := fun (base : Nat) => s.chipBits base (n * 4096) k
  ((src maskHset).zip ((src maskRec).zip ((src maskDgv).zip (src maskHclr)))).map
    (fun x => effMask x.1 x.2.1 x.2.2.1 x.2.2.2)

/-- The map registers of port `n` as they stand (R212, R213). -/
def State.mapRegs (s : State) (n : Nat) : HeadMap :=
  { en := s.bit (R.NZP_MAP_CFG n) F.NZP_MAP_CFG_EN, rev := s.bit (R.NZP_MAP_CFG n) F.NZP_MAP_CFG_REV
    policy := s.fld (R.NZP_MAP_CFG n) F.NZP_MAP_CFG_POLICY, npr := s.nprSet n
    uofs := s.fld (R.NZP_MAP_CFG n) F.NZP_MAP_CFG_UOFS, col0 := s.fld (R.NZP_MAP_COL n) F.NZP_MAP_COL_COL0
    ncol := s.fld (R.NZP_MAP_COL n) F.NZP_MAP_COL_NCOL }

/-- Whether plane `p` has an unserved column under generation `gen` (R187). -/
def State.unserved (s : State) (p : Nat) : Bool :=
  let gen := (s.planeAt p).gen
  let spans := ((s.portsOf p).map (fun n => s.headMap n gen)).filterMap (fun m =>
    if m.en ∧ m.ncol ≠ 0 then some (m.col0, m.col0 + m.ncol) else none)
  let sorted := spans.mergeSort (fun a b => a.1 ≤ b.1)
  let reach := sorted.foldl (fun pos x => if x.1 ≤ pos then max pos x.2 else pos) 0
  decide (reach < s.width p)

/-- COMMIT of plane `p` requested (R193, R197, R210). -/
def State.nzpCommit (s : State) (p : Nat) : State :=
  let pl := s.planeAt p
  if pl.pending then s
  else if pl.oldLive then
    (s.setBit (R.NZP_PLANE_CTL p) F.NZP_PLANE_CTL_COMMIT false).modPlane p (fun x => { x with pending := true })
  else s.setBit (R.NZP_PLANE_CTL p) F.NZP_PLANE_CTL_COMMIT true

/-- The rows of a plane that rule lines (R194): enabled, with RUN = 1. -/
def State.runRows (s : State) (p : Nat) : List Nat := (s.planeRows p).filter (fun i => (s.rowAt i).run)

/-- L_p at acceptance (R194). -/
def State.effLine (s : State) (p : Nat) : Nat :=
  let rows := s.runRows p
  if rows = [] then 0
  else
    let high := rows.map (fun i =>
      let r := s.rowAt i
      let q := (r.queue.filter (fun e => decide (e.kind = .line))).map (fun e => e.line + 1)
      let h := match r.high with
        | some g => g + 1
        | none => 0
      q.foldl max h)
    let f := high.foldl max 0
    let pmin := max 1 ((rows.map (fun i => (s.rowAt i).period / 256)).foldl min 0x1000000)
    f + (80000 + pmin - 1) / pmin

/-- One head of a plane whose commit is accepted into generation `gen` (R193, R198, R304). -/
def State.acceptHead (s : State) (gen n : Nat) : State :=
  let masks := s.evalMasks n
  let old := s.chipBits (maskGen (1 - gen)) (n * 4096) masks.length
  let m := s.mapRegs n
  let s := s.ownTouch (maskHset + n * 512)
  let s := s.ownWrite (maskGen gen + n * 512) (packBits 512 masks)
  let s := s.modPort n (fun p => { p with maps := p.maps.set gen m })
  let s := s.setFld (R.NZP_HEAD_STAT n) F.NZP_HEAD_STAT_MASKED (masks.filter (· = true)).length
  let gone := (s.portAt n).retryQ.filter (fun h => masks.getD h false)
  let s := s.forEach gone (fun s h => s.setRq n h false)
  let s := s.modPort n (fun p => { p with retryQ := p.retryQ.filter (fun h => !masks.getD h false) })
  if (masks.zip old).any (fun x => x.1 && !x.2) then
    (s.raiseCount 0x2004 n (cPort n 7)).setBit (R.NZP_HEAD_STAT n) F.NZP_HEAD_STAT_NEW_MASK true
  else s

/-- A new generation of plane `p` (R193 to R198): its L_p and the squash of R196. Commands that wait for it have their waits
updated; what they complete with stands in Waits. -/
def State.newGen (s : State) (p : Nat) : State :=
  let pl := s.planeAt p
  let gen := 1 - pl.gen
  let lp := s.effLine p
  let run := s.runRows p ≠ []
  let s := s.setBit (R.NZP_PLANE_CTL p) F.NZP_PLANE_CTL_COMMIT false
  let s := s.forEach (s.portsOf p) (fun s n => s.acceptHead gen n)
  let s := s.modPlane p (fun x => { x with
    gen := gen, lp := lp, oldLive := run && decide (s.retiredNow p < lp), pending := false })
  let s := s.set64 (R.NZP_PLANE_EFF_LO p) (R.NZP_PLANE_EFF_HI p) lp
  let s := s.forEach ((s.planeRows p).filter (fun i => (s.rowAt i).live))
    (fun s i => s.squash i (fun g => lp ≤ g) none)
  s.mapWaits (fun w => match w with
    | .commits ps l => if ps.contains p then .commits (ps.filter (· ≠ p)) (max l lp) else w
    | .attach n c t => if (s.portAt n).plane = some p then .attach n false t else .attach n c t
    | .detach n wb c => if (s.portAt n).plane = some p then .detach n wb false else .detach n wb c
    | w => w)

/-- A commit of plane `p` accepted (R193); one that is PENDING waits for its tick boundary (R197). -/
def State.mapAccept (s : State) (p : Nat) : State :=
  if s.bit (R.NZP_PLANE_CTL p) F.NZP_PLANE_CTL_COMMIT then s.newGen p else s

/-- The tick boundary for plane `p` (R197): a PENDING commit is accepted at the first one after OLD_LIVE has cleared. -/
def State.pendingAccept (s : State) (p : Nat) : State :=
  if (s.planeAt p).pending ∧ !(s.planeAt p).oldLive then s.newGen p else s

/-- The previous generation of plane `p` released at a tick boundary (R197). -/
def State.oldLiveRelease (s : State) (p : Nat) : State :=
  let pl := s.planeAt p
  let rows := s.planeRows p
  let idle := s.runRows p = [] && rows.all (fun i =>
    !(s.rowAt i).queue.any (fun e => e.kind = .line && decide (e.line < pl.lp)))
  if pl.oldLive ∧ (pl.lp ≤ s.retiredNow p ∨ idle) then s.modPlane p (fun x => { x with oldLive := false }) else s

end Sys2Proof.Machine
end

