-- ==== Sys2Proof/Machine/Ductus.lean ====
section
/-! DEFINITION. Ruling and Ductus: line grids, flight time, scheduling, overspeed, SHARE_OK and the entries of the timestamp
queues (chapter "Ruling and fire timing", with R234, R314 and R467). -/
namespace Sys2Proof.Machine

/-- What a position source publishes for a row (R81, R108): x, v, a, EMIT and, in COAST, the coast limit; SRC 5 to 7 name none.
The limit acts at the entry to FAULT (R82, trackStop). -/
structure Pub where
  x : BitVec 80
  v : Int
  a : Int
  emit : Bool
  limit : Option (BitVec 80)
  deriving DecidableEq, Repr

def State.pub (s : State) (src : Nat) : Option Pub :=
  if src < 4 then
    let e := s.encAt src
    some { x := e.x, v := e.v, a := e.a, emit := e.emit
           limit := if e.st = .coast then some (e.coastAt + coastLen (s.getN (R.ENC_COAST_LEN src))) else none }
  else if src = 4 then
    some { x := s.copy.x, v := s.copy.v, a := s.copy.a, emit := s.copy.emit
           limit := if s.copy.st = .coast then some s.copy.limit else none }
  else none

/-- The line period in unsigned 24.8 DT (R116). -/
def linePeriod (pitch : Nat) (v : Int) : Nat :=
  if v ≤ 0 then 0xFFFFFFFF
  else min 0xFFFFFFFE (divNearFree 5 (pitch * 8000 * 256 : Nat) (v * 2 ^ 20)).toNat

/-- The flight target in unsigned 24.8 DT (R105). -/
def State.flightTarget (s : State) (i : Nat) : Nat :=
  let vel := max (s.getN (R.DCT_ROW_VEL i)) 0x10000
  min 0xFFFFFFFF (s.getN (R.DCT_PLANE_THROW (s.rowPlane i)) * 512000 / vel)

/-- The applied flight time one tick on (R106). -/
def flightStep (run : Bool) (cur target : Nat) : Nat :=
  if !run then target else if target < cur then cur - min 2048 (cur - target) else cur + min 2048 (target - cur)

/-- SHARE_OK and its count one tick on (R112); setting it is SHARE_OK_SET's. -/
def State.shareStep (s : State) (i : Nat) : State :=
  let set_ := s.fld R.DCT_SHARE_CFG F.DCT_SHARE_CFG_SET_MARGIN
  let clr := min (s.fld R.DCT_SHARE_CFG F.DCT_SHARE_CFG_CLR_MARGIN) set_
  let hold := s.fld R.DCT_SHARE_CFG F.DCT_SHARE_CFG_SET_HOLD
  let t := s.tMin i * 256
  s.modRow i (fun r =>
    if r.period = 0xFFFFFFFF then r
    else if r.period * 64 < t * (64 + clr) then { r with share := false, shareCnt := 0 }
    else if r.period * 64 ≥ t * (64 + set_) then { r with shareCnt := min (max 1 hold) (r.shareCnt + 1) }
    else { r with shareCnt := 0 })

/-- SHARE_OK sets once the count has reached SET_HOLD (R112). -/
def State.shareSet (s : State) (i : Nat) : State :=
  if (s.rowAt i).shareCnt ≥ max 1 (s.fld R.DCT_SHARE_CFG F.DCT_SHARE_CFG_SET_HOLD) then
    s.modRow i (fun r => { r with share := true })
  else s

/-- An entry written to a row's section (R117). -/
def State.writeEntry (s : State) (i : Nat) (e : Entry) : State :=
  s.modRow i (fun r => { r with queue := r.queue ++ [e], lastEntry := some e.ts })

/-- A quotient truncated towards zero (R109). -/
def tdiv (n d : Int) : Int := Int.tdiv n d

/-- The first strobe edge of the row's next line in tick `k` (R109); none where it lies beyond any horizon. -/
def lineTs (k : Nat) (p : Pub) (gpos flight lead : Nat) : Option Int :=
  let d := ((BitVec.ofNat 80 ((gpos + 2 ^ 15) / 2 ^ 16)) - p.x).toInt
  let tau0 := d * 2 ^ 28 / p.v
  if d > 0 ∧ tau0 ≥ 2 ^ 64 then none
  else
    let corr := tdiv (p.a * (tau0 * tau0 / 2 ^ 32)) (p.v * 2 ^ 13)
    let tau := if d ≤ 0 then 0 else tau0 - corr
    let ta : Int := (k * 8000 : Nat) * 2 ^ 32 + tau * 8000
    some ((ta - (flight : Int) * 2 ^ 24 - (lead : Int) * 2 ^ 32 + 2 ^ 31) / 2 ^ 32)

/-- Whether a section already holds an entry at `ts` or later, so that none may be written at `ts` (R117). -/
def Row.holdsFrom (r : Row) (ts : Nat) : Bool := r.queue.any (fun e => decide (ts ≤ e.ts))

/-- One line of row `i` at time `ts` in tick `k`: stepped over, slipped, or written (R111 to R114). A line whose ts is not above
that of every entry of its section slips: DESIGN CHOICE, log entry 71. -/
def State.ruleLine (s : State) (i k : Nat) (ts : Int) : State :=
  let r := s.rowAt i
  let g := r.g
  let offpar := decide (g % 2 ≠ i % 2)
  let tmin := s.tMin i
  if offpar ∧ !r.share then s.stepOver i g
  else if ts < (k * 8000 + 22400 : Nat) ∨ r.holdsFrom ts.toNat then
    let cause := if r.period * 2 < s.tMin i * 256 then 2 else 1
    let s := (s.setBit (R.DCT_ROW_STAT i) F.DCT_ROW_STAT_SLIP true).blank i cause
    ((s.slipLine i g).launchLine i g).voidLine (i / 2) g 0
  else
    let t := ts.toNat
    let ovs := match r.tLast with
      | some l => decide (t < l + tmin)
      | none => false
    let first := ovs && (match r.ovsTick with
      | some j => decide (k > j + 250)
      | none => true)
    let s := if first then (s.raiseAt (k * 8000) 0x1002 i).setBit (R.DCT_ROW_STAT i) F.DCT_ROW_STAT_OVS_SEEN true else s
    let s := s.modRow i (fun r => { r with
      tLast := if ovs then r.tLast else some t, ovsTick := if ovs then some k else r.ovsTick
      ovs := if offpar then r.ovs else ovs })
    s.writeEntry i { ts := t, line := g, lead := s.fld (R.DCT_ROW_LEAD i) F.DCT_ROW_LEAD_LEAD, offpar := offpar, ovs := ovs
                     epoch := (s.planeAt (s.rowPlane i)).epoch }

/-- Up to `left` lines of row `i` in tick `k` (R109, R110); RUN clears after END(p) (R103). -/
def State.ruleLines (s : State) (i k : Nat) (p : Pub) : Nat → State
  | 0 => s
  | left + 1 =>
    let r := s.rowAt i
    if s.endLine (s.rowPlane i) < r.g then s.modRow i (fun r => { r with run := false })
    else
      match lineTs k p r.gpos r.flight (s.fld (R.DCT_ROW_LEAD i) F.DCT_ROW_LEAD_LEAD) with
      | none => s
      | some ts =>
        if ts ≥ (k * 8000 + 32000 : Nat) then s
        else
          let pitch := s.pitch i
          let s := s.ruleLine i k ts
          let s := s.modRow i (fun r => { r with g := r.g + 1, gpos := (r.gpos + pitch) % 2 ^ 96 })
          let s := if s.endLine (s.rowPlane i) < (s.rowAt i).g then s.modRow i (fun r => { r with run := false }) else s
          if (s.rowAt i).run then State.ruleLines s i k p left else s

/-- Whether SERVICE has work for plane `p` (R108): a head of it spits or sweeps. -/
def State.serviceWork (s : State) (p : Nat) : Bool :=
  (s.portsOf p).any (fun n => (s.portAt n).spit.isSome || (s.portAt n).sweep.isSome)

/-- An idle-warm entry of row `i` in tick `k` (R234, R496). -/
def State.idleWarmEntry (s : State) (i k : Nat) : State :=
  let n := i / 2
  let p := s.rowPlane i
  let on := s.bit (R.NZP_TH_CFG n) F.NZP_TH_CFG_IW_EN && s.tmEn n && s.rowEn i && !s.planeRun p &&
    (s.portAt n).plane.isSome && !s.bit (R.DCT_PLANE_CTL p) F.DCT_PLANE_CTL_ARM
  let mode := s.mode = .config || s.mode = .print || s.mode = .service || (s.mode = .idle && decide (s.pw.sub ≤ 1))
  let int := max 8 (s.fld (R.NZP_TH_CFG n) F.NZP_TH_CFG_IW_INT)
  let ts := (k + 3) * 8000 + 6000
  let gap : Bool := match (s.rowAt i).lastEntry with
    | some t => decide (t + 40000 ≤ ts)
    | none => true
  if on ∧ mode ∧ (k + 3) % int = 0 ∧ gap ∧ !(s.rowAt i).holdsFrom ts ∧ !s.bit R.CHN_STAT F.CHN_STAT_STEP_DUE then
    s.writeEntry i { ts := ts, line := 2 ^ 48 - 1, lead := s.fld (R.DCT_ROW_LEAD i) F.DCT_ROW_LEAD_LEAD, kind := .idleWarm }
  else s

/-- The Ruling item of row `i` in tick `k` (R105 to R116, R234). -/
def State.rowTick (s : State) (i k : Nat) : State :=
  let src := s.pub (s.rowSrc i)
  let v := (src.map (·.v)).getD 0
  let target := s.flightTarget i
  let per := linePeriod (s.pitch i) v
  let s := s.modRow i (fun r => { r with
    period := per, flight := flightStep r.run r.flight target })
  let s := s.shareStep i
  let p := s.rowPlane i
  let modeOk := s.mode = .print || (s.mode = .service && s.serviceWork p)
  let s := match src with
    | some q => if (s.rowAt i).run ∧ s.rowEn i ∧ modeOk ∧ q.emit ∧ q.v > 0 then s.ruleLines i k q 4 else s
    | none => s
  s.idleWarmEntry i k

/-! Plane control (R103). -/

/-- Row `i` loaded at the tick boundary after ARM (R101, R103, R106, R114, R127, R228). -/
def State.loadRow (s : State) (i : Nat) : State :=
  let flight := s.flightTarget i
  let gpos := s.gridPos i 0
  let s := s.modRow i (fun r => { r with
    run := true, live := true, g := 0, gpos := gpos, flight := flight, ovsTick := none, lateArm := true
    undecided := 0, decided := [], staged := [], cursor := 0, snapNext := 0, high := none, pspec := r.period })
  let s := s.modPort (i / 2) (fun p => { p with opu := [], planGap := none, plan := [] })
  s.restartRow i

/-- ARM and HALT of plane `p` at a tick boundary (R103, R133): HALT takes precedence. A planned probe whose line the row will not
rule any more is withdrawn. -/
def State.planeBoundary (s : State) (p : Nat) : State :=
  let halt := s.bit (R.DCT_PLANE_CTL p) F.DCT_PLANE_CTL_HALT
  let arm := s.bit (R.DCT_PLANE_CTL p) F.DCT_PLANE_CTL_ARM
  let s := (s.setBit (R.DCT_PLANE_CTL p) F.DCT_PLANE_CTL_HALT false).setBit (R.DCT_PLANE_CTL p) F.DCT_PLANE_CTL_ARM false
  if halt then
    let rows := (List.range s.nRows).filter (fun i => s.rowPlane i = p)
    s.forEach rows (fun s i =>
      let q := (s.rowAt i).queue
      (s.modRow i (fun r => { r with run := false })).modPort (i / 2) (fun x => { x with
        plan := x.plan.filter (fun y => decide (y.h / max 1 (s.npr (i / 2)) ≠ i % 2) || q.any (fun e => e.line = y.line)) }))
  else if arm then s.forEach (s.planeRows p) (fun s i => s.loadRow i)
  else s

/-! Service entries (R314, R315, R467). -/

/-- The interval of a sweep in ticks (R314). -/
def State.sweepInt (s : State) (n : Nat) : Nat :=
  let wc := s.fld (R.DGV_WIN n) F.DGV_WIN_WIN_CLOSE
  max (s.fld (R.DGV_SVC n) F.DGV_SVC_SVC_INT) (max ((wc * 20 + 8000 + 7999) / 8000) ((s.tMin (2 * n) + 7999) / 8000))

/-- The next nozzle of a sweep (R315): one that missed, before the sweep moves on; else in the first pass the lowest used and
unmasked one from `pos`, in the confirmation pass the first of those left. -/
def State.sweepNext (s : State) (n : Nat) (w : Sweep) : Option Nat :=
  let gen := (s.headPlane n).gen
  let npr := s.npr n
  let ok := fun (h : Nat) => s.mayWarm n gen (if h < npr then 0 else 1) (if h < npr then h else h - npr)
  match w.redo.find? ok with
  | some h => some h
  | none => if w.confirm then w.left.find? ok else ((List.range (2 * npr)).drop w.pos).find? ok

/-- A sweep once the probe of nozzle `h` is written (R315). -/
def Sweep.probed (w : Sweep) (h : Nat) : Sweep :=
  if w.redo.contains h then { w with wait := w.wait ++ [(h, true)], redo := w.redo.erase h }
  else if w.confirm then { w with wait := w.wait ++ [(h, false)], left := w.left.filter (· ≠ h) }
  else { w with wait := w.wait ++ [(h, false)], pos := h + 1 }

/-- Whether a service entry may be written on row `i` (R22, R341): its row is enabled and its head is not barred. -/
def State.serviceRow (s : State) (i : Nat) : Bool :=
  s.rowEn i && !(s.portAt (i / 2)).barred && (s.portAt (i / 2)).plane.isSome

/-- Whether a marker entry may be written on row `i` in tick `k`: its section holds no entry at its TS or later (R117), so that one
that meets a line waits for the next interval. DESIGN CHOICE, log entry 71. -/
def State.markerFits (s : State) (i k : Nat) : Bool := !(s.rowAt i).holdsFrom ((k + 3) * 8000 + 2000)

/-- A marker entry on row `i` in tick `k` (R113, R314, R467): written without an overspeed mark, it is T_last. -/
def State.markerEntry (s : State) (i k line : Nat) (kind : EntryKind) (nozzle : Nat) : State :=
  let ts := (k + 3) * 8000 + 2000
  (s.modRow i (fun r => { r with tLast := some ts })).writeEntry i
    { ts := ts, line := line, lead := s.fld (R.DCT_ROW_LEAD i) F.DCT_ROW_LEAD_LEAD, kind := kind, nozzle := nozzle }

/-- A sweep's service-probe entry in tick `k`, where one is due (R295, R314, R341). -/
def State.sweepEntry (s : State) (n k : Nat) : State :=
  match (s.portAt n).sweep with
  | none => s
  | some w =>
    if s.mode ≠ .service ∨ k < w.notBefore ∨ w.trimWait ∨ (k + 3) % s.sweepInt n ≠ 0 ∨ !s.probesOn n then s
    else match s.sweepNext n w with
      | none => s
      | some h =>
        let i := 2 * n + (if h < s.npr n then 0 else 1)
        if !s.markerFits i k ∨ !s.serviceRow i then s
        else
          (s.markerEntry i k (2 ^ 48 - 2) .probe h).modPort n (fun p => { p with
            sweep := some (w.probed h), flying := p.flying ++ [{ h := h, line := 2 ^ 48 - 2, ts := (k + 3) * 8000 + 2000 }] })

/-- A spit's entry in tick `k`, where one is due (R467, R496): with both rows selected they take turns, row
A first. A row that may take none, disabled or of a barred head, drops out of the spit: DESIGN CHOICE, log entry 75. -/
def State.spitEntry (s : State) (n k : Nat) : State :=
  match (s.portAt n).spit with
  | none => s
  | some w =>
    let int := max w.interval ((s.tMin (2 * n) + 7999) / 8000)
    if s.mode ≠ .service ∨ k < w.notBefore ∨ (k + 3) % max 1 int ≠ 0 ∨ (w.leftA = 0 ∧ w.leftB = 0) ∨
        s.bit R.CHN_STAT F.CHN_STAT_STEP_DUE then s
    else
      let b := decide (w.leftA = 0) || (w.turnB && decide (w.leftB ≠ 0))
      let i := 2 * n + (if b then 1 else 0)
      if !s.serviceRow i then
        s.modPort n (fun p => { p with spit := some (if b then { w with leftB := 0 } else { w with leftA := 0 }) })
      else if !s.markerFits i k then s
      else
      let w' := if b then { w with leftB := w.leftB - 1, turnB := false, fly := w.fly + 1 }
        else { w with leftA := w.leftA - 1, turnB := true, fly := w.fly + 1 }
      (s.markerEntry i k (2 ^ 48 - 3) .spit w.code).modPort n (fun p => { p with spit := some w' })

end Sys2Proof.Machine
end

