-- ==== Sys2Proof/Machine/Inject.lean ====
section
/-! DEFINITION. Fault injection (R575 to R581): which slot acts on a frame, and what it counts. -/
namespace Sys2Proof.Machine

/-- GATE of FIJ_STAT (R575): DIAG_ENABLE latched and a DIAG_UNLOCK session open. -/
def State.fijGate (s : State) : Bool := s.bit R.OTP_POLICY F.OTP_POLICY_DIAG_ENABLE && s.diag.isSome

/-- What a slot does to a frame (R576); `k` is the number of frames it affected before. -/
inductive Inj where
  | drop
  | corrupt (k : Nat)
  | reorder
  | delay (dt : Nat)
  deriving DecidableEq, Repr

/-- Whether a frame is eligible for slot `j` (R576). The lane counts for target 1 and the port for targets 1 and 2. -/
def State.slotFits (s : State) (j target port lane ftype : Nat) : Bool :=
  let f := fun (x : Fld) => s.fld (R.FIJ_SLOT_CFG j) x
  decide (f F.FIJ_SLOT_CFG_ARM = 1) && decide (f F.FIJ_SLOT_CFG_TARGET = target) &&
    decide (1 ≤ f F.FIJ_SLOT_CFG_ACTION ∧ f F.FIJ_SLOT_CFG_ACTION ≤ 4) &&
    (decide (target > 2) || decide (f F.FIJ_SLOT_CFG_PORT = port)) &&
    (decide (target ≠ 1) || decide (f F.FIJ_SLOT_CFG_LANE = lane ∨ f F.FIJ_SLOT_CFG_LANE = 0xFF)) &&
    decide (f F.FIJ_SLOT_CFG_FTYPE = 0 ∨ f F.FIJ_SLOT_CFG_FTYPE = ftype)

/-- Slot `j` acts on a frame (R576 to R580): its counts, its COUNT, INJECTED, and the taint of its scope (R578). -/
def State.slotActs (s : State) (j target port : Nat) : Inj × State :=
  let action := s.fld (R.FIJ_SLOT_CFG j) F.FIJ_SLOT_CFG_ACTION
  let k := (s.slotAt j).hits
  let first := !(s.slotAt j).raised
  let s := (s.bumpW (R.FIJ_SLOT_HITS j)).count (640 + (target - 1) * 4 + (action - 1))
  let s := s.modSlot j (fun x => { x with hits := x.hits + 1, raised := true, owed := false })
  let left := s.getN (R.FIJ_SLOT_COUNT j)
  let s := if left = 0 then s
    else
      let s := s.setN (R.FIJ_SLOT_COUNT j) (left - 1)
      if left = 1 then
        (s.setBit (R.FIJ_SLOT_CFG j) F.FIJ_SLOT_CFG_ARM false).setBit (R.FIJ_SLOT_CFG j) F.FIJ_SLOT_CFG_DONE true
      else s
  let s := if first then s.raise 0xF001 j else s
  let s := if target ≤ 2 then { s with taintPort := cellPut (fun _ => none) s.taintPort port [some s.now] } else { s with taintDev := some s.now }
  let delay := min 100000 (s.fld (R.FIJ_SLOT_DELAY j) F.FIJ_SLOT_DELAY_DELAY) * 2
  (match action with
    | 1 => .drop
    | 2 => .corrupt k
    | 3 => .reorder
    | _ => .delay delay, s)

/-- A frame at an injection point (R576): the lowest slot due acts, the others act on their next eligible frame. -/
def State.inject (s : State) (target port lane ftype : Nat) : Option Inj × State :=
  if !s.fijGate then (none, s)
  else
    let fits := (List.range 8).filter (fun j => s.slotFits j target port lane ftype)
    let rate := fun (j : Nat) => max 1 (s.getN (R.FIJ_SLOT_RATE j))
    let s := s.forEach fits (fun s j => s.modSlot j (fun x =>
      { x with seen := x.seen + 1, owed := x.owed || decide ((x.seen + 1) % rate j = 0) }))
    match fits.find? (fun j => (s.slotAt j).owed) with
    | none => (none, s)
    | some j =>
      let r := s.slotActs j target port
      (some r.1, r.2)

/-- Every slot disarmed (R575: GATE fell). -/
def State.disarmAll (s : State) : State :=
  s.forEach (List.range 8) (fun s j => s.setBit (R.FIJ_SLOT_CFG j) F.FIJ_SLOT_CFG_ARM false)

/-- The DIAG_UNLOCK session closes (R419, R478, R575). -/
def State.closeDiag (s : State) : State := ({ s with diag := none }).disarmAll

/-- One bit of a frame flipped (R576): bit 16 + (97 k mod (L - 16)) in transmission order. -/
def flipBit (bs : List Nat) (k : Nat) : List Nat :=
  let pos := 16 + k * 97 % (8 * bs.length - 16)
  let b := bs.getD (pos / 8) 0
  bs.set (pos / 8) (setBits b (pos % 8) 1 (1 - bits b (pos % 8) 1))

end Sys2Proof.Machine
end

