-- ==== Sys2Proof/Machine/Frames.lean ====
section
/-! DEFINITION. What a head port sends: lane frames (R266 to R269), Type S shifts (R264), trim sets (R273). -/
namespace Sys2Proof.Machine

/-- One byte of the CRC of R268. -/
def crc16Byte (c b : Nat) : Nat :=
  (List.range 8).foldl (fun c _ => if c % 2 = 1 then (c / 2) ^^^ 0x8408 else c / 2) (c ^^^ (b % 256))

/-- The CRC of R268. -/
def crc16 (bs : List Nat) : Nat := (bs.foldl crc16Byte 0xFFFF) ^^^ 0xFFFF

/-- A lane frame (R266): header, body and CRC. -/
def laneFrame (ty row tid seq first count : Nat) (body : List Nat) : List Nat :=
  let data := [ty % 16 + row % 2 * 16 + tid % 4 * 32, seq % 256] ++ leBytes 2 first ++ leBytes 2 count ++ body
  [0x5A, 0xC3] ++ data ++ leBytes 2 (crc16 data)

/-- Numbers of `w` bits packed from bit 0 on, in bytes. -/
def packWide (w : Nat) (l : List Nat) : List Nat :=
  leBytes ((w * l.length + 7) / 8) (l.foldr (fun v a => v % 2 ^ w + 2 ^ w * a) 0)

/-- L of R256 and R21: nozzles to a lane. -/
def State.laneLen (s : State) (n : Nat) : Nat := if s.portType n = 1 then 256 else 1024

/-- The part of lane `l` that row `b` holds (R256): its first nozzle index h and its length. -/
def State.lanePart (s : State) (n l b : Nat) : Nat × Nat :=
  let len := s.laneLen n
  let lo := max (l * len) (b * s.nprSet n)
  (lo, min ((l + 1) * len) ((b + 1) * s.nprSet n) - lo)

/-- The lanes of a head in use (R256); all four while no head has set NPR. -/
def State.lanesUsed (s : State) (n : Nat) : Nat :=
  if s.nprSet n = 0 then 15
  else (List.range 4).foldl (fun m l => if l * s.laneLen n < 2 * s.nprSet n then m + 2 ^ l else m) 0

/-- Frames held back by reordering (R576) that nothing followed for 10 µs, sent alone. -/
def State.laneFlush (s : State) (n : Nat) : State :=
  let due := (s.portAt n).laneHeld.filter (fun x => decide (x.2.2 + 20000 ≤ s.now))
  let s := s.modPort n (fun p => { p with laneHeld := p.laneHeld.filter (fun x => decide (s.now < x.2.2 + 20000)) })
  due.foldl (fun s x => s.emit (.frame n x.1 x.2.1 (x.2.2 + 20000))) s

/-- One frame sent on a lane, starting at `at_` or when the lane is free (R266, R268, R576): the end of its last bit, and
the state. -/
def State.sendFrame (s : State) (n lane ty row tid first count : Nat) (body : List Nat) (at_ : Nat) : Nat × State :=
  let s := s.laneFlush n
  let p := s.portAt n
  let bytes := laneFrame ty row tid (p.laneSeq.getD lane 0) first count body
  let s := s.modPort n (fun p => { p with laneSeq := p.laneSeq.modify lane (fun q => (q + 1) % 256) })
  let (act, s) := s.inject 1 n lane ty
  let s := if ty = 1 ∧ act ≠ some .drop then
      let v := satU 64 (s.get64 (R.HP_CNT_FRAMES_LO n) (R.HP_CNT_FRAMES_HI n) + 1)
      s.set64 (R.HP_CNT_FRAMES_LO n) (R.HP_CNT_FRAMES_HI n) v
    else s
  let t := max at_ (p.laneFree.getD lane 0)
  let len := bytes.length * 40
  match act with
  | some .drop => (t + len, s)
  | some .reorder =>
    (t + len, s.modPort n (fun p => { p with laneHeld := p.laneHeld ++ [(lane, bytes, t)] }))
  | other =>
    let t := match other with
      | some (.delay d) => t + d
      | _ => t
    let out := match other with
      | some (.corrupt k) => flipBit bytes k
      | _ => bytes
    let s := s.emit (.frame n lane out t)
    let late := (s.portAt n).laneHeld.filter (fun x => x.1 = lane)
    let sendLate := fun (st : Nat × State) (x : Nat × List Nat × Nat) =>
      (st.1 + 80 + x.2.1.length * 40, st.2.emit (.frame n lane x.2.1 (st.1 + 80)))
    let (free, s) := late.foldl sendLate (t + len, s)
    (t + len, s.modPort n (fun p => { p with
      laneHeld := p.laneHeld.filter (fun x => x.1 ≠ lane), laneFree := p.laneFree.set lane (free + 80) }))

/-! Line transfers (R262 to R265). -/

/-- The bits of one lane of a Type S shift in order (R264): from bit 1 of the code of position 255 down to bit 0 of position 0. -/
def shiftBits (codes : List Nat) : List Bool :=
  ((codes ++ List.replicate 256 0).take 256).reverse.flatMap (fun c => [decide (c / 2 % 2 = 1), decide (c % 2 = 1)])

/-- Half a period of SCLK in DT (R264): 50 MHz, or 40 MHz as SCLK_SEL selects; the shift uses both edges. -/
def State.sclkHalf (s : State) (n : Nat) : Nat := if s.bit (R.HP_CFG n) F.HP_CFG_SCLK_SEL then 25 else 20

/-- The codes a transfer reads (R262): a line's slot of the staging ring, and, where the cursor has written a later line into it by
then, or for a marker entry, which has no slot, the codes the lock point decided: DESIGN CHOICE, log entry 72. -/
def State.sentCodes (s : State) (i : Nat) (e : Entry) : List Nat :=
  let reused := (s.rowAt i).staged.any (fun x => decide (x.line ≠ e.line ∧ x.line % 64 = e.line % 64))
  if e.kind = .line ∧ !reused then s.stageGet i e.line else e.codes

/-- The transfer of a locked entry of row `i` (R262, R264, R269). -/
def State.transfer (s : State) (i : Nat) (e : Entry) : State :=
  let n := i / 2
  let b := i % 2
  let at_ := e.ts - 15000
  let sent := s.sentCodes i e
  let codes := fun (part : Nat × Nat) => (sent.drop (part.1 - b * s.nprSet n)).take part.2
  let lanes := (List.range 4).filter (fun l => (s.lanePart n l b).2 ≠ 0)
  if s.portType n = 2 then
    s.forEach lanes (fun s l =>
      let part := s.lanePart n l b
      (s.sendFrame n l 1 b e.tid (part.1 - l * s.laneLen n) part.2 (packCodes (codes part)) at_).2)
  else
    s.emit (.shift n b (lanes.map (fun l => (l, shiftBits (codes (s.lanePart n l b))))) at_ (s.sclkHalf n) (at_ + 512 * s.sclkHalf n))

/-- Row `i`'s next transfer starts (R262); a port in OFF sends nothing (R257). -/
def State.transferStart (s : State) (i : Nat) : State :=
  match (s.rowAt i).queue.find? (fun e => e.locked && !e.sent) with
  | none => s
  | some e =>
    if (s.portAt (i / 2)).st = .off then s else
    let s := (s.advTo (e.ts - 15000)).ownTouch (stageAddr i e.line)
    let s := s.modRow i (fun r => { r with queue := r.queue.map (fun x => if x.ts = e.ts then { x with sent := true } else x) })
    s.transfer i e

/-- Row `i` of a Type S port latches its next line (R265). -/
def State.latchRow (s : State) (i : Nat) : State :=
  match (s.rowAt i).queue.find? (fun e => e.locked && e.sent && !e.latched) with
  | none => s
  | some e =>
    if s.portType (i / 2) ≠ 1 ∨ (s.portAt (i / 2)).st = .off then s
    else
      let s := s.advTo (e.ts - 2000)
      let s := s.modRow i (fun r => { r with
        queue := r.queue.map (fun x => if x.ts = e.ts then { x with latched := true } else x) })
      s.emit (.latch (i / 2) (i % 2) (e.ts - 2000) (e.ts - 1800))

/-! Frames that give way to line frames (R269). -/

/-- The instant before which a trim, management or training frame on lane `l` must end (R269). -/
def State.lowBound (s : State) (n l : Nat) : Nat :=
  let j := max (s.now / 8000) (s.tick.elim 0 (· + 1))
  let starts := (List.range 2).flatMap (fun b =>
    if (s.lanePart n l b).2 = 0 then []
    else (s.rowAt (2 * n + b)).queue.filterMap (fun e => if e.sent then none else some (e.ts - 15000)))
  starts.foldl min (j * 8000 + 7400)

/-- When lane `l` may start a frame that gives way. -/
def State.lowStart (s : State) (n l : Nat) : Nat := max s.now ((s.portAt n).laneFree.getD l 0)

/-- The largest frame, in bytes, that lane `l` may start now (R269), the gap of R268 kept. -/
def State.lowRoom (s : State) (n l : Nat) : Nat := (s.lowBound n l - 80 - s.lowStart n l) / 40

/-- The trim class of nozzle `h` of port `n` (R273): one byte in Bank N, the class in its low three bits (R384), read through the nozzle
pipeline's port and written by Quill firmware (R381). -/
def clsAddr (n h : Nat) : Nat := bankN + 0x80000 + n * 4096 + h
def State.clsGet (s : State) (n h : Nat) : Nat := ofLe (s.ownRead (clsAddr n h) 1) % 8
def State.clsPut (s : State) (n h v : Nat) : State := s.quillWrite (clsAddr n h) [v % 8]

/-- The 24-byte width table (R267). -/
def State.widthTable (s : State) (n : Nat) : List Nat :=
  packWide 12 ((List.range 8).map (fun k => s.fld (R.HP_TRIM_W n k) F.HP_TRIM_W_WS) ++
    (List.range 8).map (fun k => s.fld (R.HP_TRIM_W n k) F.HP_TRIM_W_WL))

/-- One pass over the frames of port `n` that give way: each waiting part or frame is sent, or split and sent in part,
where it fits (R269, R273). -/
def State.lowPump (s : State) (n : Nat) : State :=
  let parts := (s.portAt n).trimParts
  let s := s.modPort n (fun p => { p with trimParts := [] })
  let tid := (s.portAt n).trimTid
  let s := s.forEach parts (fun s x =>
    let room := s.lowRoom n x.lane
    let fit := (room - 34) * 8 / 3
    let cnt := if x.whole then (if x.count ≤ fit then x.count else 0) else min x.count fit
    if cnt = 0 then s.modPort n (fun p => { p with trimParts := p.trimParts ++ [x] })
    else
      let s := s.ownTouch (clsAddr n (x.lane * s.laneLen n + x.first))
      let body := s.widthTable n ++
        packWide 3 ((List.range cnt).map (fun j => s.clsGet n (x.lane * s.laneLen n + x.first + j)))
      let seq := (s.portAt n).laneSeq.getD x.lane 0
      let (done, s) := s.sendFrame n x.lane 2 x.row tid x.first cnt body (s.lowStart n x.lane)
      s.modPort n (fun p => { p with
        trim := p.trim ++ [{ lane := x.lane, seq := seq, first := x.first, count := cnt, row := x.row, at_ := done
                             tries := x.tries }]
        trimParts := if cnt < x.count then
            p.trimParts ++ [{ x with first := x.first + cnt, count := x.count - cnt }] else p.trimParts }))
  let low := (s.portAt n).low
  let s := s.modPort n (fun p => { p with low := [] })
  s.forEach low (fun s x =>
    if (s.portAt n).trimParts.any (fun y => y.lane = x.1) ∨ s.lowRoom n x.1 < x.2.2.length + 10 then
      s.modPort n (fun p => { p with low := p.low ++ [x] })
    else (s.sendFrame n x.1 x.2.1 0 0 0 0 x.2.2 (s.lowStart n x.1)).2)

/-- A management or training frame to be sent (R267). -/
def State.sendLow (s : State) (n lane ty : Nat) (body : List Nat) : State :=
  (s.modPort n (fun p => { p with low := p.low ++ [(lane, ty, body)] })).lowPump n

/-- A management read of `len` bytes at `addr`, awaited (R267, R328). -/
def State.mgmtRead (s : State) (n addr len : Nat) : State :=
  (s.modPort n (fun p => { p with mgmtPend := p.mgmtPend ++ [addr] })).sendLow n 0 3 [1, addr, len]

/-- A management write (R267, R336). -/
def State.mgmtWrite (s : State) (n addr : Nat) (data : List Nat) : State :=
  (s.modPort n (fun p => { p with mgmtPend := p.mgmtPend ++ [addr + 0x100] })).sendLow n 0 3 ([2, addr, data.length] ++ data)

/-! Trim sets (R273, R290). -/

/-- A head attach whose trim set failed is undone (R457): the port returns to PRESENT, its columns leave the map, its zone
loops and its rows are disabled. -/
def State.undoAttach (s : State) (n : Nat) : State :=
  let s := s.forEach [2 * n, 2 * n + 1] (fun s i => s.setBit (R.DCT_ROW_CFG i) F.DCT_ROW_CFG_EN false)
  let s := s.setBit (R.NZP_MAP_CFG n) F.NZP_MAP_CFG_EN false
  let s := s.forEach (List.range 8) (fun s z =>
    (s.setBit (R.DCT_LOOP_CFG n z) F.DCT_LOOP_CFG_EN false).setFld (R.DCT_LOOP_OUT n z) F.DCT_LOOP_OUT_WF 0)
  let s := match (s.portAt n).plane with
    | some p => s.nzpCommit p
    | none => s
  s.modPort n (fun p => { p with
    st := if p.st = .lost ∨ p.st = .off then p.st else .present, since := s.now, plane := none, attachedId := none })

/-- The set in flight ends (R273 steps 3 and 4, R290): READY or FAIL. What waits for it goes on. -/
def State.trimOver (s : State) (n : Nat) (ok : Bool) : State :=
  let tid := (s.portAt n).trimTid
  let s := if ok then
      (s.setFld (R.HP_TRIM_CTL n) F.HP_TRIM_CTL_TID_PEND tid).setBit (R.HP_TRIM_CTL n) F.HP_TRIM_CTL_READY true
    else s.setBit (R.HP_TRIM_CTL n) F.HP_TRIM_CTL_FAIL true
  let s := s.setBit (R.HP_TRIM_CTL n) F.HP_TRIM_CTL_GO false
  let s := s.modPort n (fun p => { p with
    trimOn := false, trim := [], trimParts := [], trimPend := p.trimPend && p.trimPendNext, trimPendNext := false
    sweep := p.sweep.map (fun w => { w with trimWait := w.trimWait && w.trimNext, trimNext := false }) })
  let undone := !ok && (List.range 32).any (fun q => match s.waitOf q with
    | some (.attach m _ w) => m = n && w
    | _ => false)
  let s := if undone then s.undoAttach n else s
  s.mapWaits (fun w => match w with
    | .attach m c t => if m = n ∧ t then (if ok then .attach m c false else .trim n false (some stFault)) else w
    | .trim m later none =>
      if m ≠ n then w else if later then .trim m false none else .trim m false (some (if ok then stOk else stFault))
    | w => w)

/-- A trim set's parts sent (R273 steps 1 and 2) under TID_CUR + 1 as it stands at the start. A port that has no Type L head to
take a set fails it at once: DESIGN CHOICE, log entry 73. A set without a nozzle is complete at once. -/
def State.trimStart (s : State) (n : Nat) : State :=
  let s := s.setBit (R.HP_TRIM_CTL n) F.HP_TRIM_CTL_GO true
  let parts := (List.range 2).flatMap (fun b => (List.range 4).filterMap (fun l =>
    let q := s.lanePart n l b
    if q.2 = 0 then none
    else some { lane := l, row := b, first := q.1 - l * s.laneLen n, count := q.2 : TrimPart }))
  let tid := (s.fld (R.HP_TRIM_CTL n) F.HP_TRIM_CTL_TID_CUR + 1) % 4
  let s := s.modPort n (fun p => { p with trimOn := true, trimTid := tid, trim := [], trimParts := parts })
  if s.portType n ≠ 2 ∨ (s.portAt n).st = .off then s.trimOver n false
  else if parts = [] then s.trimOver n true
  else s.lowPump n

/-- A trim set asked for (R273); while one is in flight, a further one follows it. -/
def State.trimGo (s : State) (n : Nat) : State :=
  if (s.portAt n).trimOn then
    (s.setBit (R.HP_TRIM_CTL n) F.HP_TRIM_CTL_GO true).modPort n (fun p => { p with trimAgain := true })
  else s.trimStart n

/-- The set in flight ends, and one asked for meanwhile starts (R273, R290). -/
def State.trimEnd (s : State) (n : Nat) (ok : Bool) : State :=
  let again := (s.portAt n).trimAgain
  let s := (s.modPort n (fun p => { p with trimAgain := false })).trimOver n ok
  if again then s.trimStart n else s

/-- Every frame of the set acknowledged: the set is complete in the head (R273 step 4). -/
def State.trimCheck (s : State) (n : Nat) : State :=
  let p := s.portAt n
  if p.trimOn ∧ p.trim = [] ∧ p.trimParts = [] then s.trimEnd n true else s

/-- The class changes of a gap sent as one set once its last window has closed (R309). -/
def State.gapTrim (s : State) (n : Nat) : State :=
  let p := s.portAt n
  if p.clsPend ∧ p.sweep.isNone ∧ p.plan = [] ∧ p.flying = [] then
    (s.modPort n (fun p => { p with clsPend := false, trimPend := true, trimPendNext := p.trimOn })).trimGo n
  else s

/-- A trim frame that drew a NAK or no ACK is sent again, up to three times (R273 step 3). -/
def State.trimRetry (s : State) (n : Nat) (f : TrimFrame) : State :=
  let s := s.modPort n (fun p => { p with trim := p.trim.filter (fun x => x ≠ f) })
  if f.tries ≥ 3 then s.trimEnd n false
  else
    let s := s.bump (R.HP_TRIM_CTL n) F.HP_TRIM_CTL_RESENT
    (s.modPort n (fun p => { p with trimParts :=
      { lane := f.lane, row := f.row, first := f.first, count := f.count, tries := f.tries + 1, whole := true } ::
        p.trimParts })).lowPump n

/-- A trim frame has had no answer for 10 µs (R273). -/
def State.trimTimeout (s : State) (n lane seq : Nat) : State :=
  match (s.portAt n).trim.find? (fun f => f.lane = lane && f.seq = seq) with
  | some f => (s.advTo (f.at_ + 20000)).trimRetry n f
  | none => s

/-- A trim frame answered (R270, R273); an answer for no frame in flight is ignored: it carries no PCNT (R294). -/
def State.trimAnswer (s : State) (n : Nat) (id : Nat × Nat) (ack : Bool) : State :=
  match (s.portAt n).trim.find? (fun f => f.lane = id.1 && f.seq = id.2) with
  | some f =>
    if ack then (s.modPort n (fun p => { p with trim := p.trim.filter (fun x => x ≠ f) })).trimCheck n
    else s.trimRetry n f
  | none => s

end Sys2Proof.Machine
end

