-- ==== Sys2Proof/Machine/Strobe.lean ====
section
/-! DEFINITION. Lock points, the energy window, strobe pulses and their outcomes (R118 to R127, R221 to R223, R235, R259,
R278 to R284, R334). -/
namespace Sys2Proof.Machine

/-! Trips. -/

/-- FIRE_EN of port `n` (R284): never inactive during a pulse, but for a one-shot trip, which ends them (R279); inactive during
a strobe self-test (R280). In PARK it follows the PARK horizon. -/
def State.fireEn (s : State) (n : Nat) : Bool :=
  let m := s.mode = .config || s.mode = .print || s.mode = .service || (s.mode = .idle && decide (s.pw.sub ≤ 1)) ||
    (s.mode = .park && (match s.pw.parkAt with
      | some t => decide (s.now < t + 26000)
      | none => false))
  let test := decide (s.now < (s.portAt n).testEnd)
  ((s.portAt n).st = .attached && !s.faultStopped && m && !test) || decide (s.now < (s.portAt n).pulseEnd)

/-- Every locked entry of port `n` that has not begun leaves, withheld (R279, R282). -/
def State.withholdPort (s : State) (n r : Nat) : State :=
  (s.withholdRow (2 * n) (·.locked) r).withholdRow (2 * n + 1) (·.locked) r

/-- The probes of port `n` in flight become void: the port leaves ATTACHED (R305). -/
def State.voidAll (s : State) (n : Nat) : State :=
  s.modPort n (fun p => { p with flying := p.flying.map (fun q => { q with void := true }) })

/-- A watchdog trip of port `n` (R257): ATTACHED goes to OFFLINE with STROBE_WDOG, and locked entries are withheld. `j` is
the Blotter counter. -/
def State.tripPort (s : State) (n : Nat) (f : Fld) (j : Nat) : State :=
  let s := s.countUnless (s.portTainted n) (cPort n j)
  let s := if (s.portAt n).st = .attached then
      ((s.modPort n (fun p => { p with st := .offline, since := s.now })).voidAll n).raise 0x2001 n
    else s
  (s.withholdPort n reasonWdog).setBit (R.HP_WDOG n) f true

/-! Energy (R281 to R283). -/

/-- The energy of codes on port `n` in ns (R281). -/
def State.energyOf (s : State) (n : Nat) (codes : List Nat) : Nat :=
  let pre := s.fld (R.HP_STB_W n) F.HP_STB_W_PRE
  let env := s.fld (R.HP_STB_ENV n) F.HP_STB_ENV_ENV
  let ws := if s.portType n = 2 then
      ((List.range 8).map (fun k => s.fld (R.HP_TRIM_W n k) F.HP_TRIM_W_WS)).foldl max 0
    else s.fld (R.HP_STB_ENV n) F.HP_STB_ENV_SHORT
  let cnt := fun (c : Nat) => (codes.filter (· = c)).length
  cnt 1 * pre + cnt 2 * (pre + min ws env) + cnt 3 * (pre + env)

/-- EW_WIN in DT (R291). -/
def State.ewWin (s : State) (n : Nat) : Nat := clampN 1 1000 (s.fld (R.HP_EW_CFG n) F.HP_EW_CFG_EW_WIN) * 8000

/-- The window of port `n` at time `ts` (R281). -/
def State.ewAt (s : State) (n ts : Nat) : List (Nat × Nat) :=
  (s.portAt n).ew.filter (fun x => decide (ts < x.1 + s.ewWin n))

/-- The energies of a window added up. -/
def ewSum (w : List (Nat × Nat)) : Nat := (w.map (·.2)).foldl (· + ·) 0

/-- Whether an entry of energy `e` at `ts` would exceed the limit (R282). -/
def State.ewOver (s : State) (n ts e : Nat) : Bool :=
  s.bit (R.HP_CFG n) F.HP_CFG_EW_EN &&
    decide (ewSum (s.ewAt n ts) + e > s.getN (R.HP_EW_LIMIT n) * 1024)

/-! The lock point. -/

/-- The blank causes of R122 above LINE_LATE, highest first. -/
def State.blankCause (s : State) (n : Nat) (e : Entry) : Option Nat :=
  let a := s.admitStop
  let service := s.mode = .service && (e.kind = .probe || e.kind = .spit)
  if bits a 4 1 = 1 then some 8
  else if bits a 3 1 = 1 then some 7
  else if bits a 1 1 = 1 then some 5
  else if bits a 2 1 = 1 then some 6
  else if bits a 0 1 = 1 then some 4
  else if bits a 5 1 = 1 ∧ !service then some 9
  else if (s.portAt n).st = .offline then some 10
  else if e.ovs then some 2
  else if s.bit R.DCT_THERM_BLK ⟨n, 1⟩ then some 3
  else none

/-- The codes of a marker entry at its lock point (R235, R314, R467), with the counter of R235 moved on. -/
def State.markerCodes (s : State) (i : Nat) (e : Entry) : State × List Nat :=
  let n := i / 2
  let npr := s.npr n
  let gen := (s.headPlane n).gen
  match e.kind with
  | .idleWarm => s.idleWarmCodes i
  | .probe =>
    let u := e.nozzle - i % 2 * npr
    (s, if s.probesOn n && s.mayWarm n gen (i % 2) u then (List.replicate npr 0).set u 3 else List.replicate npr 0)
  | _ =>
    let m := s.headMap n gen
    let masks := s.rowMasks n gen (i % 2) m.used.1 m.used.2
    (s, padRow npr m.used.1 (masks.map (fun x => if x then 0 else e.nozzle)))

/-- The codes of a line at its lock point by R223: none where its image codes are not final; and whether warm codes were
stripped. -/
def State.decideCodes (s : State) (i : Nat) (e : Entry) : Option (List Nat) × Bool :=
  match (s.rowAt i).stagedAt e.line with
  | some x =>
    if !x.imgOk ∨ e.epoch ≠ (s.planeAt (s.rowPlane i)).epoch then (none, false)
    else
      let codes := s.dropProbes i e.line (s.stageGet i e.line)
      if x.warmOk then (some codes, false) else (some (stripWarm codes), true)
  | none => (none, false)

/-- WARM_LATE reported on a line locked (R223, R233). -/
def State.warmLate (s : State) (i : Nat) (late : Bool) : State :=
  let n := i / 2
  let s := if late then
      let s := (s.bumpW (R.NZP_CNT_WARM_LATE n)).countUnless (s.lineTainted i) (cPort n 11)
      let s := if (s.rowAt i).warmPrev then (s.raise 0x1004 i).setBit (R.NZP_TH_STAT n) F.NZP_TH_STAT_WARM_LATE true else s
      s
    else s
  s.modRow i (fun r => { r with warmPrev := !late })

/-- The lock-point slack of a line (R569). -/
def State.noteSlack (s : State) (i : Nat) (e : Entry) : State :=
  match (s.rowAt i).stagedAt e.line with
  | some x =>
    let d := e.ts - 16000 - x.atDt
    if s.lineTainted i then s else { s with slackMin := some (min d (s.slackMin.getD d)) }
  | none => s

/-- What the off-parity use decision takes from a lock point (R201): frozen at 1 by the partner's entry, held by the native
line. -/
def State.lockOpu (s : State) (i : Nat) (e : Entry) : State :=
  let n := i / 2
  if e.offpar then
    let (chg, s) := s.opuFreeze n e.line true
    if chg then s.squashOpu n e.line else s
  else s.opuHold n e.line

/-- An entry leaves its section. -/
def State.dropEntry (s : State) (i : Nat) (e : Entry) : State :=
  s.modRow i (fun r => { r with queue := r.queue.filter (fun x => x.ts ≠ e.ts) })

/-- A line decided at its lock point with `codes` (R207, R221, R222); an entry of an earlier job decides none of the present
job's lines. -/
def State.settleLine (s : State) (i : Nat) (e : Entry) (codes : List Nat) : State :=
  let s := s.snapAdvance i e.ts codes
  if e.epoch = (s.planeAt (s.rowPlane i)).epoch then
    let s := (s.settleEvents i e.line).decidedAt i e.line
    s.lockOpu i e
  else s

/-- A spit that has written and fired every entry ends on its port (R467). -/
def State.spitCheck (s : State) (n : Nat) : State :=
  match (s.portAt n).spit with
  | some w =>
    if w.leftA = 0 ∧ w.leftB = 0 ∧ w.fly = 0 then
      let s := if w.iw then s.iwRestored n else s
      (s.modPort n (fun p => { p with spit := none })).mapWaits (fun x => match x with
        | .spit ports k => .spit (ports.filter (· ≠ n)) k
        | x => x)
    else s
  | none => s

/-- An entry blanked with cause `c` (R120, R122, R314), or an idle-warm event dropped (R235). -/
def State.blankEntry (s : State) (i c : Nat) (e : Entry) : State :=
  let n := i / 2
  match e.kind with
  | .line =>
    let s := (s.launchLine i e.line).settleLine i e []
    ((s.dropEntry i e).blank i c).voidLine n e.line e.ts
  | .idleWarm => (s.snapAdvance i e.ts []).dropEntry i e
  | .probe => ((s.snapAdvance i e.ts []).dropEntry i e).voidLine n e.line e.ts
  | .spit =>
    let s := (s.snapAdvance i e.ts []).dropEntry i e
    (s.modPort n (fun p => { p with spit := p.spit.map (fun w => { w with fly := w.fly - 1 }) })).spitCheck n

/-- An entry locked with `codes` of energy `en` (R120, R222, R281): an empty event is decided at once (R118). The slot of a line
in the staging ring holds its codes as decided (R262). The energies of the longest window are kept (R291, R294). -/
def State.lockEntry (s : State) (i : Nat) (e : Entry) (codes : List Nat) (en : Nat) : State :=
  let n := i / 2
  let s := s.modPort n (fun p => { p with ew := p.ew.filter (fun x => decide (e.ts < x.1 + 8000000)) ++ [(e.ts, en)] })
  let s := if e.kind = .line then
      let s := ((s.noteSlack i e).stagePut i e.line codes).launchLine i e.line
      (s.settleLine i e codes).modRow i (fun r => { r with lateArm := true })
    else s.snapAdvance i e.ts codes
  if codes.all (· = 0) then
    let s := s.dropEntry i e
    match e.kind with
    | .line => s.deliver i
    | .probe => s.voidLine n e.line e.ts
    | .spit => (s.modPort n (fun p => { p with spit := p.spit.map (fun w => { w with fly := w.fly - 1 }) })).spitCheck n
    | .idleWarm => s
  else
    let cnt := fun (c : Nat) => (codes.filter (· = c)).length
    let ctl := fun (f : Fld) => s.fld (R.HP_TRIM_CTL n) f
    let tid := if e.kind ≠ .idleWarm ∧ ctl F.HP_TRIM_CTL_READY = 1 then ctl F.HP_TRIM_CTL_TID_PEND
      else ctl F.HP_TRIM_CTL_TID_CUR
    let e' := { e with
      locked := true, codes := codes, n01 := cnt 1, n10 := cnt 2, n11 := cnt 3, tid := tid, energy := en
      pre := 2 * s.fld (R.HP_STB_W n) F.HP_STB_W_PRE, env := 2 * s.fld (R.HP_STB_ENV n) F.HP_STB_ENV_ENV }
    s.modRow i (fun r => { r with queue := r.queue.map (fun x => if x.ts = e.ts then e' else x) })

/-- An idle-warm entry at its lock point (R235, R282); one of a head that left its plane or is barred is dropped (R22, R341). -/
def State.lockIdleWarm (s : State) (i : Nat) (e : Entry) : State :=
  let n := i / 2
  let a := s.admitStop
  if bits a 4 1 = 1 ∨ bits a 3 1 = 1 ∨ (s.portAt n).st = .offline ∨ (s.portAt n).plane = none ∨ (s.portAt n).barred then
    s.blankEntry i 0 e
  else
    let (s, codes) := s.markerCodes i e
    let en := s.energyOf n codes
    if s.ewOver n e.ts en then (s.bump (R.HP_EW_CFG n) F.HP_EW_CFG_EW_IW_DROP).blankEntry i 0 e
    else s.lockEntry i e codes en

/-- A line, service probe or spit at its lock point (R120, R122, R223, R282). A head that left its plane or is barred has no codes and
fires nothing (R22, R341): its line is blanked LINE_LATE, DESIGN CHOICE, log entry 75. -/
def State.lockLine (s : State) (i : Nat) (e : Entry) : State :=
  let n := i / 2
  match s.blankCause n e with
  | some c => s.blankEntry i c e
  | none =>
    let (got, late, s) := if (s.portAt n).plane = none ∨ (s.portAt n).barred then (none, false, s) else match e.kind with
      | .line =>
        let d := s.decideCodes i e
        (d.1, d.2, s)
      | _ =>
        let m := s.markerCodes i e
        (some m.2, false, m.1)
    match got with
    | none => s.blankEntry i 1 e
    | some codes =>
      let en := s.energyOf n codes
      if s.ewOver n e.ts en then (s.tripPort n F.HP_WDOG_ENERGY 3).blankEntry i 10 e
      else
        let s := if e.kind = .line then s.warmLate i late else s
        s.lockEntry i e codes en

/-- Row `i`'s first entry that is not locked. -/
def State.nextLock (s : State) (i : Nat) : Option Entry := (s.rowAt i).queue.find? (fun e => !e.locked)

/-- An entry of row `i` at its lock point (R120), at TS - 16,000. -/
def State.lockOne (s : State) (i : Nat) (e : Entry) : State :=
  let s := ((s.advTo (e.ts - 16000)).ownTouch (s.snapAddr i)).ownTouch (stageAddr i e.line)
  if e.kind = .idleWarm then s.lockIdleWarm i e else s.lockLine i e

/-- The lock points of row `j` that a port takes before an entry of its other row at `ts` (R283): those of earlier entries, and
where row `j` is row A those of entries at `ts`. -/
def State.lockBefore (s : State) (j ts : Nat) : Nat → State
  | 0 => s
  | k + 1 =>
    match s.nextLock j with
    | some e => if e.ts < ts ∨ (e.ts = ts ∧ j % 2 = 0) then State.lockBefore (s.lockOne j e) j ts k else s
    | none => s

/-- The partner row of row `i` on its port. -/
def pairRow (i : Nat) : Nat := i / 2 * 2 + (1 - i % 2)

/-- The lock point of row `i`'s next entry (R120), after those of its port that come first (R283). `ecc` are the errors
its reads of Banks N and L meet (R393, R394). -/
def State.lockPoint (s : State) (i : Nat) (ecc : EccIn) : State :=
  match s.nextLock i with
  | none => s
  | some e =>
    let s := s.lockBefore (pairRow i) e.ts (s.rowAt (pairRow i)).queue.length
    s.eccMeet [1, 2] ecc |>.lockOne i e

/-! Firing. -/

/-- Drops of port `n` counted (R334). -/
def State.countDrops (s : State) (n k : Nat) : State :=
  let s := if s.lineTainted (2 * n) then s else s.count (cPort n 0) k
  s.modPort n (fun p => { p with drops := p.drops + k, d := p.d + k })

/-- The pending trim set made current at the strobe of a line that carries it (R273 step 5). -/
def State.adoptTrim (s : State) (n : Nat) (e : Entry) : State :=
  let c := R.HP_TRIM_CTL n
  if e.kind ≠ .idleWarm ∧ s.portType n = 2 ∧ s.fld c F.HP_TRIM_CTL_READY = 1 ∧ e.tid = s.fld c F.HP_TRIM_CTL_TID_PEND then
    (s.setFld c F.HP_TRIM_CTL_TID_CUR e.tid).setBit c F.HP_TRIM_CTL_READY false
  else s

/-- Whether the guard of R119 stops an entry; a warm code ejects no drop and is not subject to it (R224). -/
def State.guardStops (s : State) (i : Nat) (e : Entry) : Bool :=
  e.kind ≠ .idleWarm && (match (s.rowAt i).lastFired with
    | some t => decide (e.ts < t + s.tMin i)
    | none => false)

/-- The pulses of a fired entry (R259): PRE alone for an idle-warm event (R235). -/
def State.emitPulses (s : State) (i : Nat) (e : Entry) : State :=
  let n := i / 2
  let pin := 2 * (i % 2)
  let s := (s.emit (.edge n pin true e.ts)).emit (.edge n pin false (e.ts + e.pre))
  if e.kind = .idleWarm then s
  else (s.emit (.edge n (pin + 1) true (e.ts + e.lead))).emit (.edge n (pin + 1) false (e.ts + e.lead + e.env))

/-- Row `i`'s first entry fires (R119, R123, R259, R270, R334): a Type S line is delivered, a Type L line awaits its
answer. -/
def State.fireEntry (s : State) (i : Nat) (e : Entry) : State :=
  let n := i / 2
  let idle := decide (e.kind = .idleWarm)
  let last := if idle then e.ts + e.pre else e.ts + e.lead + e.env
  let drops := if idle then 0 else e.n10 + e.n11
  let s := (s.emitPulses i e).adoptTrim n e
  let s := s.modRow i (fun r => { r with
    lastFired := if idle then r.lastFired else some e.ts, pcnt := (r.pcnt + 1) % 256 })
  let s := if idle then s.bumpW (R.NZP_CNT_IW n) else s.countDrops n drops
  let s := if e.kind = .line then s.bumpW (R.NZP_CNT_WARM n) e.n01 else s
  let s := s.modPort n (fun p => { p with
    pulseEnd := max p.pulseEnd last
    firing := p.firing.filter (fun f => decide (e.ts < f.mainAt + 8800)) ++
      [{ b := i % 2, line := e.line, ts := e.ts, kind := e.kind, mainAt := e.ts + e.lead, last := last, drops := drops }]
    flying := p.flying.map (fun q =>
      if q.standsOn e.line e.ts ∧ !q.fired ∧ e.kind ≠ .idleWarm then { q with fired := true, mainAt := e.ts + e.lead }
      else if q.fired ∧ q.next = none ∧ drops ≠ 0 then { q with next := some (e.ts + e.lead) } else q) })
  if s.portType n = 2 then
    if idle then s
    else s.modRow i (fun r => { r with await := r.await ++ [{ pcnt := r.pcnt, line := e.line, ts := e.ts, kind := e.kind }] })
  else if e.kind = .line then s.deliver i
  else s

/-- The strobe of row `i`'s first entry (R117, R119, R259). On a Type S port the entry must have been latched (R265). A head that
is in no plane, and a port in OFF, fire nothing (R22, R257). -/
def State.strobeFire (s : State) (i : Nat) : State :=
  let n := i / 2
  match (s.rowAt i).queue with
  | [] => s
  | e :: _ =>
    if !e.locked ∨ (s.portType n = 1 ∧ !e.latched) then s
    else
      let s := (s.advTo e.ts).dropEntry i e
      if (s.portAt n).plane = none ∨ (s.portAt n).st = .off then s.withheld i e (s.goneReason n)
      else if s.guardStops i e then
        (s.setBit (R.DCT_ROW_STAT i) F.DCT_ROW_STAT_GUARD true).withheld i e reasonOverspeed
      else
        let s := s.fireEntry i e
        if e.kind = .spit then
          match (s.portAt n).spit with
          | some w =>
            let s := s.mapWaits (fun x => match x with
              | .spit ports k => if ports.contains n then .spit ports (k + 1) else x
              | x => x)
            (s.modPort n (fun p => { p with spit := some { w with fly := w.fly - 1 } })).spitCheck n
          | none => s
        else s

/-! The one-shot (R278, R279). -/

/-- A strobe of port `n` stays high beyond 4 µs (R278, R279): `pin` is 0 PRE A, 1 MAIN A, 2 PRE B, 3 MAIN B. The line whose
pulse was cut is the one of that row whose pulse began within the one-shot's longest time, 4.4 µs. -/
def State.oneShotTrip (s : State) (n pin : Nat) : State :=
  let pin := pin % 4
  let cut := (s.portAt n).firing.filter (fun f => decide (s.now < f.last) ||
    (decide (f.b = pin / 2) && decide (s.now ≤ (if pin % 2 = 0 then f.ts else f.mainAt) + 8800)))
  let s := if (s.pulseEnds n pin).isSome then s else s.emit (.edge n pin false s.now)
  let s := (s.cutPins n).modPort n (fun p => { p with firing := [], pulseEnd := 0, selfOk := false })
  let s := s.forEach cut (fun s f => s.cutLine n reasonWdog f)
  s.tripPort n ⟨pin, 1⟩ 2

/-! The PARK horizon (R126). -/

/-- The last scheduled edge of an entry. -/
def Entry.lastEdge (e : Entry) : Nat := if e.kind = .idleWarm then e.ts + e.pre else e.ts + e.lead + e.env

/-- Locked entries whose last edge falls after the horizon are withheld with reason PARK (R126). -/
def State.withholdBeyond (s : State) (horizon : Nat) : State :=
  s.forEach (List.range s.nRows) (fun s i => s.withholdRow i (fun e => e.locked && decide (horizon < e.lastEdge)) reasonPark)

end Sys2Proof.Machine
end

