-- ==== Sys2Proof/Machine/Loops.lean ====
section
/-! DEFINITION. Head regulation loops and thermal supervision (R237 to R241, R249 to R252). -/
namespace Sys2Proof.Machine

/-- The zones with registers on port `n` (R248): 4 on a Type S head, else 8. -/
def State.loopZones (s : State) (n : Nat) : List Nat := List.range (s.zonesOf n)

/-- EN of a loop (R249). -/
def State.loopEn (s : State) (n z : Nat) : Bool := s.bit (R.DCT_LOOP_CFG n z) F.DCT_LOOP_CFG_EN

/-- The age of a zone's reading in ticks at tick `k` (R275). -/
def State.tempAge (s : State) (n z k : Nat) : Nat :=
  match (s.portAt n).tempAt.getD z none with
  | some t => min 0xFFFF (k - t)
  | none => 0xFFFF

/-- A zone's latest reading (R275). -/
def State.temp (s : State) (n z : Nat) : Int := s.fldS (R.HP_TEMP n z) F.HP_TEMP_TEMP

/-- The setpoint of a loop (R249). -/
def State.setpoint (s : State) (n z : Nat) : Int := s.fldS (R.DCT_LOOP_CFG n z) F.DCT_LOOP_CFG_SP

/-- TFE_LIMIT and TFE_TIME (R252). -/
def State.tfeLimit (s : State) : Nat := s.fld R.DCT_THERM_FE F.DCT_THERM_FE_TFE_LIMIT
def State.tfeTime (s : State) : Nat := s.fld R.DCT_THERM_FE F.DCT_THERM_FE_TFE_TIME

/-- The integrator's upper limit (R238). -/
def iMax : Int := 0x3FF00000

/-- The results of R238 from the reading: integrator, output, and the flags of R239. -/
structure PiOut where
  i : Int
  out : Int
  satP : Bool
  satI : Bool
  satOut : Bool
  deriving DecidableEq, Repr

/-- The arithmetic of R238, R239. -/
def piStep (kp ki : Nat) (i sp t : Int) : PiOut :=
  let e := satS 32 (sp - t)
  let p0 := kp * e
  let p := satS 32 p0
  let d0 := asr (ki * e) 4
  let di := satS 32 d0
  let i1 := i + di
  let i' := clampI 0 iMax i1
  let u0 := p * 4096 + i'
  let u := satS 32 u0
  let o := asr (u + 0x80000) 20
  { i := i', out := clampI 0 1023 o, satP := p0 ≠ p || u0 ≠ u, satI := d0 ≠ di || i1 ≠ i', satOut := o ≠ clampI 0 1023 o }

/-- The PI update of zone (n, z) in tick `k` (R238, R239). -/
def State.piTick (s : State) (n z k : Nat) : State :=
  if s.tempAge n z k > s.fld R.DCT_THERM_STALE F.DCT_THERM_STALE_STALE_LIM then
    s.setBit (R.DCT_LOOP_CFG n z) F.DCT_LOOP_CFG_STALE true
  else
    let t := s.temp n z
    let r := piStep (s.fld (R.DCT_LOOP_KP n z) F.DCT_LOOP_KP_KP) (s.fld (R.DCT_LOOP_KI n z) F.DCT_LOOP_KI_KI)
      (s.getN (R.DCT_LOOP_I n z)) (s.setpoint n z) t
    let flag := fun (s : State) (f : Fld) (b : Bool) => if b then s.setBit (R.DCT_LOOP_SAT n z) f true else s
    let s := (s.setBit (R.DCT_LOOP_CFG n z) F.DCT_LOOP_CFG_STALE false).setN (R.DCT_LOOP_I n z) r.i.toNat
    let s := s.setFld (R.DCT_LOOP_OUT n z) F.DCT_LOOP_OUT_WF r.out.toNat
    let s := s.setFld (R.DCT_LOOP_OUT n z) F.DCT_LOOP_OUT_TEMP (uns 16 t)
    let s := flag s F.DCT_LOOP_SAT_SAT_P r.satP
    let s := flag s F.DCT_LOOP_SAT_SAT_I r.satI
    flag s F.DCT_LOOP_SAT_SAT_OUT r.satOut

/-- Whether the head of port `n` is heatable in tick `k` (R240): a row decided an entry within the last 250 ticks. -/
def State.heatable (s : State) (n k : Nat) : Bool :=
  [2 * n, 2 * n + 1].any (fun i => match (s.rowAt i).decTick with
    | some t => decide (k < t + 250)
    | none => false)

/-- The following-error supervision of zone (n, z) in tick `k` (R240, R241). -/
def State.superviseZone (s : State) (n z k : Nat) : State :=
  let stale := s.bit (R.DCT_LOOP_CFG n z) F.DCT_LOOP_CFG_STALE
  let e := s.setpoint n z - s.fldS (R.DCT_LOOP_OUT n z) F.DCT_LOOP_OUT_TEMP
  let lim : Int := s.tfeLimit
  let inBand := !stale && decide (e.natAbs ≤ s.tfeLimit)
  let armed := s.bit (R.DCT_LOOP_CFG n z) F.DCT_LOOP_CFG_ARMED || inBand
  let s := s.setBit (R.DCT_LOOP_CFG n z) F.DCT_LOOP_CFG_ARMED armed
  let cnt := s.fld (R.DCT_LOOP_SAT n z) F.DCT_LOOP_SAT_FE_CNT
  let cnt' := if !armed then cnt
    else if stale ∨ e < -lim then min 0xFFFF (cnt + 1)
    else if e > lim then (if s.heatable n k then min 0xFFFF (cnt + 1) else cnt)
    else 0
  let s := s.setFld (R.DCT_LOOP_SAT n z) F.DCT_LOOP_SAT_FE_CNT cnt'
  s.modZone n z (fun x => { x with
    okRun := if armed && inBand then min 0xFFFF (x.okRun + 1) else 0, fe := x.fe && decide (cnt' > s.tfeTime) })

/-- DCT_THERM_OK as it reads (R241). -/
def State.thermOk (s : State) (n : Nat) : Bool :=
  let zs := (s.loopZones n).filter (fun z => s.loopEn n z)
  zs ≠ [] && zs.all (fun z => decide (s.tfeTime ≤ (s.zoneAt n z).okRun))

/-- A zone's count exceeds TFE_TIME (R241). -/
def State.thermExpiry (s : State) (n z : Nat) : State :=
  if !s.loopEn n z ∨ s.fld (R.DCT_LOOP_SAT n z) F.DCT_LOOP_SAT_FE_CNT ≤ s.tfeTime ∨ (s.zoneAt n z).fe then s
  else
    let s := (s.setBit (R.DCT_LOOP_SAT n z) F.DCT_LOOP_SAT_FE true).modZone n z (fun x => { x with fe := true })
    if s.bit R.DCT_THERM_BLK ⟨n, 1⟩ then s
    else (s.setBit R.DCT_THERM_BLK ⟨n, 1⟩ true).raiseCount 0x2003 n (cPort n 6)

/-- A clearing write to DCT_THERM_BLK (R241). -/
def State.thermBlkClear (s : State) (bits_ : Nat) : State :=
  s.forEach (List.range s.part.ports) (fun s n =>
    if bits bits_ n 1 = 1 ∧ s.thermOk n then s.setBit R.DCT_THERM_BLK ⟨n, 1⟩ false else s)

/-- A write of DCT_LOOP_CFG (R240, R249): a loop just enabled, and a setpoint moved by more than TFE_LIMIT, disarm the zone. -/
def State.loopCfgWrite (s : State) (n z v : Nat) : State :=
  let en := bits v 0 1 = 1
  let sp := sgn 16 (bits v 16 16)
  let was := s.loopEn n z
  let moved := (sp - s.setpoint n z).natAbs > s.tfeLimit
  let s := (s.setBit (R.DCT_LOOP_CFG n z) F.DCT_LOOP_CFG_EN en).setFld (R.DCT_LOOP_CFG n z) F.DCT_LOOP_CFG_SP (bits v 16 16)
  let s := if (en ∧ !was) ∨ moved then
      (s.setBit (R.DCT_LOOP_CFG n z) F.DCT_LOOP_CFG_ARMED false).modZone n z (fun x => { x with okRun := 0 })
    else s
  if en then s else s.setFld (R.DCT_LOOP_OUT n z) F.DCT_LOOP_OUT_WF 0

/-- A loop enabled or disabled, its setpoint kept (R237). -/
def State.loopEnable (s : State) (n z : Nat) (en : Bool) : State :=
  s.loopCfgWrite n z (setBits (s.getN (R.DCT_LOOP_CFG n z)) 0 1 (if en then 1 else 0))

/-- A setpoint written (R240). -/
def State.loopSp (s : State) (n z : Nat) (sp : Nat) : State :=
  s.loopCfgWrite n z (setBits (s.getN (R.DCT_LOOP_CFG n z)) 16 16 sp)

/-- Every loop of every port disabled (R237). -/
def State.loopsOff (s : State) : State :=
  s.forEach (List.range s.part.ports) (fun s n => s.forEach (List.range 8) (fun s z => s.loopEnable n z false))

end Sys2Proof.Machine
end

