-- ==== Sys2Proof/Machine/Blotter.lean ====
section
/-! DEFINITION. The Blotter (R566 to R572): images in Bank B, flushes, histogram samples, the park marker. -/
namespace Sys2Proof.Machine

/-! Bank B (R566). -/

/-- Where image `i` begins in Bank B. -/
def imgOff (i : Nat) : Nat := 0x1000 + i * 0x10000

/-- The bytes of an image. -/
def imgLen : Nat := 0xF000

/-- A 64-bit word of Bank B at byte offset `o`. -/
def State.bWord (s : State) (o : Nat) : Nat := memReadN s.chip (bankB + o) 8

/-- `s` with a 64-bit word of Bank B written. -/
def State.setBWord (s : State) (o v : Nat) : State := s.chipWrite (bankB + o) (leBytes 8 v)

/-- ACTIVE: the active image and the flush generation (R566). -/
def State.bltActive (s : State) : Nat := s.bWord 8 % 2
def State.bltGen (s : State) : Nat := s.bWord 8 / 2

/-- The park marker (R520). -/
def State.parkMarker (s : State) : Bool := s.bWord 0x10 ≠ 0
def State.setParkMarker (s : State) (on : Bool) : State := s.setBWord 0x10 (if on then 1 else 0)

/-- `len` bytes of a memory copied from `src` to `dst`, two ranges apart from each other. -/
def memCopy (m : List Host.Cell) (src dst len : Nat) : List Host.Cell :=
  let part := (m.filter (fun c => decide (src ≤ c.1) && decide (c.1 < src + len))).map (fun c => (c.1 - src + dst, c.2))
  m.filter (fun c => c.1 < dst) ++ part ++ m.filter (fun c => dst + len ≤ c.1)

/-! Deltas. Counter `j` of R568 has key `j`; bin `b` of histogram `h` of R569 has key 4,096 + 32 h + b. -/

/-- A sample of histogram `h` (R569). -/
def State.sample (s : State) (h bin : Nat) : State := s.count (4096 + 32 * h + min 31 bin)

/-- A delta added to the image at Bank B offset `o` (R567 to R569): counters saturate at 64 bits; a bin saturates at 32 bits
and sets OVF. -/
def State.addDelta (s : State) (o : Nat) (d : Nat × Nat) : State :=
  if d.1 < 4096 then
    let a := o + d.1 * 8
    s.setBWord a (satU 64 (s.bWord a + d.2))
  else
    let k := d.1 - 4096
    let h := o + 0x2000 + k / 32 * 0x100
    let a := bankB + h + k % 32 * 4
    let v := memReadN s.chip a 4 + d.2
    let s := s.chipWrite a (leBytes 4 (satU 32 v))
    if v < 2 ^ 32 then s else s.setChipBit (bankB + h + 0x80) 0 true

/-- OVF_ANY of BLT_STAT (R582). -/
def State.ovfAny (s : State) : Bool :=
  (List.range 38).any (fun h => s.chipBit (bankB + imgOff s.bltActive + 0x2000 + h * 0x100 + 0x80) 0)

/-! Flushes (R567, R570, R571). -/

/-- A word of the active image that reads uncorrectable during a flush (R571): taken from the inactive image as it was, or
0 where both copies are lost. `old` is Bank B before the flush. -/
def State.lostWord (s : State) (old : List Host.Cell) (src dst w : Nat) (both : Bool) : State :=
  let v := if both then 0 else memReadN old (bankB + dst + w * 8) 8
  let s := (s.setBWord (dst + w * 8) v).eccUncorr 5 (src / 8 + w)
  let s := s.setBit R.BLT_STAT F.BLT_STAT_BAD_WORD true
  if both then (s.setBit R.BLT_STAT F.BLT_STAT_DAMAGED true).count 17 else s

/-- A flush begins (R567): the active image is copied into the inactive one and the deltas collected so far are added.
`bad` are the words of the active image that read uncorrectable now, `both` those lost in the other image too; words found so
before and not written since are so still. -/
def State.flushStart (s : State) (bad both : List Nat) : State :=
  let src := imgOff s.bltActive
  let dst := imgOff (1 - s.bltActive)
  let deltas := s.blt
  let old := s.chip
  let held := fun (o : Nat) => (s.bankBad.filter (fun w =>
    decide (bankB + o ≤ w * 8) && decide (w * 8 < bankB + o + imgLen))).map (fun w => w - (bankB + o) / 8)
  let bad := bad.filter (fun w => w * 8 < imgLen) ++ (held src).filter (fun w => !bad.contains w)
  let both := both ++ held dst
  let s := { s with blt := [], chip := memCopy s.chip (bankB + src) (bankB + dst) imgLen, flush := some s.now
                    bankBad := s.bankBad.filter (fun w => w * 8 < bankB + dst ∨ bankB + dst + imgLen ≤ w * 8) }
  let s := s.forEach bad (fun s w => s.lostWord old src dst w (both.contains w))
  let s := s.forEach deltas (fun s d => s.addDelta dst d)
  s.setBit R.BLT_STAT F.BLT_STAT_FLUSHING true

/-- A flush asked for (R570): one that arrives during a flush is served by one further flush. -/
def State.flushAsk (s : State) (bad both : List Nat) : State :=
  if s.flush.isSome then { s with flushAgain := true } else s.flushStart bad both

/-- FLUSH of BLT_CTL written 1 (R583). -/
def State.bltFlush (s : State) : State := (s.setBit R.BLT_CTL F.BLT_CTL_FLUSH true).flushAsk [] []

/-- ACTIVE as a flush writes it (R567): the other image, the generation one higher. -/
def State.nextActive (s : State) : Nat := (1 - s.bltActive) + (s.bltGen + 1) % 2 ^ 63 * 2

/-- A flush completes (R567, R570, R583, R584): ACTIVE is written once. -/
def State.flushDone (s : State) : State :=
  match s.flush with
  | none => s
  | some t =>
    let s := ((s.setBWord 8 s.nextActive).setBit R.BLT_STAT F.BLT_STAT_FLUSHING false).bumpW R.BLT_FLUSH_CNT
    let s := s.setFld R.BLT_FLUSH_TIME F.BLT_FLUSH_TIME_TIME (min 0xFFFF ((s.now - t) / 2000))
    let again := s.flushAgain
    let s := { s with flush := none, flushAgain := false }
    if again then s.flushStart [] [] else s.setBit R.BLT_CTL F.BLT_CTL_FLUSH false

/-! The samples of a second (R569). -/

/-- The bin of a lock-point slack. -/
def slackBin (v : Nat) : Nat := if v < 1000 then 1 else min 31 (2 + Nat.log2 (v / 1000))

/-- The bin of an observer residual. -/
def resBin (m : Nat) : Nat := if m = 0 then 0 else min 31 (1 + Nat.log2 m)

/-- The highest fresh reading of the head on port `n`. -/
def State.hottest (s : State) (n : Nat) : Option Int :=
  let fresh := (s.loopZones n).filter (fun z =>
    decide (s.tempAge n z (s.now / 8000) < s.fld R.DCT_THERM_STALE F.DCT_THERM_STALE_STALE_LIM))
  match fresh.map (fun z => s.temp n z) with
  | [] => none
  | t :: l => some (l.foldl max t)

/-- The once-per-second samples, and the second counted (R568, R569). -/
def State.bltSecond (s : State) : State :=
  let s := s.count 0
  let s := s.forEach ((List.range s.part.ports).filter (fun n =>
      (s.portAt n).st = .attached ∨ (s.portAt n).st = .offline)) (fun s n =>
    match s.hottest n with
    | some t => s.sample n (clampI 0 31 (t / 80)).toNat
    | none => s)
  let s := if s.slackLate then s.sample 32 0
    else match s.slackMin with
      | some v => s.sample 32 (slackBin v)
      | none => s
  let s := s.forEach [0, 1, 2, 3] (fun s k =>
    let e := s.encAt k
    (if e.resSeen then s.sample (33 + k) (resBin e.resMax) else s).modEnc k (fun e => { e with resMax := 0, resSeen := false }))
  { s with slackMin := none, slackLate := false }

/-- The once-per-second flush, from the end of stage 3 (R570). -/
def State.blotterFlush (s : State) (bad both : List Nat) : State :=
  if s.fld R.SYS_BOOT_STAT F.SYS_BOOT_STAT_STAGE < 3 then s else s.bltSecond.flushAsk bad both

/-! Device time (R572). -/

/-- Device time wraps. -/
def State.dtWrap (s : State) : State :=
  let s := if s.now < 2 ^ 63 then s else { s with dt := 0 }
  { s with tick := none }.raiseCount 0x1006 0 19

end Sys2Proof.Machine
end

