-- ==== Sys2Proof/Machine/Gate.lean ====
section
/-! DEFINITION. Drop verification: detection, judgement and its effects, and service sweeps (R295 to R316). -/
namespace Sys2Proof.Machine

/-! Detection (R296 to R298). -/

/-- The first of three consecutive samples below `th`, in 10 ns units from the index of the first sample given. -/
def firstDip (th : Int) : Nat → List Nat → Option Nat
  | t, a :: b :: c :: l =>
    if (a : Int) < th ∧ (b : Int) < th ∧ (c : Int) < th then some t else firstDip th (t + 1) (b :: c :: l)
  | _, _ => none

/-- What the front end finds in a window: the arrival time and whether the detection is full. -/
structure Seen where
  at_ : Option Nat
  full : Bool
  deriving DecidableEq, Repr

/-- The samples that lie in the window from `lo` up to `hi` in 10 ns units. -/
def gateWindow (g : GateIn) (lo hi : Nat) : Nat × List Nat :=
  let first := max lo g.start
  (first, (g.dg.drop (first - g.start)).take (hi - first))

/-- Detection by R296 to R298. -/
def State.detect (s : State) (n : Nat) (g : GateIn) (hi : Nat) : Seen :=
  let th := fun (f : Fld) => s.fld (R.DGV_TH n) f
  let w := gateWindow g (s.fld (R.DGV_WIN n) F.DGV_WIN_WIN_OPEN) hi
  let det := th F.DGV_TH_TH_DET
  let full := max det (th F.DGV_TH_TH_FULL)
  { at_ := (firstDip ((g.base : Int) - 4 * det) w.1 w.2).map (min 0xFFFE)
    full := (firstDip ((g.base : Int) - 4 * full) w.1 w.2).isSome }

/-! Effects. -/

/-- A nozzle queued for a retry (R304), unless the newest generation masks it. -/
def State.retryPut (s : State) (n h : Nat) : State :=
  let q := (s.portAt n).retryQ
  if q.contains h ∨ s.chipBit (maskGen (s.headPlane n).gen + (n * 4096 + h) / 8) (h % 8) then s
  else if q.length ≥ 16 then s.setBit (R.DGV_STAT n) F.DGV_STAT_RQ_OVF true
  else (s.modPort n (fun p => { p with retryQ := p.retryQ ++ [h] })).setRq n h true

/-- The MASK_DGV bit of a nozzle, set or cleared through an alias window, and a commit of its plane (R308, R390). -/
def State.dgvMask (s : State) (n h : Nat) (v : Bool) : State :=
  let a := maskDgv + (n * 4096 + h) / 32 * 4 + (if v then 0x1000000 else 0x2000000)
  let s := (s.busWrite 3 a (leBytes 4 (2 ^ (h % 32)))).2
  match (s.portAt n).plane with
  | some p => s.nzpCommit p
  | none => s

/-- A nozzle masked by the unit, where AUTO_MASK allows (R308). -/
def State.autoMask (s : State) (n h : Nat) : State :=
  if !s.bit (R.DGV_CFG n) F.DGV_CFG_AUTO_MASK then s
  else
    let new := !s.chipBit (maskDgv + (n * 4096 + h) / 8) (h % 8)
    (s.dgvMask n h true).modPort n (fun p => { p with
      sweep := p.sweep.map (fun w => { w with masked := w.masked + (if new then 1 else 0) }) })

/-- A nozzle's class moved up or down by one (R309). -/
def State.autoTrim (s : State) (n h : Nat) (up : Bool) : State :=
  let c := s.clsGet n h
  let ok := s.bit (R.DGV_CFG n) F.DGV_CFG_AUTO_TRIM && s.portType n = 2 && bits (s.dgvGet n h) 6 1 = 0 &&
    (if up then decide (c < 7) else decide (0 < c))
  if !ok then s
  else
    let s := (s.busWrite 3 (clsAddr n h) [if up then c + 1 else c - 1]).2.bumpW (if up then R.DGV_CNT_TRIM_UP n else R.DGV_CNT_TRIM_DN n)
    let s := s.modPort n (fun p => { p with
      clsPend := true
      sweep := p.sweep.map (fun w => { w with
        changes := w.changes + 1, changed := if w.changed.contains h then w.changed else w.changed ++ [h] }) })
    s.retryPut n h

/-- A quotient or sum of R310 that lies outside a 32-bit register, or a division by 0: the spec gives no value. -/
def State.fit32 (s : State) (v : Option Int) : State × Nat :=
  match v with
  | some i => if 0 ≤ i ∧ i < 2 ^ 32 then (s, i.toNat) else let f := s.fresh; (f.2, f.1 % 2 ^ 32)
  | none => let f := s.fresh; (f.2, f.1 % 2 ^ 32)

/-- The row velocity refined by an arrival (R310). -/
def State.autoVel (s : State) (n h t : Nat) : State :=
  if !s.bit (R.DGV_CFG n) F.DGV_CFG_AUTO_VEL then s
  else
    let i := if h < s.npr n then 2 * n else 2 * n + 1
    let t0 := s.fld (R.DGV_GEOM n) F.DGV_GEOM_T0
    let dist := s.fld (R.DGV_GEOM n) F.DGV_GEOM_DIST
    let throw := s.getN (R.DCT_PLANE_THROW (((s.portAt n).plane).getD (s.rowPlane i)))
    let tf := if dist = 0 then none else some (t0 + throw * (t - t0) / (dist * 65536))
    let vel : Option Int := match tf with
      | some f => if f = 0 then none else some ((throw * 100 / f : Nat))
      | none => none
    let cur : Int := s.getN (R.DCT_ROW_VEL i)
    let v := vel.map (fun x => cur + asr (x - cur) (s.fld (R.DGV_CFG n) F.DGV_CFG_VSHIFT))
    let r := s.fit32 v
    r.1.setN (R.DCT_ROW_VEL i) r.2

/-- A record's fields by R306 and R307. -/
def recordWord (old result misses fast weakrun arrival : Nat) : Nat :=
  let v := setBits (setBits old 0 3 result) 3 2 misses
  let v := setBits (setBits v 5 1 fast) 8 2 weakrun
  setBits v 16 16 arrival

/-- DGV_LAST (R324). -/
def State.dgvLast (s : State) (n h result : Nat) (t : Option Nat) : State :=
  let s := s.setFld (R.DGV_LAST n) F.DGV_LAST_NOZZLE h
  let s := s.setFld (R.DGV_LAST n) F.DGV_LAST_RESULT result
  s.setFld (R.DGV_LAST n) F.DGV_LAST_ARRIVAL (t.getD 0xFFFF)

/-- A non-detection judged (R306, R308, R311). -/
def State.judgeMiss (s : State) (n h : Nat) : State × Nat :=
  let r := s.dgvGet n h
  let misses := min 3 (bits r 3 2 + 1)
  let result := if misses = 3 then 5 else 4
  let burst := max 2 (s.fld (R.DGV_CFG n) F.DGV_CFG_MISS_BURST)
  let run := s.fld (R.DGV_STAT n) F.DGV_STAT_NDRUN
  let run := if bits r 3 2 = 0 then min 15 (run + 1) else run
  let s := s.dgvStore n h (recordWord r result misses (bits r 5 1) (bits r 8 2) 0xFFFF)
  let s := s.setFld (R.DGV_STAT n) F.DGV_STAT_NDRUN run
  let s := if run ≥ burst then s.setBit (R.DGV_STAT n) F.DGV_STAT_GATE_SUSPECT true else s
  let s := (s.bumpW (R.DGV_CNT_MISS n)).dgvLast n h result none
  if result = 5 then
    (((s.bumpW (R.DGV_CNT_MISSING n)).countUnless (s.portTainted n) (cPort n 9)).autoMask n h, 5)
  else (s.retryPut n h, 4)

/-- A detection judged (R306, R308 to R310). -/
def State.judgeHit (s : State) (n h t : Nat) (full : Bool) : State × Nat :=
  let r := s.dgvGet n h
  let t0 := s.fld (R.DGV_GEOM n) F.DGV_GEOM_T0
  let v := s.fld (R.DGV_GEOM n) F.DGV_GEOM_DIST * 100 * 65536 / (t - t0)
  let vmin := s.fld (R.DGV_VBAND n) F.DGV_VBAND_V_MIN * 256
  let vmax := s.fld (R.DGV_VBAND n) F.DGV_VBAND_V_MAX * 256
  let result := if !full then 3 else if v < vmin then 2 else 1
  let fast := if result = 1 ∧ v > vmax then 1 else 0
  let weak := if result = 3 then min 3 (bits r 8 2 + 1) else 0
  let s := (s.dgvStore n h (recordWord r result 0 fast weak t)).dgvLast n h result (some t)
  let s := if s.chipBit (maskDgv + (n * 4096 + h) / 8) (h % 8) then s.dgvMask n h false else s
  let cfg := fun (f : Fld) => s.bit (R.DGV_CFG n) f
  match result with
  | 1 =>
    let s := s.bumpW (R.DGV_CNT_OK n)
    (if fast = 1 then s.autoTrim n h false else s.autoVel n h t, 1)
  | 2 =>
    let top := s.clsGet n h = 7
    let s := (s.bumpW (R.DGV_CNT_SLOW n)).autoTrim n h true
    (if top ∧ cfg F.DGV_CFG_MASK_SLOW then s.autoMask n h else s, 2)
  | _ =>
    let s := s.bumpW (R.DGV_CNT_WEAK n)
    (if weak = 3 ∧ cfg F.DGV_CFG_MASK_WEAK then s.autoMask n h else s, 3)

/-- A void probe (R305). -/
def State.judgeVoid (s : State) (n : Nat) (q : Probe) (t : Option Nat) : State × Nat :=
  let s := (s.bumpW (R.DGV_CNT_VOID n)).dgvLast n q.h 7 t
  (if q.retry then s.retryPut n q.h else s, 7)

/-- Why the unit cannot read the record or the class of a nozzle, with the address (R388). -/
def State.dgvRefused (s : State) (n h : Nat) : Option (Nat × Nat) :=
  match s.refusal 3 (dgvRec n h) 4 false with
  | some c => some (dgvRec n h, c)
  | none => (s.refusal 3 (clsAddr n h) 1 false).map (fun c => (clsAddr n h, c))

/-- A probe whose window has closed, judged (R305, R306): the result, 7 where it is void. Any detection clears GATE_SUSPECT and
NDRUN (R311). -/
def State.judge (s : State) (n : Nat) (q : Probe) (g : GateIn) : State × Nat :=
  let s := ((s.eccMeet [1] g.ecc).bumpW (R.DGV_CNT_PROBE n)).countUnless (s.portTainted n) (cPort n 8)
  if !q.fired then s.judgeVoid n q none
  else
    let open_ := s.fld (R.DGV_WIN n) F.DGV_WIN_WIN_OPEN
    let close := s.fld (R.DGV_WIN n) F.DGV_WIN_WIN_CLOSE
    let early : Bool := match q.next with
      | some m => decide (m + open_ * 20 < q.mainAt + close * 20)
      | none => false
    let hi := match q.next with
      | some m => min close ((m - q.mainAt + open_ * 20) / 20)
      | none => close
    let low := (gateWindow g open_ hi).2.foldl min g.base
    let s := s.setFld (R.DGV_LEVEL n) F.DGV_LEVEL_BASE (satU 8 (g.base / 10))
    let s := s.setFld (R.DGV_LEVEL n) F.DGV_LEVEL_DEPTH (satU 8 ((g.base - low) / 4))
    let bad := decide (g.base < 10 * s.fld (R.DGV_TH n) F.DGV_TH_BASE_MIN) ||
      decide (10 * s.fld (R.DGV_TH n) F.DGV_TH_BASE_MAX < g.base)
    if bad then (s.setBit (R.DGV_STAT n) F.DGV_STAT_GATE_FAULT true).judgeVoid n q none
    else match s.dgvRefused n q.h with
    | some (a, c) => (s.regionDeny 3 a false c).judgeVoid n q none
    | none =>
      let seen := s.detect n g hi
      let s := if seen.at_.isSome then
          (s.setFld (R.DGV_STAT n) F.DGV_STAT_NDRUN 0).setBit (R.DGV_STAT n) F.DGV_STAT_GATE_SUSPECT false
        else s
      let away := q.void || (s.portAt n).st ≠ .attached || decide (close ≤ open_)
      match seen.at_ with
      | none =>
        if away ∨ early ∨ s.bit (R.DGV_STAT n) F.DGV_STAT_GATE_SUSPECT then s.judgeVoid n q none else s.judgeMiss n q.h
      | some t =>
        if away ∨ t ≤ s.fld (R.DGV_GEOM n) F.DGV_GEOM_T0 then s.judgeVoid n q (some t) else s.judgeHit n q.h t seen.full

/-! Service sweeps (R314, R315). -/

/-- A sweep ends (R314, R315): DONE, IW_EN restored, and the command that waits for it goes on. -/
def State.sweepDone (s : State) (n : Nat) (w : Sweep) : State :=
  let s := if w.iw then s.iwRestored n else s
  let s := (s.setBit (R.DGV_SVC n) F.DGV_SVC_DONE true).modPort n (fun p => { p with sweep := none })
  s.mapWaits (fun x => match x with
    | .sweep ports m c => if ports.contains n then .sweep (ports.filter (· ≠ n)) (m + w.masked) (c + w.changes) else x
    | x => x)

/-- The nozzles of the confirmation pass (R315): class changed, or RESULT WEAK. -/
def State.confirmList (s : State) (n : Nat) (changed : List Nat) : List Nat :=
  (List.range (2 * s.npr n)).filter (fun h => changed.contains h || bits (s.dgvGet n h) 0 3 = 3)

/-- The class changes of a sweep sent (R315). -/
def State.sweepTrim (s : State) (n : Nat) : State :=
  (s.modPort n (fun p => { p with
    clsPend := false, trimPend := true, trimPendNext := p.trimOn
    sweep := p.sweep.map (fun w => { w with trimWait := true, trimNext := p.trimOn }) })).trimGo n

/-- The pass of a sweep that has no nozzle left to probe ends (R315). On a port that does not probe (R295) the sweep ends: DESIGN
CHOICE, log entry 75. -/
def State.sweepStep (s : State) (n : Nat) : State :=
  match (s.portAt n).sweep with
  | none => s
  | some w =>
    let k := s.tick.getD 0
    if w.trimWait ∨ w.wait ≠ [] ∨ k < w.notBefore ∨ (s.probesOn n ∧ (s.sweepNext n w).isSome) then s
    else if w.confirm ∨ !s.probesOn n then
      let s := if (s.portAt n).clsPend then
          (s.modPort n (fun p => { p with clsPend := false, trimPend := true, trimPendNext := p.trimOn })).trimGo n
        else s
      s.sweepDone n w
    else
      let l := s.confirmList n w.changed
      if l = [] then s.sweepDone n w
      else
        let s := s.modPort n (fun p => { p with sweep := some { w with confirm := true, left := l } })
        if (s.portAt n).clsPend then s.sweepTrim n else s

/-- A judged service probe (R315): a nozzle that misses is probed again at the next two intervals; a miss of such a re-probe asks
for no further one. -/
def State.sweepJudged (s : State) (n h result : Nat) : State :=
  match (s.portAt n).sweep with
  | none => s
  | some w =>
    match w.wait.find? (fun x => x.1 = h) with
    | none => s
    | some x =>
      let miss := !x.2 && (result = 4 || result = 5)
      let w' := { w with wait := w.wait.erase x, redo := if miss then w.redo ++ [h, h] else w.redo }
      (s.modPort n (fun p => { p with sweep := some w' })).sweepStep n

/-- The window of port `n`'s next probe closes (R298, R305, R306). -/
def State.probeClose (s : State) (n : Nat) (g : GateIn) : State :=
  match (s.portAt n).flying.find? (fun q => q.fired || q.void) with
  | none => s
  | some q =>
    let close := q.mainAt + s.fld (R.DGV_WIN n) F.DGV_WIN_WIN_CLOSE * 20
    let end_ := match q.next with
      | some m => min close (m + s.fld (R.DGV_WIN n) F.DGV_WIN_WIN_OPEN * 20)
      | none => close
    let s := if q.fired ∧ !q.void then s.advTo end_ else s
    let s := s.modPort n (fun p => { p with flying := p.flying.erase q })
    let (s, result) := s.judge n q g
    if q.line = 2 ^ 48 - 2 then s.sweepJudged n q.h result else s.gapTrim n

/-- Every MASK_DGV bit of a head cleared (R308, R315). -/
def State.dgvUnmaskAll (s : State) (n : Nat) : State :=
  s.quillWrite (maskDgv + n * 512) (List.replicate 512 0)

/-- A sweep of port `n` starts (R314, R315): RETEST clears the unit's masks first; the commit is accepted at once, because
no row runs. -/
def State.sweepStart (s : State) (n notBefore : Nat) (iw retest : Bool) : State :=
  let s := if retest then
      let s := s.dgvUnmaskAll n
      match (s.portAt n).plane with
      | some p => (s.nzpCommit p).mapAccept p
      | none => s
    else s
  s.modPort n (fun p => { p with sweep := some { notBefore := notBefore, iw := iw } })

/-- GO of DGV_SVC (R314, R322): in SERVICE, on an ATTACHED port whose gate is enabled and that does not sweep yet. -/
def State.svcGo (s : State) (n : Nat) : State :=
  if s.mode = .service ∧ (s.portAt n).st = .attached ∧ s.bit (R.DGV_CFG n) F.DGV_CFG_EN ∧ (s.portAt n).sweep.isNone then
    s.sweepStart n 0 false (s.bit (R.DGV_SVC n) F.DGV_SVC_RETEST)
  else s

end Sys2Proof.Machine
end

