-- ==== Sys2Proof/Machine/Memory.lean ====
section
/-! DEFINITION. On-chip memory: accesses through the alias windows, BAR2 and BAR4, retention, scrub and BIST (chapter
"On-chip memory banks", R416, R417). -/
namespace Sys2Proof.Machine

/-! Accesses. -/

/-- A host access of `k` bytes, at least one, through BAR2 (R416): `data` is none for a read. An access that crosses a 64-byte boundary,
as every one longer than 64 bytes does, is refused before any other check. A read returns an uncorrectable word as the bank does
(R394). -/
def State.bar2 (s : State) (a k : Nat) (data : Option (List Nat)) : State :=
  let a := a % 0x1000000
  let k := max 1 k
  let crosses := decide (a / 64 ≠ (a + k - 1) / 64)
  match data with
  | none =>
    if crosses then s.emit .abort
    else
      match s.busRead 2 a k with
      | (some bs, s) => (s.chipMeet a k).2.emit (.read (ofLe bs))
      | (none, s) => s.emit .abort
  | some bs =>
    if crosses then s else (s.busWrite 2 a ((bs ++ List.replicate k 0).take k)).2

/-- The DRAM size in bytes (R1, R348). -/
def State.dramSize (s : State) : Nat := s.part.dramGib * 2 ^ 30

/-- A host access through BAR4 (R417): `data` is none for a read of `k` bytes. One that reaches at or beyond the DRAM size is refused as
such even in self-refresh: DESIGN CHOICE, log entry 81. -/
def State.bar4 (s : State) (j k : Nat) (data : Option (List Nat)) : State :=
  let a := s.fld R.SYS_HOST_AP F.SYS_HOST_AP_BASE_GIB * 2 ^ 30 + j % 2 ^ 32
  match data with
  | none =>
    if s.dramSize < a + k then s.emit .unsupported
    else if s.dramSr then s.emit .abort
    else
      let s := match s.dramFaulty a k with
        | some w => s.eccUncorr 6 w
        | none => s
      s.emit (.read (memReadN s.dram a k))
  | some bs => if s.dramSr ∨ s.dramSize < a + bs.length then s else s.dramWrite a bs

/-! Retention (R396 to R398, R407). -/

/-- MEM_RET written (R396 to R398): a bit set takes its part out of access, a bit cleared starts its wake; L_OFF loses the
staged lines with Bank L. -/
def State.memRet (s : State) (v : Nat) : State :=
  let old := s.getN R.MEM_RET % 32
  let s := s.setFld R.MEM_RET ⟨0, 5⟩ v
  let rise := (List.range 5).filter (fun j => bits v j 1 = 1 ∧ bits old j 1 = 0)
  let fall := (List.range 4).filter (fun j => bits v j 1 = 0 ∧ bits old j 1 = 1)
  let s := s.forEach rise (fun s j =>
    { s.setBit R.MEM_RET ⟨16 + j, 1⟩ false with bankWake := s.bankWake.filter (·.1 ≠ j) })
  let s := s.forEach fall (fun s j => { s with bankWake := (j, s.now + 40000) :: s.bankWake })
  let s := if rise.contains 4 then
      { s.setBit R.MEM_STAT F.MEM_STAT_L_INIT false with
        chip := s.chip.filter (fun c => c.1 < bankL ∨ bankL + 0x400000 ≤ c.1)
        rows := cellMap (fun _ => {}) s.rows (fun r => { r with staged := [], cursor := min r.cursor r.undecided }) }
    else s
  if bits v 4 1 = 0 ∧ bits old 4 1 = 1 then s.setBit R.MEM_STAT F.MEM_STAT_L_INIT true else s

/-- The bits of MEM_RET that `mask` names, of those `own` allows, set or cleared. -/
def State.memRetBits (s : State) (own mask : Nat) (on : Bool) : State :=
  let old := s.getN R.MEM_RET % 32
  let k := mask &&& own
  s.memRet (if on then old ||| k else old - (old &&& k))

/-- A bank becomes accessible (R397, R407): after power-up, or 20 µs after its retention bit was cleared. -/
def State.bankAwake (s : State) (j : Nat) : State :=
  if 4 ≤ j ∨ bits (s.getN R.MEM_RET) j 1 = 1 then s
  else
    let s := match s.bankWake.find? (·.1 = j) with
      | some x => s.advTo x.2
      | none => s
    { s.setBit R.MEM_RET ⟨16 + j, 1⟩ true with bankWake := s.bankWake.filter (·.1 ≠ j) }

/-- Bank L is written with 0 and accessible (R398, R407). -/
def State.lInitDone (s : State) : State :=
  if bits (s.getN R.MEM_RET) 4 1 = 1 then s
  else (s.setBit R.MEM_STAT F.MEM_STAT_L_INIT false).setBit R.MEM_RET ⟨20, 1⟩ true

/-! Scrub (R400, R401). -/

def State.scrubAt (s : State) (b : Nat) : Scrub := cellGet (fun _ => {}) s.scrub b

/-- The scrub of bank `b`, 6 for DRAM, takes a window of `words` words at word address `at_`, and the windows of a pass number `wins`
(R400, R401): the first window of a pass waits for `period` DT after the pass before it began. `corr` words are corrected, and the
`uncorr`-th word of the window is uncorrectable. -/
def State.scrubWindow (s : State) (b at_ words wins period corr : Nat) (uncorr : Option Nat) : State :=
  let x := s.scrubAt b
  let s := if x.win = 0 then s.advTo ((x.began.map (· + period)).getD 0) else s
  let x := if x.win = 0 then { x with began := some s.now } else x
  let s := { s with scrub := cellPut (fun _ => {}) s.scrub b [{ x with win := (x.win + 1) % max 1 wins }] }
  let s := s.eccCorr b (min corr words)
  match uncorr with
  | none => s
  | some w => s.eccUncorr b (at_ + w % words)

/-- How many 4 KiB windows at the start of bank `b` are accessible, retained or off ones left out (R396, R400). -/
def State.scrubWins (s : State) (b : Nat) : Nat :=
  if s.awake b ((bankSpan b).1 + (bankSpan b).2 - 1) then (bankSpan b).2 / 4096 else if b = 0 then 64 else 0

/-- The next window of bank `b` scrubbed (R400), in address order. A corrected word is written back in the same step, so that no
write lands between. -/
def State.sramScrub (s : State) (b corr : Nat) (uncorr : Option Nat) : State :=
  let k := s.scrubWins b
  if !s.bit R.MEM_SCRUB_CFG F.MEM_SCRUB_CFG_EN ∨ 6 ≤ b ∨ k = 0 then s
  else
    let s := if k ≤ (s.scrubAt b).win then { s with scrub := cellPut (fun _ => {}) s.scrub b [{ s.scrubAt b with win := 0 }] } else s
    s.scrubWindow b ((s.scrubAt b).win * 512) 512 k
      (max 1 (s.fld R.MEM_SCRUB_CFG F.MEM_SCRUB_CFG_SRAM_PERIOD) * 2000000000) corr uncorr

/-- The next 4 KiB of DRAM scrubbed (R395, R401); in self-refresh the pass stands still. -/
def State.dramScrub (s : State) (corr : Nat) (uncorr : Option Nat) : State :=
  if !s.bit R.MEM_DRAM_SCRUB F.MEM_DRAM_SCRUB_EN ∨ s.dramSr then s
  else
    s.scrubWindow 6 ((s.scrubAt 6).win * 512) 512 (s.dramSize / 4096)
      (max 1 (s.fld R.MEM_DRAM_SCRUB F.MEM_DRAM_SCRUB_DRAM_PERIOD) * 7200000000000) corr uncorr

/-! Memory BIST (R402 to R404, R410). -/

/-- The order in which banks are tested (R403). -/
def bistOrder : List Nat := [5, 3, 0, 4, 1, 2]

/-- The windows of bank `b`. -/
def bistWindows (b : Nat) : Nat := (bankSpan b).2 / 4096

/-- The place of the next window to test, from place `i` of the order on, among the banks selected. -/
def bistNext (sel : Nat) : Nat → Nat → Option Nat
  | 0, _ => none
  | k + 1, i => if bits sel (bistOrder.getD i 0) 1 = 1 then some i else bistNext sel k (i + 1)

/-- The run stands before place `i` of the order: it ends where no bank is left. -/
def State.bistFrom (s : State) (i : Nat) : State :=
  match bistNext (s.fld R.MEM_BIST_CTL F.MEM_BIST_CTL_BANKS) (6 - i) i with
  | some j => { s with bist := some (j, 0) }
  | none =>
    { (s.setBit R.MEM_BIST_STAT F.MEM_BIST_STAT_BUSY false).setBit R.MEM_BIST_STAT F.MEM_BIST_STAT_DONE true with
      bist := none }

/-- A run starts (R410). -/
def State.bistGo (s : State) : State :=
  if s.bit R.MEM_BIST_STAT F.MEM_BIST_STAT_BUSY then s
  else (s.setBit R.MEM_BIST_STAT F.MEM_BIST_STAT_BUSY true).bistFrom 0

/-- A run ends after restoring the borrowed window (R410). -/
def State.bistAbort (s : State) : State :=
  { s.setBit R.MEM_BIST_STAT F.MEM_BIST_STAT_BUSY false with bist := none }

/-- Whether the engine may take a window of bank `b` now (R403). -/
def State.bistMay (s : State) (b : Nat) : Bool :=
  let inTick := decide (s.fld R.SYS_TICK_STAT F.SYS_TICK_STAT_LAST_DONE ≤ s.now % 8000) && decide (s.now % 8000 + 1600 ≤ 8000)
  let quiet := s.rows.all (fun r => r.2.queue.all (fun e =>
    decide (s.now + 32000 < e.ts) || decide (e.ts < s.now)))
  let still := s.ports.all (fun p => p.2.laneFree.all (fun t => decide (t ≤ s.now)))
  s.awake b ((bankSpan b).1 + (bankSpan b).2 - 1) &&
    (match b with
    | 5 => s.flush.isNone || s.mode = .config || s.mode = .idle
    | 4 => inTick && s.bistTick ≠ some (s.now / 8000)
    | 1 | 2 => (s.mode = .config || s.mode = .idle) && inTick && quiet && still
    | _ => true)

/-- The engine's next window (R402): tested and restored, `fail` a word that failed its march, or ended by a foreground
access and to be restarted. -/
def State.bistWindow (s : State) (fail aborted : Bool) : State :=
  match s.bist with
  | none => s
  | some (i, w) =>
    let b := bistOrder.getD i 0
    if !s.bistMay b then s
    else
    let s := if b = 4 then { s with bistTick := some (s.now / 8000) } else s
    if aborted then s.bump R.MEM_BIST_STAT F.MEM_BIST_STAT_RESTARTS
    else
      let s := if fail then s.setBit R.MEM_BIST_STAT ⟨b, 1⟩ true else s
      if w + 1 < bistWindows b then { s with bist := some (i, w + 1) } else s.bistFrom (i + 1)

/-! Regions at BOOT (R389). -/

/-- A region written: the enable, the permissions and the range. -/
def State.putRegion (s : State) (m r lo hi : Nat) (rd wr : Bool) : State :=
  let v := 1 + (if rd then 2 else 0) + (if wr then 4 else 0) + lo / 256 * 256
  (s.setN (R.MEM_RGN_BASE m r) v).setN (R.MEM_RGN_LIM m r) (hi / 256 * 256)

/-- The regions of R389. -/
def State.bootRegions (s : State) : State :=
  let s := s.putRegion 0 0 0x0400000 0x0FFFFFF true true
  let s := s.putRegion 1 0 0x0100000 0x01FFFFF true true
  let s := s.putRegion 1 1 0x0C00000 0x0DFFFFF true true
  let s := s.putRegion 1 2 0x0F00000 0x0FFFFFF true false
  let s := s.putRegion 2 0 0x0400000 0x0FFFFFF true false
  let s := s.putRegion 3 0 0x0480000 0x049FFFF true true
  let s := s.putRegion 3 1 0x0700000 0x077FFFF true true
  s.putRegion 3 2 0x0784000 0x0787FFF false true

/-- W of the BAR2 region, set while a DIAG_UNLOCK session is open (R389). -/
def State.diagRegion (s : State) (on : Bool) : State := s.setBit (R.MEM_RGN_BASE 2 0) F.MEM_RGN_BASE_W on

end Sys2Proof.Machine
end

