-- ==== Sys2Proof/Machine/Screen.lean ====
section
/-! DEFINITION. The screen unit and the strips that feed it (chapter "Image planes, ingest and screening"). -/
namespace Sys2Proof.Machine

/-- FMT of plane `p` (R180). -/
def State.fmt (s : State) (p : Nat) : Nat := s.fld (R.SCR_PLANE_CFG p) F.SCR_PLANE_CFG_FMT

/-- Bits per column of a format (R140). -/
def fmtBits : Nat → Nat
  | 1 => 8
  | 2 => 2
  | _ => 1

/-- S_img of R143 for a format and a width. -/
def imgStride (fmt w : Nat) : Nat := ((w * fmtBits fmt + 7) / 8 + 63) / 64 * 64

/-- The DRAM address of the image buffer of plane `p` (R183). -/
def State.imgBase (s : State) (p : Nat) : Nat :=
  s.get64 (R.SCR_PLANE_IMG_BASE_LO p) (R.SCR_PLANE_IMG_BASE_HI p) / 64 * 64

/-- IMG_LINES of plane `p` (R183). -/
def State.imgLines (s : State) (p : Nat) : Nat := s.fld (R.SCR_PLANE_IMG_LINES p) F.SCR_PLANE_IMG_LINES_IMG_LINES

/-- JOB_LINES of plane `p` (R183). -/
def State.jobLines (s : State) (p : Nat) : Nat :=
  s.getN (R.SCR_PLANE_JOBLN_LO p) + s.fld (R.SCR_PLANE_JOBLN_HI p) F.SCR_PLANE_JOBLN_HI_JOBLN * 2 ^ 32

/-- The job line of grid line `g` (R148). -/
def State.jobLine (s : State) (p g : Nat) : Nat :=
  if s.bit (R.SCR_PLANE_CFG p) F.SCR_PLANE_CFG_STORED ∧ s.jobLines p ≠ 0 then g % s.jobLines p else g

/-- The image line of grid line `g`, none for a gap line (R148, R609). -/
def State.imgLine (s : State) (p g : Nat) : Option Nat :=
  if (s.gapOf p g).isSome then none
  else
    let jl := s.jobLine p g
    let pl := s.pageLines p
    let per := pl + s.gapLines p
    some (jl / per * pl + jl % per)

/-- Whether array slot `k` is valid (R163, R179). -/
def State.slotValid (s : State) (k : Nat) : Bool :=
  let w := s.fld (R.SCR_ARR_SIZE k) F.SCR_ARR_SIZE_W_A
  let h := s.fld (R.SCR_ARR_SIZE k) F.SCR_ARR_SIZE_H_A
  decide (1 ≤ w) && decide (w ≤ 512) && decide (1 ≤ h) && decide (h ≤ 512) &&
    decide (w * h * 4 + s.fld (R.SCR_ARR_BASE k) F.SCR_ARR_BASE_ARR_BASE * 64 ≤ 0x100000)

/-- The slot of plane `p` (R180). -/
def State.slotOf (s : State) (p : Nat) : Nat := s.fld (R.SCR_PLANE_CFG p) F.SCR_PLANE_CFG_ARRAY

/-- The last grid line of the job of plane `p` (R150, R168, R609). -/
def State.jobLast (s : State) (p : Nat) : Nat := ((s.planeAt p).job.map (·.lastLine)).getD 0

/-- PAUSED of plane `p` (R182). A table load (R170) is one step of the model, so its pause has no extent. -/
def State.paused (s : State) (p : Nat) : Bool := s.bit (R.SCR_PLANE_CTL p) F.SCR_PLANE_CTL_PAUSE

/-- WAIT_RING: the ring gate of R159 holds line DONE_p back. -/
def State.waitRing (s : State) (p : Nat) : Bool :=
  (s.planeAt p).job.isSome && decide (s.retiredNow p + s.ringDepth p ≤ (s.planeAt p).done)

/-- WAIT_DATA: line DONE_p waits for committed image data, or the plane's slot is invalid (R168, R179). -/
def State.waitData (s : State) (p : Nat) : Bool :=
  (s.planeAt p).job.isSome && ((s.fmt p = 1 && !s.slotValid (s.slotOf p)) ||
    (match s.imgLine p (s.planeAt p).done with
    | some m => decide ((s.planeAt p).avail ≤ m)
    | none => false))

/-- Whether plane `p` may take a turn (R168). -/
def State.screenCan (s : State) (p : Nat) : Bool :=
  (s.planeAt p).job.isSome && !s.paused p && s.fmt p ≠ 0 && s.width p ≠ 0 && !s.waitRing p && !s.waitData p &&
    decide ((s.planeAt p).done ≤ s.jobLast p) && !s.bit (R.SCR_PLANE_STAT p) F.SCR_PLANE_STAT_STALL

/-- Whether it is the turn of plane `p` (R168): it may take one, and no plane after the one served last comes before it that may.
The turns begin at plane 0: DESIGN CHOICE, log entry 79. -/
def State.screenMay (s : State) (p : Nat) : Bool :=
  s.screenCan p && (((List.range 8).map (fun j => (s.screenTurn + 1 + j) % 8)).find? s.screenCan = some p)

/-- The fire code and the DOUBLE flag of a corrected tone under a cell's thresholds (R164). -/
def toneCode (t ts tl td : Nat) (dblEn : Bool) : Nat × Bool :=
  if t > td then (3, dblEn) else if t > tl then (3, false) else if t > ts then (2, false) else (0, false)

/-- A C8 column screened (R161, R164). -/
def State.screenC8 (s : State) (p jl c v : Nat) : Nat × Bool :=
  let q := s.fld (R.SCR_PLANE_TRC p) F.SCR_PLANE_TRC_TRC_BASE + c / 16
  let t := ofLe (s.ownRead (bankS + q % 4096 * 256 + v) 1)
  let k := s.slotOf p
  let w := s.fld (R.SCR_ARR_SIZE k) F.SCR_ARR_SIZE_W_A
  let h := s.fld (R.SCR_ARR_SIZE k) F.SCR_ARR_SIZE_H_A
  let x := (c + s.fld (R.SCR_PLANE_OFS p) F.SCR_PLANE_OFS_XOFS) % w
  let y := (jl + s.fld (R.SCR_PLANE_OFS p) F.SCR_PLANE_OFS_YOFS) % h
  let a := bankS + 0x100000 + s.fld (R.SCR_ARR_BASE k) F.SCR_ARR_BASE_ARR_BASE * 64 + (y * w + x) * 4
  let cell := s.ownRead a 4
  toneCode t (cell.getD 0 0) (cell.getD 1 0) (cell.getD 2 0) (s.bit (R.SCR_PLANE_CFG p) F.SCR_PLANE_CFG_DBL_EN)

/-- The codes and DOUBLE flags of image bytes `img`, and the P2 values of 01 among them (R140 to R142, R164). -/
def State.screenBytes (s : State) (p jl : Nat) (img : List Nat) : List (Nat × Bool) × Nat :=
  let w := s.width p
  match s.fmt p with
  | 1 => (((List.range w).zip img).map (fun x => s.screenC8 p jl x.1 x.2), 0)
  | 2 =>
    let v := (unpackCodes img).take w
    (v.map (fun q => (if q = 1 then 0 else q, false)), (v.filter (· = 1)).length)
  | _ =>
    let code := if s.bit (R.SCR_PLANE_CFG p) F.SCR_PLANE_CFG_P1_CODE then 3 else 2
    (((unpackBits img).take w).map (fun b => (if b then code else 0, false)), 0)

/-- A code line as it lies in the ring (R158). -/
def codeBytes (w : Nat) (cols : List (Nat × Bool)) : List Nat :=
  let codes := packCodes (cols.map (·.1))
  (codes ++ List.replicate (codesSize w) 0).take (codesSize w) ++ packBits (doubleSize w) (cols.map (·.2))

/-- A code line written and DONE_p advanced (R159, R172). -/
def State.lineDone (s : State) (p g : Nat) (cols : List (Nat × Bool)) : State :=
  let s := s.dramWrite (s.codeAddr p g) (codeBytes (s.width p) cols)
  s.modPlane p (fun x => { x with
    done := g + 1, chg := if x.chgDue then g else x.chg, chgDue := false })

/-- The uncorrectable word that the screening of a line meets: of Bank S where the plane's format reads it, else of the image line,
which takes `k` bytes at `a` (R173, R174, R395). -/
def State.screenFault (s : State) (p a k : Nat) (e : EccIn) : Option (Nat × Nat) :=
  match e.bad with
  | some (3, w) => if s.fmt p = 1 then some (3, w) else (s.dramFaulty a k).map (fun x => (6, x))
  | some (6, w) => some (6, w)
  | _ => (s.dramFaulty a k).map (fun x => (6, x))

/-- A grid line screened (R164, R168). `ecc` are the errors that its reads of Bank S and of the image line meet (R173, R174,
R393). -/
def State.screenLine (s : State) (p : Nat) (ecc : EccIn) : State :=
  if !s.screenMay p then s
  else
    let s := { s with screenTurn := p }
    let g := (s.planeAt p).done
    let w := s.width p
    match s.imgLine p g with
    | none => s.lineDone p g (List.replicate w (0, false))
    | some m =>
      let stride := imgStride (s.fmt p) w
      let a := s.imgBase p + m % max 1 (s.imgLines p) * stride
      let k := (w * fmtBits (s.fmt p) + 7) / 8
      let s := if s.fmt p = 1 then (s.ownTouch bankS).eccMeet [3, 6] { ecc with bad := none } else s.eccMeet [6] { ecc with bad := none }
      match s.screenFault p a k ecc with
      | some (3, b) => (s.eccUncorr 3 b).stallPlane b p
      | some (_, b) =>
        let s := (s.eccUncorr 6 b).setBit (R.SCR_PLANE_STAT p) F.SCR_PLANE_STAT_BADLN true
        (s.modPlane p (fun x => { x with badln := g })).lineDone p g (List.replicate w (0, false))
      | none =>
        let r := s.screenBytes p (s.jobLine p g) (memRead s.dram a k)
        let s := s.bumpW (R.SCR_PLANE_P2W_CNT p) r.2
        let s := if r.2 = 0 then s else s.setBit (R.SCR_PLANE_STAT p) F.SCR_PLANE_STAT_P2_WARM true
        s.lineDone p g r.1

/-! Strips (R151 to R157). -/

/-- A strip pushed (R152, R182): a push into a full FIFO is ignored. -/
def State.stripPush (s : State) (p : Nat) (x : Strip) : State :=
  if (s.planeAt p).strips.length ≥ 16 then s.setBit (R.SCR_PLANE_STAT p) F.SCR_PLANE_STAT_FIFO_OVF true
  else s.modPlane p (fun q => { q with strips := q.strips ++ [x] })

/-- The lines of a stored job that has been recorded so far. -/
def State.recordLines (s : State) (p k : Nat) : State :=
  match (s.planeAt p).job with
  | some j =>
    if j.stored ∧ !j.replay then
      { s with stored := s.stored.map (fun x => if x.no = j.no then { x with held := x.held + k } else x) }
    else s
  | none => s

/-- A commit (R153): the oldest strip becomes available, and its JOB_APPEND completes (R156). -/
def State.stripCommit (s : State) (p : Nat) : State :=
  match (s.planeAt p).strips with
  | [] => s.setBit (R.SCR_PLANE_STAT p) F.SCR_PLANE_STAT_FIFO_OVF true
  | x :: rest =>
    let s := s.modPlane p (fun q => { q with strips := rest, avail := (q.avail + x.count) % 2 ^ 48 })
    let s := s.recordLines p x.count
    match x.qp with
    | some q => s.finishCur q stOk (leBytes 8 (s.planeAt p).avail)
    | none => s

/-- Every strip whose data is in place is committed once it is the oldest (R153, R155, R157). -/
def State.commitReady (s : State) (p : Nat) : Nat → State
  | 0 => s
  | k + 1 =>
    match (s.planeAt p).strips with
    | x :: _ => if x.done then State.commitReady (s.stripCommit p) p k else s
    | [] => s

/-- The strips of plane `p` from the `j`-th on are dropped; their appends complete with FAULT (R156, R463). -/
def State.stripFail (s : State) (p j : Nat) : State :=
  let gone := (s.planeAt p).strips.drop j
  let s := s.modPlane p (fun q => { q with strips := q.strips.take j })
  s.forEach gone (fun s x => match x.qp with
    | some q => s.finishCur q stFault
    | none => s)

/-- RESET of SCR_PLANE_CTL (R181): ignored while a job of the plane is in RUNNING. -/
def State.scrReset (s : State) (p : Nat) : State :=
  if ((s.planeAt p).job.map (·.st)) = some .running then s
  else
    let s := s.stripFail p 0
    let s := s.setN (R.SCR_PLANE_STAT p) 0
    s.modPlane p (fun q => { q with done := 0, retired := 0, avail := 0, chg := 0, badln := 0 })

/-- PAUSE of SCR_PLANE_CTL (R181). -/
def State.scrPause (s : State) (p : Nat) (on : Bool) : State :=
  s.setBit (R.SCR_PLANE_CTL p) F.SCR_PLANE_CTL_PAUSE on

/-! Tables (R161 to R163, R172, R173). -/

/-- The curves of plane `p` in Bank S, as an offset and a size (R162). -/
def State.trcSpan (s : State) (p : Nat) : Nat × Nat :=
  (s.fld (R.SCR_PLANE_TRC p) F.SCR_PLANE_TRC_TRC_BASE * 256, (s.width p + 15) / 16 * 256)

/-- The array of slot `k` in Bank S, as an offset and a size (R163). -/
def State.arrSpan (s : State) (k : Nat) : Nat × Nat :=
  (0x100000 + s.fld (R.SCR_ARR_BASE k) F.SCR_ARR_BASE_ARR_BASE * 64,
    s.fld (R.SCR_ARR_SIZE k) F.SCR_ARR_SIZE_W_A * s.fld (R.SCR_ARR_SIZE k) F.SCR_ARR_SIZE_H_A * 4)

/-- A table written at Bank S offset `o` by DMA for Quill firmware, which keeps a copy of it in DRAM (R173, R386): whether the write
was permitted, and the state. Where in DRAM the copy lies the spec does not say; `tabCopy` holds it by Bank S offset. -/
def State.tableLoad (s : State) (o : Nat) (bs : List Nat) : Bool × State :=
  let r := s.busWrite 1 (bankS + o) bs
  (r.1, if r.1 then { r.2 with tabCopy := memWrite r.2.tabCopy o bs } else r.2)

/-- The table at `o` of `k` bytes written again from Quill firmware's copy (R173). -/
def State.tableRewrite (s : State) (o k : Nat) : State := s.quillWrite (bankS + o) (memRead s.tabCopy o k)

/-- STALL of SCR_PLANE_STAT cleared (R173, R182). -/
def State.stallClear (s : State) (p : Nat) : State :=
  (s.setBit (R.SCR_PLANE_STAT p) F.SCR_PLANE_STAT_STALL false).modPlane p (fun x => { x with stallAt := none })

/-- Quill firmware rewrites the failing table of plane `p` from its copy and clears STALL (R173): the array of its slot, or its
curves. -/
def State.stallRepair (s : State) (p : Nat) : State :=
  match (s.planeAt p).stallAt with
  | some w =>
    let t := if w * 8 < 0x100000 then s.trcSpan p else s.arrSpan (s.slotOf p)
    (s.tableRewrite t.1 t.2).stallClear p
  | none => s.stallClear p

end Sys2Proof.Machine
end

