-- ==== Sys2Proof/Machine/Dma.lean ====
section
/-! DEFINITION. The DMA engine (chapter "DMA engine"), and what Quill firmware does at its pulses (R154 to R156). The state,
the flags, the limit and the pointers of a channel have their home in its registers. -/
namespace Sys2Proof.Machine

/-- The two failures and the causes of R377. -/
def State.chState (s : State) (c : Nat) : Nat := s.fld (R.DMA_CH_STAT c) F.DMA_CH_STAT_STATE
def State.setChState (s : State) (c v : Nat) : State := s.setFld (R.DMA_CH_STAT c) F.DMA_CH_STAT_STATE v
def State.chFlag (s : State) (c : Nat) (f : Fld) : State := s.setBit (R.DMA_CH_STAT c) f true

/-- GHALT (R373). -/
def State.ghalt (s : State) : Bool := s.bit R.DMA_GSTAT F.DMA_GSTAT_GHALT

/-- The space and the address a pointer register pair holds (R379). -/
def ptrOf (v : Nat) : Nat × Nat := (v % 4, v / 32 * 32)
def State.chPtr (s : State) (c : Nat) : Nat × Nat := ptrOf (s.get64 (R.DMA_CH_PTR_LO c) (R.DMA_CH_PTR_HI c))
def State.setPtr (s : State) (c v : Nat) : State := s.set64 (R.DMA_CH_PTR_LO c) (R.DMA_CH_PTR_HI c) (v / 32 * 32 + v % 4)

/-- The holding-buffer blocks of channel `c` (R356, R374, R377). -/
def State.setBlk (s : State) (c k : Nat) : State :=
  let s := s.setFld (R.DMA_CH_STAT c) F.DMA_CH_STAT_BLK k
  let used := ((List.range 64).map (fun c => s.fld (R.DMA_CH_STAT c) F.DMA_CH_STAT_BLK)).foldl (· + ·) 0
  let s := s.setFld R.DMA_BUF F.DMA_BUF_USED used
  s.setFld R.DMA_BUF F.DMA_BUF_MAX_USED (max used (s.fld R.DMA_BUF F.DMA_BUF_MAX_USED))

/-- A chain begins at DMA_CH_START (R343, R370), with the limit given. -/
def State.chBegin (s : State) (c : Nat) (limit : Option Nat) : State :=
  let s := s.setChState c 1
  let s := s.setPtr c (s.get64 (R.DMA_CH_START_LO c) (R.DMA_CH_START_HI c))
  let s := s.setBit (R.DMA_CH_STAT c) F.DMA_CH_STAT_LIMITED limit.isSome
  let s := s.setFld (R.DMA_CH_SEQ c) F.DMA_CH_SEQ_LIMIT (limit.getD 0)
  s.modChan c (fun x => { release := x.release })

/-- A start (R343): `pulse` tells a start pulse from START. -/
def State.chStart (s : State) (c : Nat) (pulse : Bool) : State :=
  let lost := s.chFlag c F.DMA_CH_STAT_EVT_LOST
  let err := s.bit (R.DMA_CH_STAT c) F.DMA_CH_STAT_BUS_ERR || s.bit (R.DMA_CH_STAT c) F.DMA_CH_STAT_CHAIN_BREAK ||
    s.bit (R.DMA_CH_STAT c) F.DMA_CH_STAT_FETCH_ERR
  if s.ghalt then lost
  else
    match s.chState c with
    | 0 => s.chBegin c none
    | 1 | 2 =>
      if s.bit (R.DMA_CH_STAT c) F.DMA_CH_STAT_PEND then lost else s.chFlag c F.DMA_CH_STAT_PEND
    | 3 => if pulse ∨ err then lost else s.chBegin c none
    | _ => lost

/-- A doorbell ring (R344, R350). One that finds the channel IDLE under GHALT is a start and ignored (R364): that it sets DB_IGN is
DEDUCED, log entry 82. -/
def State.chRing (s : State) (c v : Nat) : State :=
  let nolim := bits v 16 1 = 1
  let lim := v % 65536
  let put := fun (s : State) =>
    (s.setBit (R.DMA_CH_STAT c) F.DMA_CH_STAT_LIMITED !nolim).setFld (R.DMA_CH_SEQ c) F.DMA_CH_SEQ_LIMIT
      (if nolim then 0 else lim)
  match s.chState c with
  | 0 =>
    if s.ghalt then s.chFlag c F.DMA_CH_STAT_DB_IGN else
    let s := (s.setN (R.DMA_CH_START_LO c) (s.getN (R.DMA_DB_PTR_LO c))).setN (R.DMA_CH_START_HI c)
      (s.getN (R.DMA_DB_PTR_HI c))
    s.chBegin c (if nolim then none else some lim)
  | 1 => put s
  | 2 =>
    let go := nolim || decide (lim ≠ s.fld (R.DMA_CH_SEQ c) F.DMA_CH_SEQ_SEQ)
    if go then ((put s).setChState c 1).modChan c (fun x => { x with reread := true }) else put s
  | _ => s.chFlag c F.DMA_CH_STAT_DB_IGN

/-! Requests (R346, R355, R358). -/

/-- Whether channel `c` waits to issue its next request for a descriptor. -/
def State.chWants (s : State) (c : Nat) : Bool := s.chState c = 1 && (s.chanAt c).desc.isNone

/-- Whether the engine serves channel `c` now (R346): among the channels that want to be served those with PRIO = 1 come first, and
of one class they are served round-robin. The requests of a descriptor are issued in the step that fetches it, so a channel is
changed at descriptor boundaries: DESIGN CHOICE, log entry 83. -/
def State.chTurn (s : State) (c : Nat) : Bool :=
  let prio := fun (k : Nat) => s.bit (R.DMA_CH_CFG k) F.DMA_CH_CFG_PRIO
  let all := (List.range 64).filter s.chWants
  let top := if all.any prio then all.filter prio else all
  ((List.range 64).map (fun j => (s.dmaTurn + 1 + j) % 64)).find? top.contains = some c

/-- The accesses into which one of `k` bytes at `a` is split at boundaries of `b` bytes, and none longer than `m` (R355). -/
def splitAt_ (b m : Nat) : Nat → Nat → Nat → List (Nat × Nat)
  | 0, _, _ => []
  | fuel + 1, a, k =>
    if k = 0 then []
    else
      let t := max 1 (min (min k m) (b - a % b))
      (a, t) :: splitAt_ b m fuel (a + t) (k - t)

/-- The accesses of the engine to `k` bytes at `a` of space `sp` (R355). -/
def State.dmaSplit (s : State) (write : Bool) (sp a k : Nat) : List (Nat × Nat) :=
  match sp with
  | 0 => splitAt_ 4096 (if write then s.pcie.mps else s.pcie.mrrs) k a k
  | 1 => splitAt_ 256 256 k a k
  | _ => splitAt_ 64 64 k a k

/-- The requests for host memory of an access to `k` bytes at `a` of space `sp`. -/
def State.hostReqs (s : State) (write : Bool) (sp a k : Nat) (ns : Bool) : State :=
  if sp = 0 then s.forEach (s.dmaSplit write 0 a k) (fun s x => s.emit (.hostReq write x.1 x.2 ns)) else s

/-- Read requests outstanding across all channels but `c` (R355). -/
def State.readsBut (s : State) (c : Nat) : Nat :=
  ((s.chans.filter (fun x => x.1 ≠ c)).map (fun x => x.2.reads)).foldl (· + ·) 0

/-! Pulses and Quill firmware (R154 to R156, R360). -/

/-- Quill firmware starts the chain of the oldest strip of plane `p` that has none running: the error bits a stop left are
cleared first (R364, R370). -/
def State.stripStart (s : State) (p : Nat) : State :=
  if ((s.planeAt p).strips).any (fun x => x.started && !x.done) then s
  else
    match ((s.planeAt p).strips).find? (fun x => x.chan.isSome && !x.started) with
    | none => s
    | some x =>
      let c := x.chan.getD 0
      let s := s.modPlane p (fun q => { q with
        strips := q.strips.map (fun y => if y.desc = x.desc ∧ y.chan = x.chan then { y with started := true } else y) })
      let s := s.setN (R.DMA_CH_STAT c) (setBits (s.getN (R.DMA_CH_STAT c)) 4 3 0)
      let s := s.set64 (R.DMA_CH_START_LO c) (R.DMA_CH_START_HI c) (x.desc + 1)
      s.chStart c false

/-- Whether a descriptor of a strip is marked bad (R155, R367). -/
def State.stripBad (s : State) (x : Strip) : Bool :=
  (List.range x.ndesc).any (fun j => bits (memReadN s.dram (x.desc + j * 32 + 24) 1) 3 1 = 1)

/-- The strip of plane `p` that channel `c` moves, by its place in the FIFO. -/
def State.stripOn (s : State) (p c : Nat) : Option Nat :=
  ((s.planeAt p).strips).findIdx? (fun x => x.chan = some c && x.started && !x.done)

/-- Quill firmware woken by the final pulse of a chain of channel `c` (R154, R155): on the SXV-3200 it commits the strip
where no descriptor is marked bad. The next strip of the plane is then started. -/
def State.chWake (s : State) (c : Nat) : State :=
  s.forEach (List.range 8) (fun s p =>
    let s := match s.part, s.stripOn p c with
      | .sxv3200, some j =>
        let x := (s.planeAt p).strips.getD j { count := 0 }
        if s.stripBad x then s.stripFail p j
        else
          (s.modPlane p (fun q => { q with
            strips := q.strips.modify j (fun y => { y with done := true }) })).commitReady p 16
      | _, _ => s.commitReady p 16
    s.stripStart p)

/-- Quill firmware learns that channel `c` has stopped (R156): the strip it moved has failed. -/
def State.chFailed (s : State) (c : Nat) : State :=
  s.forEach (List.range 8) (fun s p => match s.stripOn p c with
    | some j => s.stripFail p j
    | none => s)

/-- The pulse of a descriptor that is complete (R360). -/
def State.chPulse (s : State) (evt : Nat) : State :=
  if 0x10 ≤ evt ∧ evt < 0x18 then s.stripCommit (evt - 0x10)
  else if 0x40 ≤ evt ∧ evt < 0x80 then s.chStart (evt - 0x40) true
  else s

/-! Errors (R363 to R368). -/

/-- The bytes a descriptor was to write hold undefined data (R364, R367, R369): free values. A byte of on-chip memory the
engine may not write keeps its value. -/
def State.scramble (s : State) (d : Desc) : State :=
  s.forEach d.dstP (fun s x =>
    let (bs, s) := s.freshList x.2
    match d.dstSp with
    | 0 => s.hostWrite x.1 (bs.map (· % 256))
    | 1 => s.dramWrite x.1 (bs.map (· % 256))
    | _ => if s.refusal 1 x.1 x.2 true = none then s.chipWrite (aliasOf x.1).2 (bs.map (· % 256)) else s)

/-- The last host address a descriptor writes, where it writes any (R361, R362). -/
def Desc.hostEnd (d : Desc) : Option Nat :=
  if d.dstSp = 0 then (d.dstP.getLast?).map (fun x => x.1 + x.2 - 1) else none

/-- A descriptor in hand is given up (R364, R367): what it was to write is undefined. Some of its writes may have been issued. -/
def State.dropDesc (s : State) (c : Nat) : State :=
  match (s.chanAt c).desc with
  | some d => (s.scramble d).modChan c (fun x => { x with
      desc := none, reads := 0, hostTo := if d.hostEnd.isSome then d.hostEnd else x.hostTo })
  | none => s

/-- Channel `c` stops (R370): the descriptor in hand is lost. -/
def State.chStop (s : State) (c : Nat) : State := ((s.dropDesc c).setChState c 3).setBlk c 0

/-- Every channel stops (R364). -/
def State.chHalt (s : State) (c : Nat) : State :=
  let s := s.setFld R.DMA_GSTAT F.DMA_GSTAT_HALT_CH c
  let s := s.setBit R.DMA_GSTAT F.DMA_GSTAT_GHALT true
  let all := (List.range 64).filter (fun k => s.chState k ≤ 2)
  let s := s.forEach all (fun s k => s.chStop k)
  s.forEach (List.range 64) (fun s k => s.chFailed k)

/-- What every bus error does (R363): the event, the address and the cause. -/
def State.busErrLog (s : State) (c cause addr : Nat) : State :=
  let s := s.raiseCount 0x5003 c 14
  let s := s.set64 (R.DMA_CH_ERRADDR_LO c) (R.DMA_CH_ERRADDR_HI c) (addr % 2 ^ 64)
  let s := s.setFld (R.DMA_CH_STAT c) F.DMA_CH_STAT_CAUSE cause
  (s.chFlag c F.DMA_CH_STAT_BUS_ERR).bump (R.DMA_CH_CNT c) F.DMA_CH_CNT_ERR_CNT

/-- A descriptor or a table that cannot be read (R365). -/
def State.fetchFail (s : State) (c cause addr : Nat) : State :=
  let s := (s.busErrLog c cause addr).chFlag c F.DMA_CH_STAT_FETCH_ERR
  if s.part ≠ .sxv3200 then s.chHalt c else (s.chStop c).chFailed c

/-- The chain ends (R343, R370): a pending start begins the next one. -/
def State.chEnd (s : State) (c : Nat) : State :=
  if s.bit (R.DMA_CH_STAT c) F.DMA_CH_STAT_PEND then
    (s.setBit (R.DMA_CH_STAT c) F.DMA_CH_STAT_PEND false).chBegin c none
  else s.setChState c 0

/-- The chain goes on past the descriptor `d` (R349, R350, R370). -/
def State.chNext (s : State) (c : Nat) (d : Desc) : State :=
  let s := (s.setFld (R.DMA_CH_SEQ c) F.DMA_CH_SEQ_SEQ d.seq).setBlk c 0
  let s := s.modChan c (fun x => { x with desc := none, first := false, reads := 0 })
  if d.last then s.chEnd c
  else if s.bit (R.DMA_CH_STAT c) F.DMA_CH_STAT_LIMITED ∧ d.seq = s.fld (R.DMA_CH_SEQ c) F.DMA_CH_SEQ_LIMIT then
    s.setChState c 2
  else s.setPtr c (d.next + d.nextSp)

/-- A bus error on the data of descriptor `d` (R364, R367). On the SXV-3200 the descriptor is marked bad and the chain goes
on; a mark that cannot be written stops the channel (R365). -/
def State.dataErr (s : State) (c cause addr : Nat) (d : Desc) (moved : Bool) : State :=
  let s := s.busErrLog c cause addr
  if s.part ≠ .sxv3200 then s.chHalt c
  else
    let s := if moved then s.dropDesc c else s
    let (sp, a) := s.chPtr c
    let word := d.next + d.nextSp + (if d.last then 4 else 0) + 8
    let (ok, s) := match sp with
      | 0 => (true, ((s.hostWrite (a + 24) (leBytes 8 word)).hostReqs true 0 (a + 24) 8 d.ns).modChan c (fun x => { x with
          hostTo := some (a + 31) }))
      | 1 => (true, s.dramWrite (a + 24) (leBytes 8 word))
      | _ => s.busWrite 1 (a + 24) (leBytes 8 word)
    if ok then (s.bump (R.DMA_CH_CNT c) F.DMA_CH_CNT_BAD_CNT).chNext c d
    else ((s.chFlag c F.DMA_CH_STAT_FETCH_ERR).chStop c).chFailed c

/-! Descriptors (R347 to R354). -/

/-- A descriptor's 32 bytes read (R347). -/
def descOf (b : List Nat) : Desc :=
  let ctl := leAt b 22 2
  { src := leAt b 0 8, dst := leAt b 8 8, len := leAt b 16 3, evt := leAt b 19 1, seq := leAt b 20 2
    waitAck := bits ctl 0 1 = 1, ns := bits ctl 1 1 = 1, srcSg := bits ctl 2 1 = 1, dstSg := bits ctl 3 1 = 1
    srcW := bits ctl 4 3, dstW := bits ctl 7 3, swap := bits ctl 10 2, srcSp := bits ctl 12 2, dstSp := bits ctl 14 2
    nextSp := leAt b 24 1 % 4, last := bits (leAt b 24 1) 2 1 = 1, next := leAt b 24 8 / 32 * 32 }

/-- Whether an address lies beyond DRAM (R348). -/
def State.beyond (s : State) (sp a k : Nat) : Bool := sp = 1 && (decide (s.dramSize ≤ a) || decide (s.dramSize < a + k))

/-- The descriptor errors that need no table (R348, R352, R354). -/
def State.descBad (s : State) (d : Desc) : Bool :=
  let sw := 2 ^ d.srcW
  let dw := 2 ^ d.dstW
  decide (4 < d.srcW) || decide (4 < d.dstW) || d.srcSp = 3 || d.dstSp = 3 ||
    (if d.srcSg then d.src % 16 ≠ 0 || s.beyond d.srcSp d.src 0 else d.src % sw ≠ 0 || s.beyond d.srcSp d.src d.len) ||
    (if d.dstSg then d.dst % 16 ≠ 0 || s.beyond d.dstSp d.dst 0 else d.dst % dw ≠ 0 || s.beyond d.dstSp d.dst d.len) ||
    (!d.last && (d.nextSp = 3 || s.beyond d.nextSp d.next 0)) ||
    d.len % max sw dw ≠ 0 || (d.swap = 1 && d.len % 2 ≠ 0) || (2 ≤ d.swap && d.len % 4 ≠ 0)

/-- On-chip memory read in accesses (R363, R386): the first one refused or with an uncorrectable word, or the bytes. -/
def State.chipPieces (s : State) : List (Nat × Nat) → List Nat → Except (Nat × Nat) (List Nat) × State
  | [], acc => (.ok acc, s)
  | (a, k) :: rest, acc =>
    match s.busRead 1 a k with
    | (none, s) => (.error (4, a), s)
    | (some l, s) => match s.chipMeet (aliasOf a).2 k with
      | (some _, s) => (.error (2, a), s)
      | (none, s) => State.chipPieces s rest (acc ++ l)

/-- `k` bytes at `a` of a space as the engine reads them (R348, R355): host memory is what the command brings. The first failing
access and its cause, or the bytes. An uncorrectable word of DRAM is reported by its own address: DESIGN CHOICE, log entry 84. -/
def State.spRead (s : State) (sp a k : Nat) (host : Option (List Nat)) (ns : Bool := false) :
    Except (Nat × Nat) (List Nat) × State :=
  match sp with
  | 0 =>
    let s := s.hostReqs false 0 a k ns
    match host with
    | some l => (.ok ((l ++ List.replicate k 0).take k), s)
    | none => (.error (1, a), s)
  | 1 =>
    match s.dramFaulty a k with
    | some w => (.error (2, w * 8), s.eccUncorr 6 w)
    | none => (.ok (memRead s.dram a k), s)
  | _ => s.chipPieces (s.dmaSplit false sp a k) []

/-- Entries of a table, at most 256 (R354). -/
def sgEntries (t : List Nat) : List (Nat × Nat) :=
  (List.range (min 256 (t.length / 16))).map (fun j => (leAt t (j * 16) 8, leAt t (j * 16 + 8) 3))

/-- The pieces that cover `need` bytes (R354): none where the entries do not cover them, or break the rules of a width of
`w` bytes. -/
def sgTake (w : Nat) : Nat → List (Nat × Nat) → Option (List (Nat × Nat))
  | 0, _ => some []
  | _, [] => none
  | need, (a, l) :: rest =>
    if l = 0 then sgTake w need rest
    else if a % w ≠ 0 then none
    else if need ≤ l then some [(a, need)]
    else if l % w ≠ 0 then none
    else (sgTake w (need - l) rest).map (fun x => (a, l) :: x)

/-- How many bytes of a table the engine reads to cover `need` bytes: the entries taken. -/
def sgUsed : Nat → List (Nat × Nat) → Nat
  | 0, _ => 0
  | _, [] => 0
  | need, (_, l) :: rest => 16 + sgUsed (need - l) rest

/-- The pieces of one side of a descriptor (R354): an error of the read of its table, or a descriptor error, or the
pieces. -/
def State.sidePieces (s : State) (sg : Bool) (sp a w len : Nat) (host : Option (List Nat)) (ns : Bool) :
    Except (Nat × Nat) (Option (List (Nat × Nat))) × State :=
  if len = 0 then (.ok (some []), s)
  else if !sg then (.ok (some [(a, len)]), s)
  else
    let peek := match sp with
      | 0 => (host.getD []).take 4096
      | 1 => memRead s.dram a 4096
      | _ => s.chipRead (aliasOf a).2 4096
    let k := sgUsed len (sgEntries peek)
    match s.spRead sp a k host ns with
    | (.error e, s) => (.error e, s)
    | (.ok t, s) =>
      let l := sgTake (2 ^ w) len (sgEntries t)
      let l := if (l.getD []).any (fun x => s.beyond sp x.1 x.2) then none else l
      (.ok l, s)

/-- The read engine issues the first reads of descriptor `d` (R355, R356): `blk` is how many blocks it asks for, of which it claims what
MAX_BLK and the free blocks allow; the reads that fill them are outstanding, as far as 256 across all channels allow. It reads into no
next descriptor before its turn, which R356 permits and does not demand. -/
def State.chClaim (s : State) (c : Nat) (d : Desc) (blk : Nat) : State :=
  let used := s.fld R.DMA_BUF F.DMA_BUF_USED
  let cap := clampN 1 256 (s.fld (R.DMA_CH_CFG c) F.DMA_CH_CFG_MAX_BLK)
  let k := min (min blk cap) (min (256 - used) ((d.len + 1023) / 1024))
  let reads := (d.srcP.map (fun x => (s.dmaSplit false d.srcSp x.1 (min x.2 (k * 1024))).length)).foldl (· + ·) 0
  (s.modChan c (fun x => { x with desc := some d, reads := min reads (256 - s.readsBut c) })).setBlk c k

/-- Whether the data of the descriptor in hand can move (R356): it has none, or its channel holds a block, or one is free. -/
def State.chRoom (s : State) (c : Nat) (d : Desc) : Bool :=
  d.len = 0 || decide (s.fld (R.DMA_CH_STAT c) F.DMA_CH_STAT_BLK ≠ 0) || decide (s.fld R.DMA_BUF F.DMA_BUF_USED < 256)

/-- The fetched descriptor of channel `c` (R349, R352, R366, R368): its data may move, or it ends here. -/
def State.chAccept (s : State) (c : Nat) (b : List Nat) (src dst : Option (List Nat)) (blk : Nat) : State :=
  let d := descOf b
  let x := s.chanAt c
  if !x.first ∧ d.seq ≠ (s.fld (R.DMA_CH_SEQ c) F.DMA_CH_SEQ_SEQ + 1) % 65536 then
    (((s.raiseCount 0x5004 c 15).chFlag c F.DMA_CH_STAT_CHAIN_BREAK).chStop c).chFailed c
  else
    let bad := fun (s : State) => let (f, s) := s.fresh; s.dataErr c 5 f d false
    if s.descBad d then bad s
    else
      let ns := s.bit (R.DMA_CH_CFG c) F.DMA_CH_CFG_DESC_NS
      match s.sidePieces d.srcSg d.srcSp d.src d.srcW d.len src ns with
      | (.error e, s) => s.fetchFail c e.1 e.2
      | (.ok none, s) => bad s
      | (.ok (some sp), s) =>
        match s.sidePieces d.dstSg d.dstSp d.dst d.dstW d.len dst ns with
        | (.error e, s) => s.fetchFail c e.1 e.2
        | (.ok none, s) => bad s
        | (.ok (some dp), s) => s.chClaim c { d with srcP := sp, dstP := dp } blk

/-- The ECC errors of the engine's reads (R393 to R395): the corrected words are counted, and the word that `bad` names is uncorrectable
from now on, for its reader to meet. -/
def State.dmaEcc (s : State) (e : EccIn) : State :=
  let s := s.eccMeet [0, 1, 3, 4, 5, 6] { e with bad := none }
  match e.bad with
  | some (b, a) => s.wordBad b a
  | none => s

/-- A descriptor fetched (R348, R349, R365), in the turn of its channel (R346). `host` is what a fetch from host memory brought, none where it failed; `src`
and `dst` are what the reads of tables in host memory brought. After WAIT, the first fetch re-reads the descriptor processed
last and takes its NEXT word (R344, R350). -/
def State.chFetch (s : State) (c : Nat) (host src dst : Option (List Nat)) (blk : Nat) (ecc : EccIn) : State :=
  if !s.chTurn c then s
  else
    let s := { s with dmaTurn := c }.dmaEcc ecc
    let (sp, a) := s.chPtr c
    if sp = 3 ∨ s.beyond sp a 32 then s.fetchFail c 5 a
    else
      match s.spRead sp a 32 host (s.bit (R.DMA_CH_CFG c) F.DMA_CH_CFG_DESC_NS) with
      | (.error e, s) => s.fetchFail c e.1 e.2
      | (.ok b, s) =>
        if (s.chanAt c).reread then
          let s := s.modChan c (fun x => { x with reread := false })
          let d := descOf b
          if d.last then s.chEnd c else s.setPtr c (d.next + d.nextSp)
        else s.chAccept c b src dst blk

/-! The data (R351, R353). -/

/-- Groups of a stream swapped (R353). -/
def swapBytes : Nat → List Nat → List Nat
  | 1, a :: b :: l => b :: a :: swapBytes 1 l
  | 2, a :: b :: c :: d :: l => d :: c :: b :: a :: swapBytes 2 l
  | 3, a :: b :: c :: d :: l => c :: d :: a :: b :: swapBytes 3 l
  | _, l => l

/-- The elements of a piece: `k` bytes in accesses of `w` bytes. -/
def elements (a w : Nat) : Nat → List Nat
  | 0 => []
  | k + 1 => a :: elements (a + w) w k

/-- The bytes of the pieces of a source, read in ascending order: the first failing access, or the stream. -/
def State.pullData (s : State) (ns : Bool) (sp w : Nat) : List (Nat × Nat) → List Nat → List Nat →
    Except (Nat × Nat) (List Nat) × State
  | [], _, acc => (.ok acc, s)
  | (a, k) :: rest, host, acc =>
    match sp with
    | 0 =>
      State.pullData (s.hostReqs false 0 a k ns) ns sp w rest (host.drop k) (acc ++ (host ++ List.replicate k 0).take k)
    | 1 =>
      match s.spRead 1 a k none with
      | (.error e, s) => (.error e, s)
      | (.ok l, s) => State.pullData s ns sp w rest host (acc ++ l)
    | _ =>
      let r := (elements a w (k / w)).foldl (fun (x : Except (Nat × Nat) (List Nat) × State) a =>
        match x.1 with
        | .error _ => x
        | .ok l => match x.2.spRead 2 a w none with
          | (.error e, s) => (.error e, s)
          | (.ok b, s) => (.ok (l ++ b), s)) (.ok acc, s)
      match r with
      | (.error e, s) => (.error e, s)
      | (.ok l, s) => State.pullData s ns sp w rest host l

/-- The stream written to the pieces of a destination in ascending order: the first refused address, and the state. -/
def State.pushData (s : State) (ns : Bool) (sp w : Nat) : List (Nat × Nat) → List Nat → Option Nat × State
  | [], _ => (none, s)
  | (a, k) :: rest, l =>
    match sp with
    | 0 => State.pushData ((s.hostWrite a (l.take k)).hostReqs true 0 a k ns) ns sp w rest (l.drop k)
    | 1 => State.pushData (s.dramWrite a (l.take k)) ns sp w rest (l.drop k)
    | _ =>
      let r := ((elements a w (k / w)).zip (List.range (k / w))).foldl (fun (x : Option Nat × State) e =>
        match x.1 with
        | some _ => x
        | none =>
          let y := x.2.busWrite 1 e.1 ((l.drop (e.2 * w)).take w)
          (if y.1 then none else some e.1, y.2)) (none, s)
      match r with
      | (some a, s) => (some a, s)
      | (none, s) => State.pushData s ns sp w rest (l.drop k)

/-- The zero-length read that confirms the writes of channel `c` to host memory (R361, R362). -/
def State.chConfirm (s : State) (c : Nat) (d : Desc) : State :=
  match d.waitAck, (s.chanAt c).hostTo with
  | true, some a => s.emit (.hostReq false a 0 d.ns)
  | _, _ => s

/-- The descriptor of channel `c` completes (R351, R360): its data moves, its pulse is sent, and the chain goes on. `data` is
what its reads of host memory brought, `ecc` the errors of its other reads. -/
def State.chComplete (s : State) (c : Nat) (data : List Nat) (ecc : EccIn) : State :=
  match s.chState c, (s.chanAt c).desc with
  | 1, some d =>
    if !s.chRoom c d then s else
    let s := (s.dmaEcc ecc).setBlk c (max (min 1 d.len) (s.fld (R.DMA_CH_STAT c) F.DMA_CH_STAT_BLK))
    match s.pullData d.ns d.srcSp (2 ^ d.srcW) d.srcP data [] with
    | (.error e, s) => s.dataErr c e.1 e.2 d true
    | (.ok l, s) =>
      match s.pushData d.ns d.dstSp (2 ^ d.dstW) d.dstP (swapBytes d.swap l) with
      | (some a, s) => s.dataErr c 4 a d true
      | (none, s) =>
        let s := s.modChan c (fun x => { x with hostTo := match d.hostEnd with
          | some a => some a
          | none => x.hostTo })
        let s := ((s.chConfirm c d).chPulse d.evt).chNext c d
        if d.evt = 0x20 then s.chWake c else s
  | _, _ => s

/-- An access of channel `c` fails (R363, R365): cause 1 a completion with UR or CA, 2 a poisoned one or an uncorrectable error. Without
a descriptor in hand it is that of the fetch. -/
def State.chBusErr (s : State) (c cause addr : Nat) : State :=
  match s.chState c, (s.chanAt c).desc with
  | 1, none => if (cause = 1 ∧ (s.chPtr c).1 = 0) ∨ cause = 2 then s.fetchFail c cause addr else s
  | 1, some d =>
    let host := (d.srcSp = 0 && decide (d.srcP ≠ [])) || (d.waitAck && ((s.chanAt c).hostTo.isSome || d.hostEnd.isSome))
    let mem := cause = 2 && decide (d.srcP ≠ [])
    if (cause = 1 && host) || (cause = 2 && (host || mem)) then s.dataErr c cause addr d true else s
  | _, _ => s

/-- A read of channel `c` is not completed within 2 µs (R363, R365): the fetch, a data read, or the zero-length read of R361. -/
def State.chTimeout (s : State) (c addr : Nat) : State :=
  match s.chState c, (s.chanAt c).desc with
  | 1, none => s.fetchFail c 3 addr
  | 1, some d =>
    if d.srcP ≠ [] ∨ (d.waitAck ∧ ((s.chanAt c).hostTo.isSome ∨ d.hostEnd.isSome)) then s.dataErr c 3 addr d true else s
  | _, _ => s

/-- DISABLE set (R369, R370): the data moved, DMA_CH_PTR and the destination are undefined. -/
def State.chDisable (s : State) (c : Nat) : State :=
  let s := s.setBit (R.DMA_CH_CTL c) F.DMA_CH_CTL_DISABLE true
  if 4 ≤ s.chState c then s
  else
    let (f, s) := (s.dropDesc c).fresh
    (s.setPtr c (f % 2 ^ 64)).setChState c 4

/-- DISABLE cleared (R369, R370). -/
def State.chEnable (s : State) (c : Nat) : State :=
  let s := s.setBit (R.DMA_CH_CTL c) F.DMA_CH_CTL_DISABLE false
  if s.chState c = 5 then (s.setBit (R.DMA_CH_STAT c) F.DMA_CH_STAT_PEND false).setChState c 0 else s

/-- The outstanding requests of a channel in DRAIN have ended (R369): DISABLED, the blocks freed; a DISABLE cleared meanwhile
takes it on to IDLE. -/
def State.chDrained (s : State) (c : Nat) : State :=
  if s.chState c ≠ 4 then s
  else
    let s := (s.setBlk c 0).setChState c 5
    if s.bit (R.DMA_CH_CTL c) F.DMA_CH_CTL_DISABLE then s else s.chEnable c

/-- The channel reserved for host chains given back (R375, R461): HOST is cleared where the channel rests; else Quill firmware
disables it and does so once it is DISABLED. -/
def State.chRelease (s : State) (c : Nat) : State :=
  if s.chState c = 0 ∨ s.chState c = 5 then s.setBit (R.DMA_CH_CFG c) F.DMA_CH_CFG_HOST false
  else (s.chDisable c).modChan c (fun x => { x with release := true })

/-- Quill firmware finds a channel it gives back DISABLED (R369, R375): it clears HOST and then DISABLE. -/
def State.chReleased (s : State) (c : Nat) : State :=
  if s.chState c ≠ 5 ∨ !(s.chanAt c).release then s
  else ((s.setBit (R.DMA_CH_CFG c) F.DMA_CH_CFG_HOST false).chEnable c).modChan c (fun x => { x with release := false })

/-- The channel whose descriptor in hand writes to internal address `a`. -/
def State.chanOn (s : State) (a : Nat) : Option Nat :=
  (List.range 64).find? (fun c => s.chState c = 1 && (match (s.chanAt c).desc with
    | some d => d.dstSp = 2 && d.dstP.any (fun x => decide (x.1 ≤ a) && decide (a < x.1 + x.2))
    | none => false))

/-- A write of master `m` (0 Quill, 1 DMA, 3 drop verification) to an alias window (R388, R390, R391): `set` chooses the window,
`a` is the address beneath, `data` has `k` bytes. BAR2 reaches no window. Refused, it aborts the Quill core, or is a bus error of the
DMA channel that makes it, or is dropped. -/
def State.aliasWrite (s : State) (set : Bool) (m a k data : Nat) : State :=
  let a := a % 0x1000000 + (if set then 0x1000000 else 0x2000000)
  let r := s.busWrite m a (leBytes k data)
  match m with
  | 0 => s.quillWrite a (leBytes k data)
  | 1 =>
    match r.1, s.chanOn a with
    | false, some c => match (s.chanAt c).desc with
      | some d => r.2.dataErr c 4 a d true
      | none => r.2
    | _, _ => r.2
  | 3 => r.2
  | _ => s

/-- GHALT cleared (R364, R373). -/
def State.ghaltClear (s : State) : State := s.setBit R.DMA_GSTAT F.DMA_GSTAT_GHALT false

end Sys2Proof.Machine
end

