-- ==== Sys2Proof/Machine/Jobs.lean ====
section
/-! DEFINITION. Jobs: their states, their end, and the Zielo commands for planes, screens and jobs (R138 to R172, R456,
R459 to R463). -/
namespace Sys2Proof.Machine

/-! Arguments (R447 to R449). -/

/-- The mode a command is tested against (R449): while a mode change is under way, the mode that results. -/
def State.cmdMode (s : State) : Mode :=
  if s.pw.parkPend then .park else (s.pw.wake).getD s.mode

/-- The tests of R449 that come before a command's own: its modes, and the length of its arguments (R448). -/
def State.gate (s : State) (q : Nat) (c : Cmd) (modes : List Mode) (len : Nat) (f : State → State) : State :=
  if !modes.contains s.cmdMode then
    s.finish q c (if s.cmdMode = .boot ∨ s.cmdMode = .idle then stNotReady else stDenied)
  else if c.args.length < len then s.finish q c stBadArg
  else f s

/-- The modes of R452 that most commands allow. -/
def modesCPSI : List Mode := [.config, .print, .service, .idle]
def modesAll : List Mode := [.boot, .config, .print, .service, .idle, .park]

/-- An argument field (R447). -/
def Cmd.arg (c : Cmd) (off k : Nat) : Nat := leAt c.args off k

/-! Planes (R138, R162, R187, R456). -/

/-- The largest sum of widths of the part (R138). -/
def Part.columns : Part → Nat
  | .sxv3200 => 65536 | .sxv1600 => 32768 | .sxv0800 => 16384

/-- The first and last curve of plane `p` (R162), where it is defined. -/
def State.curves (s : State) (p : Nat) : Option (Nat × Nat) :=
  if !(s.planeAt p).defined then none
  else
    let b := s.fld (R.SCR_PLANE_TRC p) F.SCR_PLANE_TRC_TRC_BASE
    some (b, b + (s.width p + 15) / 16 - 1)

/-- Whether two spans of columns share one: a span of no columns shares none. -/
def spansMeet (c k c' k' : Nat) : Bool := decide (k ≠ 0) && decide (k' ≠ 0) && decide (c < c' + k') && decide (c' < c + k)

/-- The first column and the number of columns that port `n` serves of its plane (R186). -/
def State.colSpan (s : State) (n : Nat) : Nat × Nat :=
  (s.fld (R.NZP_MAP_COL n) F.NZP_MAP_COL_COL0, s.fld (R.NZP_MAP_COL n) F.NZP_MAP_COL_NCOL)

/-- The checks of R187 on the heads of plane `p` under width `w`: used columns past a head's own or past the plane's, or a column
served twice. -/
def State.spansBad (s : State) (p w : Nat) : Bool :=
  (s.portsOf p).any (fun n =>
    decide (s.nprSet n < (s.mapRegs n).uofs + (s.colSpan n).2) || decide (w < (s.colSpan n).1 + (s.colSpan n).2) ||
      (s.portsOf p).any (fun m => decide (m ≠ n) &&
        spansMeet (s.colSpan n).1 (s.colSpan n).2 (s.colSpan m).1 (s.colSpan m).2))

/-- The checks of R138, R162 and R187 on a new width and first curve of plane `p`. -/
def State.planeBad (s : State) (p w trc : Nat) : Bool :=
  let others := (List.range 8).filter (fun x => x ≠ p ∧ (s.planeAt x).defined)
  let hi := trc + (w + 15) / 16 - 1
  w = 0 || decide (65536 < w) || decide (s.part.columns < (others.map s.width).foldl (· + ·) w) || decide (4095 < hi) ||
    others.any (fun x => match s.curves x with
      | some (a, b) => decide (trc ≤ b) && decide (a ≤ hi)
      | none => false) || s.spansBad p w

/-- PLANE_DEFINE (R456). -/
def State.planeDefine (s : State) (q : Nat) (c : Cmd) : State :=
  let p := c.arg 0 1
  let op := c.arg 1 1
  let w := c.arg 4 4
  let trc := c.arg 8 2
  if 7 < p ∨ 1 < op ∨ c.arg 2 2 ≠ 0 ∨ c.arg 10 2 ≠ 0 ∨ (op = 1 ∧ s.planeBad p w trc) then s.finish q c stBadArg
  else if (s.planeAt p).job.isSome ∨ (op = 0 ∧ s.portsOf p ≠ []) then s.finish q c stBusy
  else
    let put := fun (s : State) (w trc : Nat) (on : Bool) =>
      ((s.setN (R.SCR_PLANE_WIDTH p) w).setN (R.SCR_PLANE_TRC p) trc).modPlane p (fun x => { x with defined := on })
    let s := if op = 0 then put s 0 0 false else (put s w trc true).setN (R.DCT_PLANE_THROW p) (c.arg 12 4)
    s.finish q c stOk

/-! Tables (R163, R170 to R172, R459, R460). -/

/-- A table change of plane `p` (R172). -/
def State.tableChanged (s : State) (p : Nat) : State := s.modPlane p (fun x => { x with chgDue := true })

/-- SCREEN_LOAD (R459). `data` is what the read of SRC brought, none where it failed. -/
def State.screenLoad (s : State) (q : Nat) (c : Cmd) (data : Option (List Nat)) : State :=
  let bad := s.finish q c stBadArg
  match c.arg 0 1 with
  | 1 =>
    let k := c.arg 1 1
    let w := c.arg 4 2
    let h := c.arg 6 2
    let base := c.arg 8 4
    if c.args.length < 24 ∨ 7 < k ∨ c.arg 2 2 ≠ 0 ∨ w = 0 ∨ 512 < w ∨ h = 0 ∨ 512 < h ∨
        0x100000 < w * h * 4 + base ∨ base % 64 ≠ 0 ∨ c.arg 12 4 ≠ 0 then bad
    else if (List.range 8).any (fun p => s.slotOf p = k && s.fmt p = 1 &&
        ((s.planeAt p).job.map (·.st)) = some .running) then s.finish q c stDenied
    else match data with
      | none => s.finish q c stFault
      | some d =>
        let r := s.tableLoad (0x100000 + base) ((d ++ List.replicate (w * h * 4) 0).take (w * h * 4))
        if !r.1 then r.2.finish q c stFault
        else
          let s := (r.2.setN (R.SCR_ARR_SIZE k) (w + h * 65536)).setN (R.SCR_ARR_BASE k) base
          (s.tablesWritten (bankS + 0x100000 + base) (w * h * 4)).finish q c stOk
  | 2 =>
    let p := c.arg 1 1
    let k := c.arg 2 1
    if c.args.length < 8 ∨ 7 < p ∨ !(s.planeAt p).defined ∨ 7 < k ∨ !s.slotValid k ∨ 1 < c.arg 3 1 ∨
        511 < c.arg 4 2 ∨ 511 < c.arg 6 2 then bad
    else
      let s := s.setFld (R.SCR_PLANE_CFG p) F.SCR_PLANE_CFG_ARRAY k
      let s := s.setFld (R.SCR_PLANE_CFG p) F.SCR_PLANE_CFG_DBL_EN (c.arg 3 1)
      let s := s.setN (R.SCR_PLANE_OFS p) (c.arg 4 2 + c.arg 6 2 * 65536)
      (s.tableChanged p).finish q c stOk
  | _ => bad

/-- TRC_LOAD (R460): the curves are written between two lines (R170). -/
def State.trcLoad (s : State) (q : Nat) (c : Cmd) (data : Option (List Nat)) : State :=
  let lo := c.arg 0 2
  let k := c.arg 2 2
  let hi := lo + k - 1
  let split := (List.range 8).any (fun p => match s.curves p with
    | some (a, b) => decide (lo ≤ b) && decide (a ≤ hi) && !(decide (a ≤ lo) && decide (hi ≤ b))
    | none => false)
  if k = 0 ∨ 4096 < k ∨ 4095 < hi ∨ c.arg 4 4 ≠ 0 ∨ split then s.finish q c stBadArg
  else match data with
    | none => s.finish q c stFault
    | some d =>
      let r := s.tableLoad (lo * 256) ((d ++ List.replicate (k * 256) 0).take (k * 256))
      if !r.1 then r.2.finish q c stFault
      else
        let own := (List.range 8).filter (fun p => match s.curves p with
          | some (a, b) => decide (a ≤ lo) && decide (hi ≤ b)
          | none => false)
        (r.2.forEach own State.tableChanged).finish q c stOk

/-! DRAM (R145, R158, R461). -/

/-- The bytes of a code line (R158). -/
def lineSize (w : Nat) : Nat := codesSize w + doubleSize w

/-- The DRAM ranges that jobs hold: images and code rings of open jobs, and stored jobs. -/
def State.dramHeld (s : State) : List (Nat × Nat) :=
  let open_ := (List.range 8).filter (fun p => (s.planeAt p).job.isSome)
  open_.map (fun p => (s.imgBase p, s.imgLines p * imgStride (s.fmt p) (s.width p))) ++
    open_.map (fun p => (s.codeAddr p 0, s.ringDepth p * lineSize (s.width p))) ++
    s.stored.map (fun x => (x.base, x.imgLines * imgStride x.fmt x.width))

/-- Whether `k` bytes at `a` of DRAM may be allocated. -/
def State.dramFree (s : State) (held : List (Nat × Nat)) (a k : Nat) : Bool :=
  a % 64 = 0 && decide (a + k ≤ s.dramSize) && held.all (fun x => decide (a + k ≤ x.1) || decide (x.1 + x.2 ≤ a))

/-- span_p of R160. -/
def State.span (s : State) (p : Nat) : Nat :=
  match s.planeRows p with
  | [] => 0
  | i :: l =>
    let lo := l.foldl (fun a j => min a (s.org j)) (s.org i)
    let hi := l.foldl (fun a j => max a (s.org j)) (s.org i)
    let pit := max 1 (l.foldl (fun a j => min a (s.pitch j)) (s.pitch i))
    ((hi - lo).toNat * 65536 + pit - 1) / pit

/-- The smallest depth from `d` on that meets a bound (R160). -/
def depthFor (need : Nat) : Nat → Nat → Nat
  | 0, d => d
  | k + 1, d => if 2 ^ d < need then depthFor need k (d + 1) else d

/-- A DMA channel that is free: the lowest that rests, is not reserved for host chains, and moves no strip. One to be reserved for host
chains is IDLE, because a write of its DMA_CH_CFG has an effect there (R375); Quill firmware takes a STOPPED one for its own strips,
which START restarts (R370). -/
def State.freeChannel (s : State) (host : Bool) : Option Nat :=
  if s.ghalt then none
  else (List.range 64).find? (fun c => (s.chState c = 0 || (!host && s.chState c = 3)) &&
    !s.bit (R.DMA_CH_CFG c) F.DMA_CH_CFG_HOST && !s.planes.any (fun p => p.2.strips.any (fun x => x.chan = some c)))

/-! The end of a job (R149, R236, R461). -/

/-- The job of plane `p` is gone: its ring and its stream buffer are free, its channel is given back, and IW_EN is set again
once RUN has cleared. -/
def State.jobGone (s : State) (p : Nat) : State :=
  match (s.planeAt p).job with
  | none => s
  | some j =>
    let s := { s with pw := { s.pw with noJobAt := s.now } }.modPlane p (fun x => { x with
      job := none, iwRestore := x.iwRestore ++ j.iwCleared })
    match j.channel with
    | some c => s.chRelease c
    | none => s

/-- IW_EN set again at a tick boundary once no row of the plane has RUN = 1 (R236). -/
def State.iwRestore (s : State) (p : Nat) : State :=
  if (s.planeAt p).iwRestore = [] ∨ s.planeRun p ∨ s.bit (R.DCT_PLANE_CTL p) F.DCT_PLANE_CTL_ARM then s
  else
    let s := s.forEach (s.planeAt p).iwRestore (fun s n =>
      if (s.portAt n).barred ∨ (s.portAt n).plane ≠ some p then s
      else s.setBit (R.NZP_TH_CFG n) F.NZP_TH_CFG_IW_EN true)
    s.modPlane p (fun x => { x with iwRestore := [] })

/-- A job aborted (R149): HALT, the pending strips fail, the ring is discarded; FREE releases a stored job that no other open
job uses (R146). -/
def State.jobAbort (s : State) (p : Nat) (free : Bool) : State :=
  match (s.planeAt p).job with
  | none => s
  | some j =>
    let s := s.setBit (R.DCT_PLANE_CTL p) F.DCT_PLANE_CTL_HALT true
    let s := (s.stripFail p 0).jobGone p
    let used := s.planes.any (fun x => match x.2.job with
      | some k => k.stored && k.no = j.no
      | none => false)
    if free ∧ j.stored ∧ !used then { s with stored := s.stored.filter (·.no ≠ j.no) } else s

/-- RETIRED has passed END(p) (R149). -/
def State.jobEnd (s : State) (p : Nat) : State :=
  match (s.planeAt p).job with
  | some j => if j.st = .running ∧ j.armed ∧ j.lastLine < s.retiredNow p then s.jobGone p else s
  | none => s

/-! Running (R149, R150, R236). -/

/-- Whether a job in OPEN may run (R149). START is written only while RUN is 0 (R104), so the job waits for the boundary at which the
rows of an earlier job stop: DEDUCED, log entry 80. -/
def State.jobReady (s : State) (p : Nat) : Bool :=
  match (s.planeAt p).job with
  | none => false
  | some j =>
    let done := (s.planeAt p).done
    s.mode = .print && j.st = .opened && !s.planeRun p &&
      (decide (min 256 (j.lastLine + 1) ≤ done) || (j.closed.isSome && decide (j.lastLine < done)))

/-- START(p) and END(p) of the job in their registers (R149). -/
def State.putGrid (s : State) (p : Nat) (j : Job) : State :=
  (s.set64 (R.DCT_PLANE_START_LO p) (R.DCT_PLANE_START_HI p) j.start).set64
    (R.DCT_PLANE_END_LO p) (R.DCT_PLANE_END_HI p) j.lastLine

/-- A job enters RUNNING (R149): IW_EN of the plane's heads is cleared, and ARM follows at once where it has been 0 for 8
ticks. -/
def State.jobRunning (s : State) (p : Nat) : State :=
  if !s.jobReady p then s
  else
    match (s.planeAt p).job with
    | none => s
    | some j =>
      let k := s.tick.getD 0
      let ports := s.portsOf p
      let on := ports.filter (fun n => s.bit (R.NZP_TH_CFG n) F.NZP_TH_CFG_IW_EN)
      let rested := on = [] && ports.all (fun n => match (s.portAt n).iwOff with
        | some t => decide (t + 8 ≤ k)
        | none => false)
      let s := s.putGrid p j
      let s := s.forEach on (fun s n => s.setBit (R.NZP_TH_CFG n) F.NZP_TH_CFG_IW_EN false)
      let s := if rested then s.setBit (R.DCT_PLANE_CTL p) F.DCT_PLANE_CTL_ARM true else s
      s.modPlane p (fun x => { x with job := some { j with
        st := .running, iwCleared := j.iwCleared ++ on, armed := rested, armWait := if rested then none else some k } })

/-- The 8 ticks of R149 are over: ARM is set. -/
def State.jobArm (s : State) (p : Nat) : State :=
  match (s.planeAt p).job with
  | some j =>
    match j.armWait with
    | some t =>
      if s.mode ≠ .print then s
      else
        let s := (s.advTo ((t + 8) * 8000)).setBit (R.DCT_PLANE_CTL p) F.DCT_PLANE_CTL_ARM true
        s.modPlane p (fun x => { x with job := some { j with armed := true, armWait := none } })
    | none => s
  | none => s

/-- The condition of RUNNING fails before ARM (R149): IW_EN is set again, and the job waits anew. -/
def State.jobCheck (s : State) (p : Nat) : State :=
  match (s.planeAt p).job with
  | some j =>
    if j.armWait.isSome ∧ s.mode ≠ .print then
      let s := s.modPlane p (fun x => { x with
        iwRestore := x.iwRestore ++ j.iwCleared, job := some { j with st := .opened, armWait := none, iwCleared := [] } })
      s.iwRestore p
    else s
  | none => s

/-! JOB_OPEN (R461). -/

/-- The argument checks of JOB_OPEN that need no stored job (R148 to R150, R448, R461). -/
def State.openBad (s : State) (c : Cmd) : Bool :=
  let p := c.arg 0 1
  let fl := c.arg 1 1
  let stored := bits fl 0 1 = 1
  let replay := bits fl 1 1 = 1
  decide (7 < p) || !(s.planeAt p).defined || decide (31 < fl) || (replay && !stored) ||
    (!replay && (c.arg 2 1 = 0 || decide (3 < c.arg 2 1))) || (stored && decide (15 < c.arg 3 1)) ||
    decide (c.arg 4 1 < 10) || decide (16 < c.arg 4 1) || c.arg 5 1 = 0 || decide (16 < c.arg 5 1) || c.arg 7 1 ≠ 0 ||
    (!stored && (c.arg 16 4 = 0 || decide (2 ^ 24 ≤ c.arg 16 4))) ||
    (!replay && (c.arg 20 4 = 0 || decide (2 ^ 24 ≤ c.arg 20 4))) || (stored && !replay && decide (2 ^ 48 ≤ c.arg 28 8))

/-- The layout of the job JOB_OPEN asks for: from the stored job on REPLAY, from the command otherwise (R145, R461). -/
def State.openLayout (s : State) (c : Cmd) : Option StoredJob :=
  let fl := c.arg 1 1
  let p := c.arg 0 1
  if bits fl 1 1 = 1 then s.stored.find? (fun x => x.no = c.arg 3 1 && x.width = s.width p)
  else
    let page := c.arg 20 4
    let per := page + c.arg 24 2
    let jl := if bits fl 0 1 = 1 then c.arg 28 8 else 0
    some { no := c.arg 3 1, fmt := c.arg 2 1, width := s.width p, page := page, gap := c.arg 24 2, jobLines := jl
           base := 0, imgLines := if bits fl 0 1 = 1 then jl / per * page else c.arg 16 4 }

/-- Whether a stored job's length breaks R147 or R150. -/
def lengthBad (l : StoredJob) (rep : Nat) : Bool :=
  let per := l.page + l.gap
  l.jobLines = 0 || l.jobLines % per ≠ 0 || decide (2 ^ 48 - 17 + 1 < l.jobLines * rep)

/-- The job opened (R149): the plane's registers are written and RESET. -/
def State.openJob (s : State) (p : Nat) (c : Cmd) (l : StoredJob) (depth img ring : Nat) (ch : Option Nat) : State :=
  let fl := c.arg 1 1
  let stored := bits fl 0 1 = 1
  let replay := bits fl 1 1 = 1
  let rep := c.arg 26 2
  let put := fun (s : State) (f : Fld) (v : Nat) => s.setFld (R.SCR_PLANE_CFG p) f v
  let s := put s F.SCR_PLANE_CFG_FMT l.fmt
  let s := put s F.SCR_PLANE_CFG_P1_CODE (bits fl 3 1)
  let s := put s F.SCR_PLANE_CFG_STORED (bits fl 0 1)
  let s := put s F.SCR_PLANE_CFG_CODE_DEPTH depth
  let s := s.set64 (R.SCR_PLANE_IMG_BASE_LO p) (R.SCR_PLANE_IMG_BASE_HI p) img
  let s := s.setN (R.SCR_PLANE_IMG_LINES p) l.imgLines
  let s := s.set64 (R.SCR_PLANE_CODE_BASE_LO p) (R.SCR_PLANE_CODE_BASE_HI p) ring
  let s := (s.setN (R.SCR_PLANE_PAGE p) l.page).setN (R.SCR_PLANE_GAP p) l.gap
  let s := s.set64 (R.SCR_PLANE_JOBLN_LO p) (R.SCR_PLANE_JOBLN_HI p) l.jobLines
  let s := s.setN (R.DGV_PLANE_CFG p) (bits fl 2 1 + c.arg 5 1 * 2 + c.arg 6 1 * 256)
  let s := s.scrReset p
  let last := if stored ∧ rep ≠ 0 then l.jobLines * rep - 1 else 2 ^ 48 - 17
  let job : Job := { stored := stored, no := if stored then c.arg 3 1 else 0xFF, replay := replay, start := c.arg 8 8,
                     lastLine := last, channel := ch }
  let s := s.modPlane p (fun x => { x with
    job := some job, epoch := x.epoch + 1, chgDue := false, avail := if replay then l.held else 0 })
  let s := s.forEach ((List.range s.nRows).filter (fun i => s.rowPlane i = p)) (fun s i =>
    s.modRow i (fun r => { r with live := false, staged := [] }))
  let s := if stored ∧ !replay then { s with stored := { l with base := img } :: s.stored } else s
  match ch with
  | some k => s.setBit (R.DMA_CH_CFG k) F.DMA_CH_CFG_HOST true
  | none => s

/-- JOB_OPEN (R144 to R150, R160, R461). `alloc` is what Quill firmware's allocation of DRAM yields: the addresses of the
image buffer and of the code ring, none where it fails. -/
def State.jobOpen (s : State) (q : Nat) (c : Cmd) (alloc : Option (Nat × Nat)) : State :=
  let p := c.arg 0 1
  let stored := bits (c.arg 1 1) 0 1 = 1
  let replay := bits (c.arg 1 1) 1 1 = 1
  let need := s.span p + 320
  if s.openBad c then s.finish q c stBadArg
  else match s.openLayout c with
    | none => s.finish q c stBadArg
    | some l =>
      if (stored && lengthBad l (c.arg 26 2)) || decide (65536 < need) then s.finish q c stBadArg
      else if (s.planeAt p).job.isSome || (stored && !replay && s.stored.any (fun x => x.no = l.no)) then
        s.finish q c stBusy
      else
        let host := bits (c.arg 1 1) 4 1 = 1
        let ch := if host then s.freeChannel true else none
        if host ∧ ch = none then s.finish q c stBusy
        else
          let depth := depthFor need 6 (c.arg 4 1)
          let stride := imgStride l.fmt l.width
          let held := s.dramHeld
          let size := l.imgLines * stride
          let ring := 2 ^ depth * lineSize l.width
          match alloc with
          | none => s.finish q c stFault
          | some (a, b) =>
            let a := if replay then l.base else a
            let ok := (replay || s.dramFree held a size) && s.dramFree ((a, size) :: held) b ring
            if !ok then s.finish q c stFault
            else
              let s := s.openJob p c l depth a b ch
              s.finish q c stOk (leBytes 8 a ++ leBytes 4 stride ++ leBytes 4 l.imgLines ++ [ch.getD 0xFF, depth])

/-! JOB_APPEND (R151 to R157, R462). -/

/-- The host pieces of `k` bytes of a strip's byte sequence from byte `o` on (R462). -/
def sgSlice : List (Nat × Nat) → Nat → Nat → List (Nat × Nat)
  | [], _, _ => []
  | (a, l) :: rest, o, k =>
    if k = 0 then []
    else if l ≤ o then sgSlice rest (o - l) k
    else
      let t := min (l - o) k
      (a + o, t) :: sgSlice rest 0 (k - t)

/-- The widest access, as a code of R347, that three quantities allow. -/
def widthCode (a d l : Nat) : Nat :=
  ([4, 3, 2, 1].find? (fun w => a % 2 ^ w = 0 && d % 2 ^ w = 0 && l % 2 ^ w = 0)).getD 0

/-- The moves of a strip: source, destination and length of each data descriptor (R152). -/
def State.stripMoves (s : State) (p first count stride : Nat) (sg : List (Nat × Nat)) : List (Nat × Nat × Nat) :=
  let size := imgStride (s.fmt p) (s.width p)
  (List.range count).flatMap (fun j =>
    let dst := s.imgBase p + (first + j) % max 1 (s.imgLines p) * size
    let pieces := sgSlice sg (j * stride) size
    ((pieces.foldl (fun (x : List (Nat × Nat × Nat) × Nat) y =>
      (x.1 ++ [(y.1, x.2, y.2)], x.2 + y.2)) ([], dst))).1)

/-- A descriptor in memory (R347). -/
def descBytes (src dst len evt seq ctl next : Nat) : List Nat :=
  leBytes 8 src ++ leBytes 8 dst ++ leBytes 4 (len + evt * 2 ^ 24) ++ leBytes 2 seq ++ leBytes 2 ctl ++ leBytes 8 next

/-- The chain of a strip at DRAM address `a` (R152, R154, R155). -/
def chainBytes (evt : Nat) (a seq : Nat) : List (Nat × Nat × Nat) → List Nat
  | [] => descBytes 0 0 0 0x20 (seq % 65536) 0x4240 4
  | (src, dst, len) :: rest =>
    let w := widthCode src dst len
    let last := decide (rest = [])
    descBytes src dst len (if last then evt else 0) (seq % 65536) (w * 16 + w * 128 + 0x4000 + (if last then 1 else 0))
      (a + 32 + 1) ++ chainBytes evt (a + 32) (seq + 1) rest

/-- Image lines of plane `p` that lie below grid line DONE_p. -/
def State.screened (s : State) (p : Nat) : Nat :=
  let pl := s.pageLines p
  let per := pl + s.gapLines p
  let d := (s.planeAt p).done
  d / per * pl + min (d % per) pl

/-- The next image line expected (R151). -/
def State.nextLine (s : State) (p : Nat) : Nat :=
  (s.planeAt p).avail + ((s.planeAt p).strips.map (·.count)).foldl (· + ·) 0

/-- A strip with a scatter list accepted (R152): its chain is built at `desc`, pushed and started. -/
def State.appendChain (s : State) (q : Nat) (c : Cmd) (p first count stride : Nat) (sg : List (Nat × Nat))
    (ch desc : Nat) : State :=
  let moves := s.stripMoves p first count stride sg
  let ahead := (((s.planeAt p).strips.filter (fun x => x.chan = some ch)).map (·.ndesc)).foldl (· + ·) 0
  let seq := s.fld (R.DMA_CH_SEQ ch) F.DMA_CH_SEQ_SEQ + 1 + ahead
  let evt := if s.part = .sxv3200 then 0 else 0x10 + p
  let s := s.dramWrite desc (chainBytes evt desc seq moves)
  let s := s.stripPush p { count := count, qp := some q, chan := some ch, desc := desc, ndesc := moves.length + 1 }
  (s.hold q c (.append p)).stripStart p

/-- JOB_APPEND (R462). `table` is what the read of the scatter table brought, none where it failed; `desc` is where Quill
firmware builds the chain in DRAM. -/
def State.jobAppend (s : State) (q : Nat) (c : Cmd) (table : Option (List Nat)) (desc : Nat) : State :=
  let p := c.arg 0 1
  let direct := c.arg 1 1 = 1
  let sgc := c.arg 2 2
  let first := c.arg 8 8
  let count := c.arg 16 4
  let stride := c.arg 20 4
  let il := s.imgLines p
  let size := imgStride (s.fmt p) (s.width p)
  if 7 < p ∨ 1 < c.arg 1 1 ∨ (direct ∧ sgc ≠ 0) ∨ (!direct ∧ (sgc = 0 ∨ 256 < sgc)) ∨ c.arg 4 4 ≠ 0 then
    s.finish q c stBadArg
  else match (s.planeAt p).job with
    | none => s.finish q c stDenied
    | some j =>
      if j.closed.isSome ∨ j.replay then s.finish q c stDenied
      else if first ≠ s.nextLine p ∨ count = 0 ∨ il < count ∨ (j.stored ∧ il < first + count) ∨
          (!direct ∧ stride < size) then s.finish q c stBadArg
      else if (!j.stored ∧ il + s.screened p < first + count) ∨ 16 ≤ (s.planeAt p).strips.length then s.finish q c stBusy
      else if direct then
        ((s.stripPush p { count := count, qp := some q, done := true }).hold q c (.append p)).commitReady p 16
      else match table with
        | none => s.finish q c stFault
        | some t =>
          let sg := (sgEntries t).take sgc
          if (sg.map (·.2)).foldl (· + ·) 0 < (count - 1) * stride + size then s.finish q c stBadArg
          else
            let own := ((s.planeAt p).strips.filterMap (·.chan)).head?
            match (if own.isSome then own else s.freeChannel false) with
            | none => s.finish q c stBusy
            | some ch =>
              let k := (s.stripMoves p first count stride sg).length + 1
              if desc % 32 ≠ 0 ∨ s.dramSize < desc + k * 32 then s.finish q c stFault
              else s.appendChain q c p first count stride sg ch desc

/-! JOB_CLOSE and JOB_ABORT (R463). -/

/-- The grid line that carries image line `m` of a stream job (R148). -/
def State.gridOf (s : State) (p m : Nat) : Nat :=
  let pl := s.pageLines p
  m / pl * (pl + s.gapLines p) + m % pl

/-- JOB_CLOSE (R149, R463, R609). -/
def State.jobClose (s : State) (q : Nat) (c : Cmd) : State :=
  let p := c.arg 0 1
  if 7 < p then s.finish q c stBadArg
  else match (s.planeAt p).job with
    | none => s.finish q c stDenied
    | some j =>
      if j.closed.isSome then s.finish q c stDenied
      else
        let m := s.nextLine p
        if j.stored then
          let j := { j with closed := some (s.gridOf p (m - 1)) }
          (s.modPlane p (fun x => { x with job := some j })).finish q c stOk (leBytes 8 j.lastLine)
        else if m = 0 then (s.jobGone p).finish q c stOk (List.replicate 8 0xFF)
        else
          let l := s.gridOf p (m - 1)
          let j := { j with closed := some l, lastLine := min (2 ^ 48 - 17) (l + s.gapLines p) }
          let s := s.modPlane p (fun x => { x with job := some j })
          let s := s.set64 (R.DCT_PLANE_END_LO p) (R.DCT_PLANE_END_HI p) j.lastLine
          s.finish q c stOk (leBytes 8 j.lastLine)

/-- JOB_ABORT (R146, R463). -/
def State.jobAbortCmd (s : State) (q : Nat) (c : Cmd) : State :=
  let p := c.arg 0 1
  let free := c.arg 1 1 = 1
  let no := c.arg 2 1
  if 7 < p ∨ 1 < c.arg 1 1 then s.finish q c stBadArg
  else if (s.planeAt p).job.isSome then (s.jobAbort p free).finish q c stOk
  else if !free then s.finish q c stDenied
  else if !s.stored.any (fun x => x.no = no) then s.finish q c stBadArg
  else if s.planes.any (fun x => match x.2.job with
      | some k => k.stored && k.no = no
      | none => false) then s.finish q c stBusy
  else { s with stored := s.stored.filter (·.no ≠ no) }.finish q c stOk

end Sys2Proof.Machine
end

