-- ==== Sys2Proof/Machine/Access.lean ====
section
/-! DEFINITION. Which registers a master may write, and which offsets name a register of the part (R4, R14, R17, R418, R419,
R423). -/
namespace Sys2Proof.Machine

/-- Whether a master may write the register at BAR0 offset `off` (R17, R418, R419): Quill firmware always. -/
def State.mayWrite (s : State) (m : Master) (off : Nat) : Bool :=
  match m with
  | .quill => true
  | .host =>
    let b := off / 0x100000
    if 0x100 ≤ off ∧ off < 0x200 then true
    else if 0x0B20000 ≤ off ∧ off < 0x0B20400 then
      s.diag.isSome || s.bit (R.DMA_CH_CFG ((off - 0x0B20000) / 16)) F.DMA_CH_CFG_HOST
    else if 0x0D00000 ≤ off ∧ off < 0x0D80000 then true
    else if 0x0D80000 ≤ off ∧ off < 0x0E00000 then false
    else s.diag.isSome && decide (off < 0x1100000) && decide (b ≠ 2)

/-- A write by a master: `f` where it may write, else a denied write (R423). -/
def State.byMaster (s : State) (m : Master) (off : Nat) (f : State → State) : State :=
  if s.mayWrite m off then f s else s.denyWrite off

/-- A port number that names a port of the part (R1, R4, R14). -/
def State.hasPort (s : State) (n : Nat) : Bool := decide (n < s.part.ports)

/-- Whether a register family of BAR0 block `b` with `c1` copies is indexed by head port or head row, and its copy `i` is
one the part lacks (R14). -/
def State.fusedOff (s : State) (b c1 i : Nat) : Bool :=
  let byPort := decide (b = 3 ∨ b = 5 ∨ b = 7 ∨ b = 8 ∨ b = 9 ∨ b = 10) && decide (c1 = 32)
  let byRow := decide (b = 5) && decide (c1 = 64)
  (byPort && !s.hasPort i) || (byRow && !s.hasPort (i / 2))

/-- Whether a register is that of a loop of zones 4 to 7 on a Type S port (R248). -/
def State.noZone (s : State) (base n z : Nat) : Bool :=
  decide (R.DCT_LOOP_CFG 0 0 ≤ base ∧ base ≤ R.DCT_LOOP_SAT 0 0) && s.portType n = 1 && decide (4 ≤ z)

/-- The register an offset names on this part (R4, R14, R46). -/
def State.regOf (s : State) (off : Nat) : Option (RegSpec × Nat × Nat) :=
  match regFind off with
  | some (r, i, j) => if s.fusedOff (off / 0x100000) r.c1 i || s.noZone r.base i j then none else some (r, i, j)
  | none => none

end Sys2Proof.Machine
end

