-- ==== Sys2Proof/Machine/Crypto.lean ====
section
/-! DEFINITION. SHA-256 (FIPS 180-4), HMAC-SHA-256 (FIPS 198-1) and ECDSA P-256 verification (FIPS 186-4), as R330, R331,
R541 and R554 use them. -/
namespace Sys2Proof.Machine

/-! SHA-256. -/

def w32 (n : Nat) : Nat := n % 4294967296
def rotr (x k : Nat) : Nat := w32 (x >>> k ||| x <<< (32 - k))

/-- The primes below `n`, which is at most 361, in order. -/
def primesTo (n : Nat) : List Nat :=
  (List.range n).filter (fun p => decide (2 ≤ p) && (List.range 19).all (fun d => decide (d < 2 ∨ p < d * d) || decide (p % d ≠ 0)))

/-- The largest number of `k` bits above `r` whose cube is at most `n`. -/
def cubeRoot (n : Nat) : Nat → Nat → Nat
  | 0, r => r
  | k + 1, r =>
    let m := r + 2 ^ k
    if m ^ 3 ≤ n then cubeRoot n k m else cubeRoot n k r

/-- The round constants of FIPS 180-4, section 4.2.2, by what it says of them: the first 32 bits of the fractional parts of the cube
roots of the first 64 primes. -/
def shaConst : List Nat := (primesTo 312).map (fun p => w32 (cubeRoot (p * 2 ^ 96) 36 0))

/-- The initial hash value, section 5.3.3: those of the square roots of the first eight primes. -/
def shaInit : List Nat := (primesTo 20).map (fun p => w32 (Nat.sqrt (p * 2 ^ 64)))

/-- The number big-endian bytes spell. -/
def ofBe (l : List Nat) : Nat := l.foldl (fun a b => a * 256 + b % 256) 0

/-- `k` big-endian bytes of `v`. -/
def beBytes (k v : Nat) : List Nat := (leBytes k v).reverse

/-- The message schedule: the words so far, newest first. -/
def shaSched : Nat → List Nat → List Nat
  | 0, w => w
  | k + 1, w =>
    let g := fun (j : Nat) => w.getD (j - 1) 0
    let s0 := rotr (g 15) 7 ^^^ rotr (g 15) 18 ^^^ (g 15 >>> 3)
    let s1 := rotr (g 2) 17 ^^^ rotr (g 2) 19 ^^^ (g 2 >>> 10)
    shaSched k (w32 (g 16 + s0 + g 7 + s1) :: w)

/-- One round on the working variables a to h. -/
def shaRound (v : List Nat) (kw : Nat) : List Nat :=
  match v with
  | [a, b, c, d, e, f, g, h] =>
    let t1 := h + (rotr e 6 ^^^ rotr e 11 ^^^ rotr e 25) + ((e &&& f) ^^^ ((0xFFFFFFFF - e) &&& g)) + kw
    let t2 := (rotr a 2 ^^^ rotr a 13 ^^^ rotr a 22) + ((a &&& b) ^^^ (a &&& c) ^^^ (b &&& c))
    [w32 (t1 + t2), a, b, c, w32 (d + t1), e, f, g]
  | v => v

/-- One block of 64 bytes. -/
def shaBlock (h : List Nat) (blk : List Nat) : List Nat :=
  let w0 := (List.range 16).map (fun j => ofBe ((blk.drop (4 * j)).take 4))
  let w := (shaSched 48 w0.reverse).reverse
  let v := (shaConst.zip w).foldl (fun v x => shaRound v (x.1 + x.2)) h
  (h.zip v).map (fun x => w32 (x.1 + x.2))

/-- SHA-256 of bytes, 32 bytes. -/
def sha256 (m : List Nat) : List Nat :=
  let pad := (119 - m.length % 64) % 64
  let p := m ++ [0x80] ++ List.replicate pad 0 ++ beBytes 8 (8 * m.length)
  let h := (List.range (p.length / 64)).foldl (fun h j => shaBlock h ((p.drop (64 * j)).take 64)) shaInit
  h.flatMap (beBytes 4)

/-- HMAC-SHA-256. -/
def hmac (key m : List Nat) : List Nat :=
  let k := (if key.length > 64 then sha256 key else key)
  let k := (k ++ List.replicate 64 0).take 64
  sha256 (k.map (fun b => b ^^^ 0x5C) ++ sha256 (k.map (fun b => b ^^^ 0x36) ++ m))

/-! P-256. -/

def p256P : Nat := 0xFFFFFFFF00000001000000000000000000000000FFFFFFFFFFFFFFFFFFFFFFFF
def p256N : Nat := 0xFFFFFFFF00000000FFFFFFFFFFFFFFFFBCE6FAADA7179E84F3B9CAC2FC632551
def p256B : Nat := 0x5AC635D8AA3A93E7B3EBBD55769886BC651D06B0CC53B0F63BCE3C3E27D2604B
def p256Gx : Nat := 0x6B17D1F2E12C4247F8BCE6E563A440F277037D812DEB33A0F4A13945D898C296
def p256Gy : Nat := 0x4FE342E2FE1A7F9B8EE7EB4A7C0F9E162BCE33576B315ECECBB6406837BF51F5

/-- `b ^ e mod m` over the low `k` bits of `e`. -/
def powMod (m : Nat) : Nat → Nat → Nat → Nat
  | 0, _, _ => 1 % m
  | k + 1, b, e => (if e % 2 = 1 then b else 1) * powMod m k (b * b % m) (e / 2) % m

/-- The inverse modulo a prime. -/
def invMod (m a : Nat) : Nat := powMod m 256 (a % m) (m - 2)

/-- Point addition on P-256; none is the point at infinity. -/
def ecAdd (a b : Option (Nat × Nat)) : Option (Nat × Nat) :=
  match a, b with
  | none, q => q
  | p, none => p
  | some (x1, y1), some (x2, y2) =>
    let p := p256P
    if x1 = x2 ∧ (y1 + y2) % p = 0 then none
    else
      let l := if x1 = x2 then (3 * x1 * x1 + p - 3) * invMod p (2 * y1) % p
        else (y2 + p - y1) * invMod p (x2 + p - x1) % p
      let x3 := (l * l + 2 * p - x1 - x2) % p
      some (x3, (l * (x1 + p - x3) + p - y1) % p)

/-- Scalar multiplication over the low `k` bits of `e`. -/
def ecMul : Nat → Nat → Option (Nat × Nat) → Option (Nat × Nat)
  | 0, _, _ => none
  | k + 1, e, q =>
    let r := ecMul k (e / 2) (ecAdd q q)
    if e % 2 = 1 then ecAdd q r else r

/-- ECDSA P-256 with SHA-256: public key as 65 bytes uncompressed, signature r then s. -/
def ecdsaVerify (pubkey sig msg : List Nat) : Bool :=
  let x := ofBe ((pubkey.drop 1).take 32)
  let y := ofBe ((pubkey.drop 33).take 32)
  let r := ofBe (sig.take 32)
  let t := ofBe ((sig.drop 32).take 32)
  let p := p256P
  let n := p256N
  let onCurve := pubkey.length = 65 && pubkey.head? = some 4 && decide (x < p) && decide (y < p) &&
    decide (y * y % p = (x * x * x + (p - 3) * x + p256B) % p)
  if onCurve ∧ 0 < r ∧ r < n ∧ 0 < t ∧ t < n then
    let w := invMod n t
    let z := ofBe (sha256 msg)
    match ecAdd (ecMul 256 (z * w % n) (some (p256Gx, p256Gy))) (ecMul 256 (r * w % n) (some (x, y))) with
    | some (v, _) => v % n = r
    | none => false
  else false

end Sys2Proof.Machine
end

