-- ==== Sys2Proof/Machine/Otp.lean ====
section
/-! DEFINITION. The OTP array (R548 to R562): its reads, the resolution of its fields, its digests, burns and locks, and the
key derivation of R330. -/
namespace Sys2Proof.Machine

/-! Words. -/

/-- A word of a sparse table, 0 where none is listed. -/
def otpVal (l : List (Nat × Nat)) (w : Nat) : Nat := cellGet (fun _ => 0) l w

/-- The 72 bits a value takes in the array (R548): data, and check bits of the internal code; nothing burnt reads 0. -/
def otpRaw (v : Nat) : Nat := if v = 0 then 0 else v % 2 ^ 64 + Config.otpCheck (v % 2 ^ 64) % 256 * 2 ^ 64

/-- Whether 72 bits are a codeword of the internal code (R548): a blank word is one. -/
def otpCodeword (raw : Nat) : Bool := decide (raw = 0) || decide (Config.otpCheck (raw % 2 ^ 64) % 256 = raw / 2 ^ 64)

/-- A raw read decoded (R548, R549): its value and whether it needed no correction; none where no single bit mends it. -/
def otpDecode (raw : Nat) : Option (Nat × Bool) :=
  if otpCodeword raw then some (raw % 2 ^ 64, true)
  else ((List.range 72).find? (fun j => otpCodeword (raw ^^^ 2 ^ j))).map (fun j => ((raw ^^^ 2 ^ j) % 2 ^ 64, false))

/-- Whether the four reads of a word are clean (R549). -/
def otpClean (r : OtpRead) : Bool :=
  decide (r.n1 = r.n2) && decide (r.n2 = r.n3) && decide (r.n3 = r.strict) && decide ((otpDecode r.n1).map (·.2) = some true)

/-- The value of a word by its three normal reads (R550): the decoded value on which two agree, none where no two do. -/
def otpMajority (r : OtpRead) : Option Nat :=
  let val := fun (raw : Nat) => (otpDecode raw).map (·.1)
  if (r.n1 = r.n2 ∨ r.n1 = r.n3) ∧ (val r.n1).isSome then val r.n1
  else if r.n2 = r.n3 ∧ (val r.n2).isSome then val r.n2
  else if (val r.n1 = val r.n2 ∨ val r.n1 = val r.n3) ∧ (val r.n1).isSome then val r.n1
  else if val r.n2 = val r.n3 then val r.n2
  else none

/-- How one copy of a duplicated field reads: its words, whether all are clean, and whether all have a majority. -/
structure OtpCopy where
  vals : List Nat
  clean : Bool
  whole : Bool

def otpCopy (vals : List (Nat × Nat)) (marg unread : List Nat) (w k : Nat) : OtpCopy :=
  let ws := (List.range k).map (fun j => w + j)
  { vals := ws.map (otpVal vals), clean := ws.all (fun x => !marg.contains x), whole := ws.all (fun x => !unread.contains x) }

/-- A duplicated field of `k` words at `a` and `b` (R550): none where it is unusable. -/
def otpField (vals : List (Nat × Nat)) (marg unread : List Nat) (a b k : Nat) : Option (List Nat) :=
  let x := otpCopy vals marg unread a k
  let y := otpCopy vals marg unread b k
  if x.clean ∧ !y.clean then some x.vals
  else if y.clean ∧ !x.clean then some y.vals
  else if x.clean ∧ y.clean ∧ x.vals = y.vals then some x.vals
  else if !x.clean ∧ !y.clean ∧ x.whole ∧ y.whole ∧ x.vals = y.vals then some x.vals
  else none

/-- A duplicated field as it stood at this start. -/
def Otp.field (o : Otp) (a b k : Nat) : Option (List Nat) := otpField o.startVals o.startMarg o.startUnread a b k

/-- A duplicated field as it reads now. -/
def Otp.fieldNow (o : Otp) (a b k : Nat) : Option (List Nat) := otpField o.vals o.marg o.unread a b k

/-! Regions (R548, R553, R554). -/

/-- First data word, words of data, and first tail word of a region. -/
def otpRegion : Nat → Nat × Nat × Nat
  | 0 => (0, 118, 118)
  | 1 => (128, 22, 150)
  | _ => (160, 342, 502)

/-- The region a word belongs to. -/
def otpRegionOf (w : Nat) : Nat := if w < 128 then 0 else if w < 160 then 1 else 2

/-- Whether a word is a data word of its region. -/
def otpIsData (w : Nat) : Bool :=
  let (b, k, _) := otpRegion (otpRegionOf w)
  decide (b ≤ w) && decide (w < b + k)

/-- The duplicated data fields of a region: copy A, copy B, words. The board configuration is resolved word by word (R537). -/
def otpDup : Nat → List (Nat × Nat × Nat)
  | 0 => [(0, 1, 1), (2, 3, 1)]
  | 1 => [(128, 132, 4), (136, 140, 4)]
  | _ => [(164, 165, 1), (166, 167, 1), (232, 236, 1), (233, 237, 1), (234, 238, 1), (235, 239, 1)]

/-- The digest of a region's data (R554), from words as given. -/
def otpDigest (vals : List (Nat × Nat)) (marg unread : List Nat) (r : Nat) : List Nat :=
  let (b, k, _) := otpRegion r
  let dup := otpDup r
  let word := fun (w : Nat) =>
    match dup.find? (fun d => d.2.1 ≤ w ∧ w < d.2.1 + d.2.2) with
    | some _ => []
    | none =>
      match dup.find? (fun d => d.1 ≤ w ∧ w < d.1 + d.2.2) with
      | some d => leBytes 8 (match otpField vals marg unread d.1 d.2.1 d.2.2 with
        | some l => l.getD (w - d.1) 0
        | none => 0)
      | none => leBytes 8 (otpVal vals w)
  sha256 ((List.range k).flatMap (fun j => word (b + j)))

/-- The state of a region (R553): 0 OPEN, 1 SEALING, 2 LOCKED. -/
def otpState (vals : List (Nat × Nat)) (marg unread : List Nat) (r : Nat) : Nat :=
  let t := (otpRegion r).2.2
  if otpField vals marg unread (t + 8) (t + 9) 1 = some [0xA5A5A5A5A5A5A5A5] then 2
  else if (List.range 10).all (fun j => otpVal vals (t + j) = 0) then 0 else 1

/-- The state of a region now. -/
def State.otpRegionState (s : State) (r : Nat) : Nat := otpState s.otp.vals s.otp.marg s.otp.unread r

/-- Whether a region passes the check of R555, from the reads of this start. -/
def State.otpPass (s : State) (r : Nat) : Bool :=
  let o := s.otp
  let t := (otpRegion r).2.2
  otpState o.startVals o.startMarg o.startUnread r = 2 &&
    (match o.field t (t + 4) 4 with
    | some l => l.flatMap (leBytes 8) = otpDigest o.startVals o.startMarg o.startUnread r
    | none => false)

/-! Keys (R330, R556). -/

/-- Whether the master key is released (R556). -/
def State.keyReleased (s : State) : Bool := s.bit R.OTP_STAT F.OTP_STAT_KEY_REL

/-- The key selector of a family (R330, R555). -/
def State.keySel (s : State) (family : Nat) : Nat :=
  if !s.bit R.OTP_STAT F.OTP_STAT_CUST_OK then 0
  else
    let ws := (List.range 64).map (fun j => otpVal s.otp.startVals (168 + j))
    match ws.find? (fun w => bits w 24 1 = 1 ∧ w % 65536 = family) with
    | some w => bits w 16 8
    | none => 0

/-- The first 16 bytes of the tag of a record's bytes 0x00 to 0xEF (R330, R331); none where no key is released. -/
def State.recordTag (s : State) (rec_ : List Nat) : Option (List Nat) :=
  if !s.keyReleased then none
  else match s.otp.field 128 132 4 with
    | none => none
    | some l =>
      let fam := leAt rec_ 2 2
      let kfam := hmac (l.flatMap (leBytes 8)) [0x53, 0x58, 0x56, 0x46, fam % 256, fam / 256, s.keySel fam]
      let khead := hmac kfam ((rec_.drop 4).take 8)
      some ((hmac khead (rec_.take 0xF0)).take 16)

/-! Start (R549, R555). -/

/-- A marginal word (R549, R551): the event, its Blotter counter, and MARG_WORD. -/
def State.otpMarginal (s : State) (w : Nat) (cnt : Fld) : State :=
  let s := (s.raiseCount 0x6002 w 8).bump R.OTP_MARG_CNT cnt
  (s.setBit R.OTP_STAT F.OTP_STAT_MARGINAL true).setFld R.OTP_STAT F.OTP_STAT_MARG_WORD w

/-- Bits 1:0 to 5:4 of OTP_STAT follow the regions (R553, R559). -/
def State.otpShow (s : State) : State :=
  let s := s.setFld R.OTP_STAT F.OTP_STAT_FACT_ST (s.otpRegionState 0)
  let s := s.setFld R.OTP_STAT F.OTP_STAT_SEC_ST (s.otpRegionState 1)
  s.setFld R.OTP_STAT F.OTP_STAT_CUST_ST (s.otpRegionState 2)

/-- The policy in force (R550, R555): latched from the policy field, or the defaults. -/
def State.otpPolicy (s : State) : Nat :=
  match s.otp.field 164 165 1 with
  | some [v] => if s.otpPass 2 then v % 8 else 9
  | _ => 9

/-- The OTP array as the reads of stage 2 show it (R549): no read clears a burnt bit of a word that is not clean. -/
def otpRawRead (raw : List (Nat × Nat)) (reads : List OtpRead) : List (Nat × Nat) :=
  reads.foldl (fun l r =>
    cellPut (fun _ => 0) l r.word [if otpClean r then r.n1 else otpRaw ((otpMajority r).getD 0) ||| otpVal l r.word]) raw

/-- Stage 2 (R549, R550, R556): every word read. `reads` lists the words that do not read clean as the array holds them; a
word it does not list reads clean. -/
def State.otpStart (s : State) (reads : List OtpRead) : State :=
  let put := fun (l : List (Nat × Nat)) (w v : Nat) => cellPut (fun _ => 0) l w [v % 2 ^ 64]
  let base := s.otp.raw.foldl (fun l c => put l c.1 c.2) []
  let vals := reads.foldl (fun l r => put l r.word ((otpMajority r).getD 0)) base
  let raw := otpRawRead s.otp.raw reads
  let marg := (reads.filter (fun r => !otpClean r)).map (·.word)
  let unread := (reads.filter (fun r => (otpMajority r).isNone)).map (·.word)
  let s := { s with otp := { raw := raw, vals := vals, marg := marg, unread := unread
                             startVals := vals, startMarg := marg, startUnread := unread, failed := marg
                             startReads := reads, startRaw := raw } }
  let s := s.forEach marg (fun s w => s.otpMarginal w F.OTP_MARG_CNT_START)
  let map := ((s.otp.field 166 167 1).getD [0]).getD 0 0
  let s := (s.setN R.OTP_PORTMAP_LO map).setN R.OTP_PORTMAP_HI (map / 2 ^ 32)
  let s := s.setN R.OTP_POLICY s.otpPolicy
  (s.setFld R.SYS_BOOT_STAT F.SYS_BOOT_STAT_STAGE 2).count 1

/-- Stage 3 (R553 to R556): the digest of each region checked. -/
def State.otpCheckDigests (s : State) : State :=
  let s := s.otpShow
  let s := s.setBit R.OTP_STAT F.OTP_STAT_FACT_OK (s.otpPass 0)
  let s := s.setBit R.OTP_STAT F.OTP_STAT_SEC_OK (s.otpPass 1)
  let s := s.setBit R.OTP_STAT F.OTP_STAT_CUST_OK (s.otpPass 2)
  let s := if s.otpPass 0 then s else (s.raise 0x6001 0).setBit R.SYS_MODE F.SYS_MODE_LIMITED true
  let s := if s.otpPass 1 then s else s.raise 0x6001 1
  let s := if s.otpPass 2 ∨ s.otpRegionState 2 = 0 then s else s.raise 0x6001 2
  let key := match s.otp.field 128 132 4 with
    | some l => !l.all (· = 0)
    | none => false
  let s := s.setBit R.OTP_STAT F.OTP_STAT_KEY_REL (s.otpPass 1 && key && !s.bit R.SYS_BOOT_STAT F.SYS_BOOT_STAT_DEV_BOOT)
  s.setFld R.SYS_BOOT_STAT F.SYS_BOOT_STAT_STAGE 3

/-- Whether a re-read of a word at normal and at strict margin differs from its start reads (R551). -/
def Otp.differs (o : Otp) (w n st : Nat) : Bool :=
  match o.startReads.find? (fun (r : OtpRead) => decide (r.word = w)) with
  | some r => !([r.n1, r.n2, r.n3].contains n && decide (r.strict = st))
  | none => decide (n ≠ otpVal o.startRaw w) || decide (st ≠ otpVal o.startRaw w)

/-- The 10-minute re-read (R551): every word once at each margin. `reads` lists, by word, what the two reads give for the words
that do not read as the array holds them. -/
def State.otpReread (s : State) (reads : List (Nat × Nat × Nat)) : State :=
  let o := s.otp
  let now := fun (w : Nat) => match reads.find? (fun r => decide (r.1 = w)) with
    | some r => r.2
    | none => match o.startReads.find? (fun (r : OtpRead) => decide (r.word = w)) with
      | some r => if otpVal o.raw w = otpVal o.startRaw w then (r.n1, r.strict) else (otpVal o.raw w, otpVal o.raw w)
      | none => (otpVal o.raw w, otpVal o.raw w)
  s.forEach ((List.range 512).filter (fun w => o.differs w (now w).1 (now w).2)) (fun s w => s.otpMarginal w F.OTP_MARG_CNT_REREAD)

/-- OTP_RD_DATA loaded with a word (R562): 0 for a master-key word. -/
def State.otpRead (s : State) (w : Nat) : State :=
  let w := w % 512
  let v := if 128 ≤ w ∧ w < 136 then 0 else otpVal s.otp.vals w
  ((s.setFld R.OTP_RD_ADDR F.OTP_RD_ADDR_ADDR w).setN R.OTP_RD_DATA_LO (v % 2 ^ 32)).setN R.OTP_RD_DATA_HI (v / 2 ^ 32)

/-! Burns (R552, R553, R561). -/

/-- Whether a value would clear a burnt bit of a word (R552). -/
def State.otpClash (s : State) (w v : Nat) : Bool :=
  let old := otpVal s.otp.raw w
  decide (old &&& otpRaw v ≠ old)

/-- A word's burn begins. -/
def State.otpBurn (s : State) (b : Burn) : State :=
  { (s.setBit R.OTP_PROG_CTL F.OTP_PROG_CTL_BUSY true) with otp := { s.otp with burn := some b } }

/-- Whether a burn is in progress. -/
def State.otpBusy (s : State) : Bool := s.otp.burn.isSome

/-- The words of a region's seal (R553): digest copy A, copy B, then lock words A and B. -/
def State.otpSeal (s : State) (r : Nat) : List (Nat × Nat) :=
  let t := (otpRegion r).2.2
  let d := otpDigest s.otp.vals s.otp.marg s.otp.unread r
  let ws := (List.range 4).map (fun j => leAt d (8 * j) 8)
  (List.range 10).map (fun j => (t + j, if j < 8 then ws.getD (j % 4) 0 else 0xA5A5A5A5A5A5A5A5))

/-- LOCK of a region begins (R553). -/
def State.otpLock (s : State) (r : Nat) : State :=
  match s.otpSeal r with
  | (w, v) :: rest => s.otpBurn { word := w, value := v, rest := rest, lock := true }
  | [] => s

/-- The OTP array after the burn in progress, which reads back as `rb` (R548, R552): a burn sets bits and clears none. -/
def Otp.rawBurnt (o : Otp) (rb : Nat) : List (Nat × Nat) :=
  match o.burn with
  | none => o.raw
  | some b =>
    let rb := rb % 2 ^ 64
    let new := if rb = b.value % 2 ^ 64 then otpRaw b.value else rb &&& b.value
    cellPut (fun _ => 0) o.raw b.word [otpVal o.raw b.word ||| new]

/-- A burn ends and is read back at strict margin (R552, R553): `rb` is the word read. What waits for it completes with
FAULT on a mismatch. -/
def State.otpBurnDone (s : State) (rb : Nat) : State :=
  match s.otp.burn with
  | none => s
  | some b =>
    let rb := rb % 2 ^ 64
    let ok := decide (rb = b.value % 2 ^ 64)
    let o := s.otp
    let vals := cellPut (fun _ => 0) o.vals b.word [rb]
    let o := { o with
      raw := o.rawBurnt rb, vals := vals, burn := none
      marg := if ok then o.marg.filter (· ≠ b.word) else o.marg ++ [b.word]
      unread := o.unread.filter (· ≠ b.word)
      refused := if !ok ∧ o.failed.contains b.word then o.refused ++ [b.word] else o.refused
      failed := if ok then o.failed else if o.failed.contains b.word then o.failed else o.failed ++ [b.word] }
    let s := { s with otp := o }
    let s := (s.setN R.OTP_PROG_RB_LO (rb % 2 ^ 32)).setN R.OTP_PROG_RB_HI (rb / 2 ^ 32)
    let s := s.otpShow
    match ok, b.rest with
    | true, (w, v) :: rest => s.otpBurn { b with word := w, value := v, rest := rest }
    | _, _ =>
      let s := s.setBit R.OTP_PROG_CTL F.OTP_PROG_CTL_BUSY false
      let s := s.setBit R.OTP_PROG_CTL (if ok then F.OTP_PROG_CTL_DONE else F.OTP_PROG_CTL_FAIL) true
      let res := if b.lock then (if ok then
          (otpDigest s.otp.vals s.otp.marg s.otp.unread (otpRegionOf b.word)).take 24 else [])
        else if ok then [] else leBytes 8 rb
      s.finishAll (fun w => w = .otp) (if ok then stOk else stFault) res

/-- GO of OTP_PROG_CTL (R561). -/
def State.otpProgGo (s : State) : State :=
  let w := s.fld R.OTP_PROG_CTL F.OTP_PROG_CTL_WORD
  let v := s.get64 R.OTP_PROG_DATA_LO R.OTP_PROG_DATA_HI
  let retry := s.bit R.OTP_PROG_CTL F.OTP_PROG_CTL_RETRY
  if s.otpBusy ∨ (otpIsData w ∧ s.otpRegionState (otpRegionOf w) ≠ 0) ∨ s.otp.refused.contains w ∨
      (s.otp.failed.contains w ∧ !retry) then s
  else if s.otpClash w v then s.setBit R.OTP_PROG_CTL F.OTP_PROG_CTL_CLASH true
  else s.otpBurn { word := w, value := v }

/-- LOCK of OTP_PROG_CTL (R561): REGION 3 acts as none. -/
def State.otpLockGo (s : State) : State :=
  let r := s.fld R.OTP_PROG_CTL F.OTP_PROG_CTL_REGION
  if s.otpBusy ∨ r = 3 ∨ s.otpRegionState r = 2 then s else s.otpLock r

end Sys2Proof.Machine
end

