-- ==== Sys2Proof/Machine/Records.lean ====
section
/-! DEFINITION. Head records and usage (R326 to R341). -/
namespace Sys2Proof.Machine

/-- A field of a head's record (R326): bytes `off` to `off + k - 1`. -/
def Port.recN (p : Port) (off k : Nat) : Nat := leAt p.record off k

/-- USAGE at its maximum (R326, R340). -/
def usageMax : Nat := 0xFFFFFFFFFF

/-- FAMILY and SERIAL of the record. -/
def Port.recId (p : Port) : Nat × Nat := (p.recN 2 2, p.recN 4 8)

/-- The checks of R329 on a record read on port `n`. -/
def State.recordOk (s : State) (n : Nat) (rec_ : List Nat) : Bool :=
  decide (leAt rec_ 0 1 = 1) && decide (leAt rec_ 1 1 = s.portType n) && decide (leAt rec_ 0x0E 1 = 2) &&
    decide (leAt rec_ 0x0C 2 % 2 = 0)

/-- Whether a record passes R331. -/
def State.authentic (s : State) (rec_ : List Nat) : Bool := s.recordTag rec_ = some ((rec_.drop 0xF0).take 16)

/-! Heads, by FAMILY and SERIAL. -/

/-- The number under which a head is kept. -/
def headKey (id : Nat × Nat) : Nat := id.1 * 2 ^ 64 + id.2
def State.headAt (s : State) (id : Nat × Nat) : HeadUse := cellGet (fun _ => {}) s.heads (headKey id)
def State.modHead (s : State) (id : Nat × Nat) (f : HeadUse → HeadUse) : State :=
  { s with heads := cellMod (fun _ => {}) s.heads (headKey id) f }

/-- What port `n` counted of its last head kept under that head (R338). -/
def State.headKept (s : State) (n : Nat) : State :=
  let p := s.portAt n
  match p.dHead with
  | some id => (s.modHead id (fun x => { x with d := p.d, drops := p.drops })).modPort n (fun p => { p with
      d := 0, drops := 0, dHead := none })
  | none => s

/-- The counts of head `id` taken up by port `n` (R338): they were kept, or stand on the port that had it last. -/
def State.headTaken (s : State) (n : Nat) (id : Nat × Nat) : State :=
  let s := s.forEach ((List.range s.part.ports).filter (fun m => m = n ∨ (s.portAt m).dHead = some id)) State.headKept
  let x := s.headAt id
  (s.modHead id (fun _ => {})).modPort n (fun p => { p with d := x.d, drops := x.drops, dHead := some id })

/-- USAGE_LIMIT raised once for the head until its next attach (R340). -/
def State.usageLimit (s : State) (n : Nat) : State :=
  let id := (s.portAt n).recId
  if (s.headAt id).limit then s else (s.modHead id (fun x => { x with limit := true })).raise 0x2005 n

/-- The head of port `n` becomes UNTRUSTED (R332). -/
def State.distrust (s : State) (n : Nat) : State := (s.modPort n (fun p => { p with untrusted := true })).raise 0x2006 n

/-- Whether the policy bars the head of port `n` (R341). -/
def State.mustBar (s : State) (n : Nat) : Bool :=
  let p := s.portAt n
  (p.untrusted && !s.bit R.OTP_POLICY F.OTP_POLICY_UNTRUSTED_PRINT) ||
    (decide (p.recN 0xE0 5 = usageMax) && s.bit R.OTP_POLICY F.OTP_POLICY_USAGE_ENFORCE)

/-- A head barred (R341): EN of both rows and IW_EN are held at 0. -/
def State.bar (s : State) (n : Nat) : State :=
  let s := s.forEach [2 * n, 2 * n + 1] (fun s i => s.setBit (R.DCT_ROW_CFG i) F.DCT_ROW_CFG_EN false)
  (s.setBit (R.NZP_TH_CFG n) F.NZP_TH_CFG_IW_EN false).modPort n (fun p => { p with barred := true, barAfter := none })

/-- The last image line of the current page of the head on port `n` (R341): none where it is barred at once. -/
def State.barLine (s : State) (n : Nat) : Option Nat :=
  match (s.portAt n).plane with
  | none => none
  | some p =>
    let live := [2 * n, 2 * n + 1].filter (fun i => (s.rowAt i).live)
    if live = [] ∨ (s.planeAt p).job.isNone then none
    else
      let low := (live.map (fun i => (s.rowAt i).undecided)).foldl min ((s.rowAt (live.headD 0)).undecided)
      match s.gapOf p low with
      | some _ => none
      | none =>
        let e := low / (s.pageLines p + s.gapLines p) * (s.pageLines p + s.gapLines p) + s.pageLines p - 1
        some (match s.closedAt p with
          | some c => min c e
          | none => e)

/-- The head of port `n` has reached the usage limit, or become UNTRUSTED (R341). -/
def State.barCheck (s : State) (n : Nat) (usage : Bool) : State :=
  if !s.mustBar n ∨ (s.portAt n).barred then s
  else if usage ∧ s.mode = .print then
    match s.barLine n with
    | some e => s.modPort n (fun p => { p with barAfter := some e })
    | none => s.bar n
  else s.bar n

/-- A head barred once both of its rows have decided the page's last image line (R341). -/
def State.barAtPageEnd (s : State) (n : Nat) : State :=
  match (s.portAt n).barAfter with
  | some e => if [2 * n, 2 * n + 1].all (fun i => !(s.rowAt i).live || decide (e < (s.rowAt i).undecided)) then s.bar n else s
  | none => s

/-! Reading a record (R327 to R329). -/

/-- The reads of a record: two sequential ones of all 256 bytes on a Type S port (R327), four management reads on a Type L port
(R328). -/
def State.recordReads (s : State) (n : Nat) : State :=
  let s := s.modPort n (fun p => { p with mgmt := [], mgmtPend := [] })
  if s.portType n = 2 then s.forEach [0x00, 0x40, 0x80, 0xC0] (fun s a => s.mgmtRead n a 64)
  else (s.emit (.twoWireRead n 0x50 0 256)).emit (.twoWireRead n 0x50 0 256)

/-- The record a Type S port has read (R327): every byte acknowledged, and the two copies of 256 bytes identical. -/
def recordRead (r : RecordIn) : Option (List Nat) :=
  if r.acks.all id ∧ r.first.length = 256 ∧ r.first = r.second then some r.first else none

/-- The record a Type L port has read, where all four pages have come (R328). -/
def Port.pages (p : Port) : Option (List Nat) :=
  let page := fun (a : Nat) => (p.mgmt.find? (·.1 = a)).map (fun x => (x.2 ++ List.replicate 64 0).take 64)
  match page 0x00, page 0x40, page 0x80, page 0xC0 with
  | some a, some b, some c, some d => some (a ++ b ++ c ++ d)
  | _, _, _, _ => none

/-- A head record transfer ends (R257, R327 to R332, R340). `data` is what a Type S port received, none where the bus gave it
nothing; a Type L port has its pages. -/
def State.recordDone (s : State) (n : Nat) (data : Option RecordIn) : State :=
  let p := s.portAt n
  if p.st ≠ .record ∨ p.waitDetect then s
  else
    let got := if s.portType n = 2 then p.pages else data.bind recordRead
    match got with
    | none =>
      let s := s.modPort n (fun p => { p with recTries := p.recTries + 1 })
      if p.recTries + 1 ≥ 3 then
        s.modPort n (fun p => { p with failed := true, waitDetect := true, since := s.now, recTries := 0 })
      else s.recordReads n
    | some r =>
      let ok := s.recordOk n r
      let s := s.modPort n (fun p => { p with
        record := r, recOk := ok, untrusted := false, st := .present, since := s.now, recTries := 0, plane := none })
      if !ok then s
      else
        let s := if s.authentic r then s else s.distrust n
        if leAt r 0xE0 5 = usageMax then s.usageLimit n else s

/-! Write-back (R335 to R339). -/

/-- The fresh read of the trailer (R335). -/
def State.trailerRead (s : State) (n : Nat) : State :=
  if s.portType n = 2 then s.mgmtRead n 0xE0 32 else s.emit (.twoWireRead n 0x50 0xE0 32)

/-- The write-back of port `n` is over: what waits for it goes on, and merged triggers start one further write (R339). -/
def State.wbOver (s : State) (n : Nat) : State :=
  let next := (s.portAt n).wbNext
  let s := s.modPort n (fun p => { p with
    wb := next.map (fun f => { final := f, full := decide (2 ^ 24 ≤ p.d) }), wbNext := none })
  let s := if next.isSome then s.trailerRead n else s
  if next.isSome then s
  else s.mapWaits (fun w => match w with
    | .detach m _ c => if m = n then .detach m false c else w
    | w => w)

/-- A write-back triggered (R335, R339): none for an UNTRUSTED head. -/
def State.wbTrigger (s : State) (n : Nat) (final : Bool) : State :=
  let p := s.portAt n
  if p.untrusted ∨ p.record = [] then s
  else if p.wb.isSome then s.modPort n (fun p => { p with wbNext := some (final || p.wbNext.getD false) })
  else
    (s.modPort n (fun p => { p with wb := some { final := final, full := decide (2 ^ 24 ≤ p.d) } })).trailerRead n

/-- The trailer sent (R336). -/
def State.wbSend (s : State) (n : Nat) (t : List Nat) : State :=
  if s.portType n = 2 then
    (s.modPort n (fun p => { p with mgmt := p.mgmt.filter (fun x => x.1 ≠ 0xE0) })).mgmtWrite n 0xE0 t
  else ((s.emit (.twoWire n 0x50 0xE0 (t.take 16))).emit (.twoWire n 0x50 0xF0 (t.drop 16))).emit (.twoWirePoll n 0x50)

/-- A write-back is given up (R338). -/
def State.wbGiveUp (s : State) (n : Nat) : State :=
  ((s.modPort n (fun p => { p with wbFail := true })).countUnless (s.portTainted n) (cPort n 14)).wbOver n

/-- A write fails (R338): repeated once, then WB_FAIL. A fresh read that brings nothing is repeated once on its own account: DESIGN
CHOICE, log entry 86. -/
def State.wbFailed (s : State) (n : Nat) : State :=
  match (s.portAt n).wb with
  | none => s
  | some w =>
    if w.expect = [] then
      if w.reads = 0 then
        (s.modPort n (fun p => { p with wb := some { w with reads := 1 }, mgmtPend := [] })).trailerRead n
      else s.wbGiveUp n
    else if w.tries = 0 then
      (s.modPort n (fun p => { p with wb := some { w with tries := 1 }, mgmtPend := [] })).wbSend n w.expect
    else s.wbGiveUp n

/-- The fresh read of the trailer (R335): checked, and the new trailer computed and sent. A record at its maximum is not written again
(R340): its drops count as carried, DESIGN CHOICE, log entry 86. -/
def State.wbFresh (s : State) (n : Nat) (trailer : Option (List Nat)) : State :=
  match (s.portAt n).wb with
  | none => s
  | some w =>
    match trailer with
    | none => s.wbFailed n
    | some t =>
      let p := s.portAt n
      let fixed := p.record.take 0xE0
      let t := (t ++ List.replicate 32 0).take 32
      if !s.authentic (fixed ++ t) then
        ((s.distrust n).modPort n (fun p => { p with wbNext := none })).wbOver n |>.barCheck n false
      else
        let cur := leAt t 0 5
        let u := if w.final then (p.d + 1023) / 1024 else p.d / 1024
        let new := min (cur + u) usageMax
        let head := leBytes 5 new ++ [0, 0, 0] ++ leBytes 4 (min 0xFFFFFFFF (leAt t 8 4 + 1)) ++ [0, 0, 0, 0]
        let body := head ++ (s.recordTag (fixed ++ head)).getD []
        let s := s.modPort n (fun p => { p with record := fixed ++ t })
        if cur = usageMax then
          let s := s.modPort n (fun p => { p with d := p.d - u * 1024 })
          ((s.usageLimit n).barCheck n true).wbOver n
        else
          let s := s.modPort n (fun p => { p with wb := some { w with units := u, newUsage := new, expect := body } })
          s.wbSend n body

/-- Drops not written reach 2^24 (R335): a write of a head in use is triggered; during a write, once, which merges (R339). -/
def State.usageFull (s : State) (n : Nat) : State :=
  let p := s.portAt n
  if p.d < 2 ^ 24 ∨ (p.st ≠ .attached ∧ p.st ≠ .offline) then s
  else match p.wb with
    | none => s.wbTrigger n false
    | some w =>
      if w.full then s
      else (s.wbTrigger n false).modPort n (fun p => { p with wb := p.wb.map (fun w => { w with full := true }) })

/-- USAGE_WRITE_BACK (R335): a periodic write where 2^24 drops are unwritten; on a Type S port the row also brings the fresh
read of the trailer of the write that is due. -/
def State.usageWriteBack (s : State) (n : Nat) (trailer : Option (List Nat)) : State :=
  let s := s.usageFull n
  match (s.portAt n).wb with
  | some w => if s.portType n = 1 ∧ w.expect = [] then s.wbFresh n trailer else s
  | none => s

/-- A trailer write and its read-back end (R336, R338, R340): `rb` is what a Type S port read back. -/
def State.writeBackDone (s : State) (n : Nat) (rb : Option (List Nat)) : State :=
  let p := s.portAt n
  match p.wb with
  | none => s
  | some w =>
    let s := if s.portType n = 1 ∧ w.expect ≠ [] then s.emit (.twoWireRead n 0x50 0xE0 32) else s
    let got := if s.portType n = 2 then (p.mgmt.find? (·.1 = 0xE0)).map (·.2) else rb
    if w.expect = [] ∨ got ≠ some w.expect then s.wbFailed n
    else
      let s := s.modPort n (fun p => { p with
        record := p.record.take 0xE0 ++ w.expect, d := p.d - w.units * 1024, wbFail := false })
      let s := s.countUnless (s.portTainted n) (cPort n 13)
      let s := if w.newUsage = usageMax then (s.usageLimit n).barCheck n true else s
      s.wbOver n

/-- The head is gone: a write in progress is abandoned (R339). -/
def State.wbAbandon (s : State) (n : Nat) : State :=
  if (s.portAt n).wb.isNone then s else (s.modPort n (fun p => { p with wbNext := none })).wbOver n

end Sys2Proof.Machine
end

