-- ==== Sys2Proof/Machine/Links.lean ====
section
/-! DEFINITION. Head port states, the back-channel of Type L, and temperature readings (R253, R257, R270 to R277, R280, R292). -/
namespace Sys2Proof.Machine

/-! Port states (R257). -/

/-- A port state entered now. -/
def State.portGo (s : State) (n : Nat) (st : PortState) : State := s.modPort n (fun p => { p with st := st, since := s.now })

/-- Port `n` enters DETECT. -/
def State.enterDetect (s : State) (n : Nat) : State :=
  (s.portGo n .detect).modPort n (fun p => { p with waitDetect := false, pollFails := 0, recTries := 0, bcSeq := none })

/-- Whether the power state keeps every port in OFF (R257): Idle-Retain, Idle-Deep and the parked state, up to the wake or the
exit. -/
def State.portsHeld (s : State) : Bool :=
  (s.mode = .idle && decide (2 ≤ s.pw.sub) && s.pw.wakeAt.isNone) ||
    (s.mode = .park && s.bit R.PWR_STAT F.PWR_STAT_PARK_DONE && !s.pw.exiting)

/-- EN of port `n` takes the port out of OFF where TYPE names one (R257). -/
def State.portEnable (s : State) (n : Nat) : State :=
  if (s.portAt n).st = .off ∧ s.portType n ≠ 0 ∧ s.bit (R.HP_CFG n) F.HP_CFG_EN ∧ !s.portsHeld then
    (s.modPort n (fun p => { p with failed := false })).enterDetect n
  else s

/-- Port `n` goes to OFF (R257): every output inactive, so what it was sending or awaiting ends, its locked entries are withheld
(log entry 70), and its loops are disabled (R237: loops run for attached heads alone). Pulses begun complete (R279). -/
def State.portOff (s : State) (n : Nat) : State :=
  let s := s.wbAbandon n
  let s := if (s.portAt n).trimOn then (s.modPort n (fun p => { p with trimAgain := false })).trimEnd n false else s
  let s := s.forEach (List.range 8) (fun s z => s.loopEnable n z false)
  let s := s.withholdPort n (s.goneReason n)
  ((s.voidAll n).portGo n .off).modPort n (fun p => { p with
    plane := none, waitDetect := false, low := [], laneHeld := [], bcAfter := [], bcDue := [], mgmt := [], mgmtPend := [], bcSeq := none })

/-- Port `n` enters LINK (R257, R270): training frames on every lane, PCNT of both rows 0. A line fired before and not answered
keeps its deadline (R272); no PCNT of the new count answers it. -/
def State.enterLink (s : State) (n : Nat) : State :=
  let s := s.portGo n .link
  let s := s.forEach [2 * n, 2 * n + 1] (fun s i => s.modRow i (fun r => { r with
    pcnt := 0, await := r.await.map (fun a => { a with pcnt := 256 }) }))
  let body := (List.replicate 16 [0xAA, 0x55]).flatMap (fun x => x)
  (s.modPort n (fun p => { p with lastBc := s.now })).forEach [0, 1, 2, 3] (fun s l => s.sendLow n l 4 body)

/-- Port `n` enters RECORD (R257). -/
def State.enterRecord (s : State) (n : Nat) : State :=
  ((s.portGo n .record).modPort n (fun p => { p with recTries := 0 })).recordReads n

/-- A head detected in DETECT (R257). -/
def State.headDetect (s : State) (n : Nat) : State :=
  if (s.portAt n).st ≠ .detect then s
  else if s.portType n = 1 then s.enterRecord n
  else if s.portType n = 2 then s.enterLink n
  else s

/-- 10 ms in DETECT (R257). -/
def State.detectTimeout (s : State) (n : Nat) : State :=
  let p := s.portAt n
  if p.st ≠ .detect then s
  else
    let s := s.advTo (p.since + 20000000)
    s.modPort n (fun p => { p with failed := true, since := s.now })

/-- 10 ms in LINK without lock (R257). -/
def State.linkTimeout (s : State) (n : Nat) : State :=
  let p := s.portAt n
  if p.st ≠ .link ∨ p.waitDetect then s
  else
    let s := (s.advTo (p.since + 20000000)).bump (R.HP_STAT n) F.HP_STAT_LINK_FAIL
    s.modPort n (fun p => { p with waitDetect := true, since := s.now })

/-- The 100 ms wait after a failed LINK or RECORD ends (R257). -/
def State.detectReturn (s : State) (n : Nat) : State :=
  let p := s.portAt n
  if p.waitDetect then (s.advTo (p.since + 200000000)).enterDetect n else s

/-- Whether the head of port `n` can be lost (R257, R277). -/
def State.portHasHead (s : State) (n : Nat) : Bool :=
  let st := (s.portAt n).st
  st = .present || st = .attached || st = .offline

/-- The head of port `n` is lost (R277). Queued entries keep their strobes. -/
def State.headLost (s : State) (n : Nat) : State :=
  let s := ((s.voidAll n).portGo n .lost).setBit (R.HP_STAT n) F.HP_STAT_LOST true
  let s := s.forEach [2 * n, 2 * n + 1] (fun s i => s.setBit (R.DCT_ROW_CFG i) F.DCT_ROW_CFG_EN false)
  (s.countUnless (s.portTainted n) (cPort n 15)).wbAbandon n

/-- No valid back-channel packet for 1 ms (R277). -/
def State.headLossTimeout (s : State) (n : Nat) : State :=
  if s.portType n = 2 ∧ s.portHasHead n then (s.advTo ((s.portAt n).lastBc + 2000000)).headLost n else s

/-- A poll of two-wire address 0x50 (R277). -/
def State.typeSPoll (s : State) (n : Nat) (ack : Bool) : State :=
  if s.portType n ≠ 1 ∨ !s.portHasHead n then s
  else if ack then s.modPort n (fun p => { p with pollFails := 0 })
  else
    let k := (s.portAt n).pollFails + 1
    let s := s.modPort n (fun p => { p with pollFails := k })
    if k ≥ 3 then s.headLost n else s

/-- RESTART of HP_CFG (R286). -/
def State.hpRestart (s : State) (n : Nat) : State := if (s.portAt n).st = .lost then s.enterDetect n else s

/-! The back-channel (R270 to R272, R275). -/

/-- A fired line that draws a NAK, or no answer in time (R272). -/
def State.nakLine (s : State) (i : Nat) (a : Await) : State :=
  match a.kind with
  | .line =>
    let first := (s.rowAt i).nakArm
    let s := (s.notDelivered i a.line a.ts reasonNak).voidLine (i / 2) a.line a.ts
    let s := s.modRow i (fun r => { r with nakArm := false })
    if first then s.raise 0x2002 (i / 2) else s
  | _ => s.voidLine (i / 2) a.line a.ts

/-- Row `i` no longer awaits an answer for `a`. -/
def State.unawait (s : State) (i : Nat) (a : Await) : State :=
  s.modRow i (fun r => { r with await := r.await.erase a })

/-- The deadline of a line passes without an answer (R272). -/
def State.ackLate (s : State) (i : Nat) (a : Await) : State :=
  let s := s.unawait i a
  let s := if a.kind = .line then s.bumpW (R.HP_CNT_ACK_TO (i / 2)) else s
  s.nakLine i a

/-- The deadline of row `i`'s oldest unanswered line (R272). -/
def State.ackDeadline (s : State) (i : Nat) : State :=
  match (s.rowAt i).await with
  | a :: _ => (s.advTo (a.ts + 16000)).ackLate i a
  | [] => s

/-- Every line of row `i` whose deadline lies before now (R272). -/
def State.ackExpire (s : State) (i : Nat) : State :=
  ((s.rowAt i).await.filter (fun a => decide (a.ts + 16000 < s.now))).foldl (fun s a => s.ackLate i a) s

/-- The line of row `i` that a packet's PCNT answers (R272). -/
def State.awaited (s : State) (i pcnt : Nat) : Option Await :=
  (s.rowAt i).await.find? (fun a => a.pcnt = pcnt % 256)

/-- A packet's bytes read (R270): none where its SYNC bytes are not found. The CRC is that of R268; an ACK or NAK with a body of two
bytes names a trim frame. -/
def bcParse (pkt : List Nat) : Option BcIn :=
  let body := (pkt.drop 4).take (pkt.length - 6)
  let b := fun (j : Nat) => body.getD j 0
  if pkt.length < 6 ∨ pkt.getD 0 0 ≠ 0x5A ∨ pkt.getD 1 0 ≠ 0x3C then none
  else some {
    ty := bits (pkt.getD 2 0) 0 4, row := bits (pkt.getD 2 0) 4 1, reason := bits (pkt.getD 2 0) 5 3, seq := pkt.getD 3 0
    crcOk := leBytes 2 (crc16 ((pkt.drop 2).take (pkt.length - 4))) == pkt.drop (pkt.length - 2)
    pcnt := b 0, trim := if body.length = 2 then some (b 0, b 1) else none
    temps := (words16 body).map (fun v => sgn 16 v), status := b 0, data := body.drop 1, lock := b 0 }

/-- An ACK (R270, R272, R273). -/
def State.bcAck (s : State) (n : Nat) (p : BcIn) : State :=
  match p.trim with
  | some id => s.trimAnswer n id true
  | none =>
    let i := 2 * n + p.row % 2
    let s := s.ackExpire i
    match s.awaited i p.pcnt with
    | none => s.bumpW (R.HP_CNT_UNMATCHED n)
    | some a =>
      let s := (s.unawait i a).modRow i (fun r => { r with nakArm := true })
      let s := s.modPort n (fun q => { q with firing := q.firing.map (fun f =>
        if f.ts = a.ts ∧ f.b = i % 2 then { f with acked := true } else f) })
      if a.kind = .line then s.deliver i else s

/-- A NAK (R270, R272, R273). -/
def State.bcNak (s : State) (n : Nat) (p : BcIn) : State :=
  let s := if 1 ≤ p.reason ∧ p.reason ≤ 4 then s.bumpW (R.HP_CNT_NAK n p.reason) else s
  match p.trim with
  | some id => s.trimAnswer n id false
  | none =>
    let i := 2 * n + p.row % 2
    let s := s.ackExpire i
    match s.awaited i p.pcnt with
    | none => s.bumpW (R.HP_CNT_UNMATCHED n)
    | some a => (s.unawait i a).nakLine i a

/-- A zone's reading published (R275). -/
def State.putTemp (s : State) (n z : Nat) (t : Int) : State :=
  let s := s.setFld (R.HP_TEMP n z) F.HP_TEMP_TEMP (uns 16 t)
  s.modPort n (fun p => { p with tempAt := ((p.tempAt ++ List.replicate 8 none).take 8).set z (some (s.now / 8000)) })

/-- A TEMP packet (R270, R275). -/
def State.bcTemp (s : State) (n : Nat) (p : BcIn) : State :=
  if !s.portHasHead n then s
  else ((List.range 8).zip p.temps).foldl (fun s x => s.putTemp n x.1 x.2) s

/-- A MGMT packet answers the oldest management frame (R267, R328, R336). -/
def State.bcMgmt (s : State) (n : Nat) (p : BcIn) : State :=
  match (s.portAt n).mgmtPend with
  | [] => s
  | a :: rest =>
    let s := s.modPort n (fun q => { q with mgmtPend := rest })
    if a ≥ 0x100 then s.mgmtRead n 0xE0 32
    else
      let s := if p.status = 0 then
          s.modPort n (fun q => { q with mgmt := (a, p.data) :: q.mgmt.filter (fun x => x.1 ≠ a) })
        else s
      match (s.portAt n).wb with
      | some w => if a = 0xE0 ∧ w.expect = [] then s.wbFresh n (if p.status = 0 then some p.data else none) else s
      | none => s

/-- A LINK packet (R257, R270, R277). -/
def State.bcLink (s : State) (n : Nat) (p : BcIn) : State :=
  let s := s.setFld (R.HP_STAT n) F.HP_STAT_LANE_LOCK (p.lock % 16)
  let used := s.lanesUsed n
  let all := decide (p.lock &&& used = used)
  let q := s.portAt n
  if q.st = .link ∧ !q.waitDetect then (if all then s.enterRecord n else s)
  else if s.portHasHead n ∧ !all then s.headLost n
  else s

/-- A packet read taken (R270, R272, R277): in DETECT any valid packet leads to LINK. -/
def State.bcTaken (s : State) (n : Nat) (p : BcIn) : State :=
  if !p.crcOk then s.bump (R.HP_CNT_BC n) F.HP_CNT_BC_BC_CRC
  else
    let gap := match (s.portAt n).bcSeq with
      | some q => decide ((q + 1) % 256 ≠ p.seq % 256)
      | none => false
    let s := if gap then s.bump (R.HP_CNT_BC n) F.HP_CNT_BC_BC_SEQ else s
    let s := s.modPort n (fun q => { q with bcSeq := some (p.seq % 256), lastBc := s.now })
    let s := if (s.portAt n).st = .detect then s.headDetect n else s
    match p.ty with
    | 1 => s.bcAck n p
    | 2 => s.bcNak n p
    | 3 => s.bcTemp n p
    | 4 => s.bcMgmt n p
    | 5 => s.bcLink n p
    | _ => s

/-- The bytes of a packet taken. -/
def State.bcTake (s : State) (n : Nat) (pkt : List Nat) : State :=
  match bcParse pkt with
  | some p => s.bcTaken n p
  | none => s

/-- Packets postponed by an injected delay that are due (R576). -/
def State.bcDueNow (s : State) (n : Nat) : State :=
  let due := (s.portAt n).bcDue.filter (fun x => decide (x.1 ≤ s.now))
  let s := s.modPort n (fun p => { p with bcDue := p.bcDue.filter (fun x => decide (s.now < x.1)) })
  due.foldl (fun s x => s.bcTake n x.2) s

/-- A back-channel packet received, its bytes in order (R270, R576): fault injection acts before the CRC check. -/
def State.bcReceive (s : State) (n : Nat) (pkt : List Nat) : State :=
  let s := s.bcDueNow n
  if s.portType n ≠ 2 ∨ (s.portAt n).st = .off then s
  else
    let (act, s) := s.inject 2 n 0 (pkt.getD 2 0 % 16)
    match act with
    | some .drop => s
    | some .reorder => s.modPort n (fun q => { q with bcAfter := q.bcAfter ++ [pkt] })
    | some (.delay d) => s.modPort n (fun q => { q with bcDue := q.bcDue ++ [(s.now + d, pkt)] })
    | other =>
      let pkt := match other with
        | some (.corrupt k) => flipBit pkt k
        | _ => pkt
      let s := s.bcTake n pkt
      let late := (s.portAt n).bcAfter
      late.foldl (fun s x => s.bcTake n x) (s.modPort n (fun q => { q with bcAfter := [] }))

/-! Type S temperature (R276). -/

/-- The next zone of a Type S port measured: ΔV in nV. A result out of range, or one no ideality factor gives, sets
TS_RANGE. -/
def State.typeSTemp (s : State) (n : Nat) (dv : Int) : State :=
  if s.portType n ≠ 1 ∨ !s.portHasHead n then s
  else
    let z := (s.portAt n).tsZone
    let s := s.modPort n (fun p => { p with tsZone := (z + 1) % 4 })
    let den : Int := s.fld (R.HP_TS_CFG n) F.HP_TS_CFG_NF * 198420 * 100
    let num := dv * 16384 * 100 - 27315 * (den / 100)
    if den = 0 ∨ num < -20 * den ∨ 150 * den < num then s.setBit (R.HP_STAT n) F.HP_STAT_TS_RANGE true
    else s.putTemp n z (divNearFree 6 (16 * num) den)

/-! Trips cleared (R280, R292). -/

/-- The strobe self-test of port `n` (R280, R292): one PRE and one MAIN on each row at the widths in force, with FIRE_EN inactive
until the last edge. It begins when no pulse of the port is in progress, since FIRE_EN stays active through one (R284): DEDUCED,
log entry 74. Each PRE is a strobe edge that PCNT counts (R270); a port in OFF holds every output inactive (R257). -/
def State.selfTest (s : State) (n : Nat) (pass : Bool) : State :=
  let pre := 2 * s.fld (R.HP_STB_W n) F.HP_STB_W_PRE
  let lead := pre + 2 * s.fld (R.HP_STB_W n) F.HP_STB_W_GAP
  let env := 2 * s.fld (R.HP_STB_ENV n) F.HP_STB_ENV_ENV
  let t := max s.now (s.portAt n).pulseEnd
  let s := if (s.portAt n).st = .off then s
    else (s.modPort n (fun p => { p with testEnd := t + lead + env })).forEach [0, 1] (fun s b =>
      let s := ((s.emit (.edge n (2 * b) true t)).emit (.edge n (2 * b) false (t + pre))).modRow (2 * n + b) (fun r =>
        { r with pcnt := (r.pcnt + 1) % 256 })
      (s.emit (.edge n (2 * b + 1) true (t + lead))).emit (.edge n (2 * b + 1) false (t + lead + env)))
  let s := s.modPort n (fun p => { p with selfOk := pass })
  if pass then s else s.setBit (R.HP_WDOG n) F.HP_WDOG_SELFTEST_FAIL true

/-- The trip bits of port `n` (R292). -/
def State.trips (s : State) (n : Nat) : Nat := s.getN (R.HP_WDOG n) % 32

/-- A clearing write to HP_WDOG (R292): bits 3 to 0 only after a passed self-test. -/
def State.wdogClear (s : State) (n v : Nat) : State :=
  let m := if (s.portAt n).selfOk then 0x5F else 0x50
  s.setN (R.HP_WDOG n) (s.getN (R.HP_WDOG n) - (s.getN (R.HP_WDOG n) &&& (v &&& m)))

/-- An OFFLINE port without trips returns to ATTACHED at a tick boundary (R257). -/
def State.offlineReturn (s : State) (n : Nat) : State :=
  if (s.portAt n).st = .offline ∧ s.trips n = 0 then s.portGo n .attached else s

end Sys2Proof.Machine
end

