-- ==== Sys2Proof/Machine/Attach.lean ====
section
/-! DEFINITION. HEAD_ATTACH: the checks, the set-up of a head from its record and its arguments, and the detach (R333,
R457). -/
namespace Sys2Proof.Machine

/-! Widths (R107, R258, R260). -/

/-- HP_STB_W written (R258, R289): the fields held to their ranges, and LEAD of both rows (R107). -/
def State.stbWrite (s : State) (n v : Nat) : State :=
  let pre := clampN 200 1500 (bits v 0 11)
  let gap := clampN 100 2000 (bits v 11 11)
  let s := s.setN (R.HP_STB_W n) (pre + gap * 2048)
  s.forEach [2 * n, 2 * n + 1] (fun s i => s.setFld (R.DCT_ROW_LEAD i) F.DCT_ROW_LEAD_LEAD (2 * (pre + gap)))

/-- HP_STB_ENV written (R258, R289). -/
def State.envWrite (s : State) (n v : Nat) : State :=
  s.setN (R.HP_STB_ENV n) (clampN 500 3000 (bits v 0 12) + clampN 500 3000 (bits v 16 12) * 65536)

/-- HP_TRIM_W written (R258, R289). -/
def State.trimWrite (s : State) (n k v : Nat) : State :=
  s.setN (R.HP_TRIM_W n k) (clampN 500 3000 (bits v 0 12) + clampN 500 3000 (bits v 16 12) * 65536)

/-- The four widths of a port in ns: a value of 0 keeps the present one, one beyond its field counts as the field's
largest. -/
def State.putWidths (s : State) (n pre gap env short : Nat) : State :=
  let keep := fun (v top a : Nat) (f : Fld) => min top (if v = 0 then s.fld a f else v)
  let w := R.HP_STB_W n
  let e := R.HP_STB_ENV n
  let s1 := s.stbWrite n (keep pre 2047 w F.HP_STB_W_PRE + keep gap 2047 w F.HP_STB_W_GAP * 2048)
  s1.envWrite n (keep env 4095 e F.HP_STB_ENV_ENV + keep short 4095 e F.HP_STB_ENV_SHORT * 65536)

/-- Whether the given values of W_PRE, W_GAP and W_SHORT, held to their ranges, would change those of port `n` at a time at which
they may not change: a row of it runs or holds an entry (R261). -/
def State.widthsHeld (s : State) (n pre gap short : Nat) : Bool :=
  let new := fun (v lo hi a : Nat) (f : Fld) => decide (clampN lo hi v ≠ s.fld a f)
  (new pre 200 1500 (R.HP_STB_W n) F.HP_STB_W_PRE || new gap 100 2000 (R.HP_STB_W n) F.HP_STB_W_GAP ||
    new short 500 3000 (R.HP_STB_ENV n) F.HP_STB_ENV_SHORT) &&
  [2 * n, 2 * n + 1].any (fun i => (s.rowAt i).run || decide ((s.rowAt i).queue ≠ []))

/-- W_SHORT written into the control page of a Type S head (R260). -/
def State.sendShort (s : State) (n : Nat) : State :=
  if s.portType n = 1 then s.emit (.twoWire n 0x51 0 (leBytes 2 (s.fld (R.HP_STB_ENV n) F.HP_STB_ENV_SHORT))) else s

/-- A width argument outside its range; 0 asks for the default (R258, R457). -/
def widthBad (v lo hi : Nat) : Bool := decide (v ≠ 0) && (decide (v < lo) || decide (hi < v))

/-- EW_LIMIT as R283 computes it. -/
def State.ewLimit (s : State) (n : Nat) : Nat :=
  let num := 9 * 2 * s.nprSet n * (s.fld (R.HP_STB_W n) F.HP_STB_W_PRE + s.fld (R.HP_STB_ENV n) F.HP_STB_ENV_ENV) *
    s.fld (R.HP_EW_CFG n) F.HP_EW_CFG_EW_WIN * 8000
  let den := 8 * s.tMin (2 * n) * 1024
  min 0xFFFFFFFF ((num + den - 1) / den)

/-! Bitmaps of Bank N (R190). -/

/-- The first bits of port `n`'s part of a bitmap written; the bits beyond them stay. -/
def State.putMap (s : State) (base n : Nat) (l : List Bool) : State :=
  s.quillWrite (base + n * 512) (packBits 512 (l ++ (s.chipBits base (n * 4096) 4096).drop l.length))

/-! Attach (R457). -/

/-- Arguments as bytes. -/
def argN (a : List Nat) (off k : Nat) : Nat := leAt a off k

/-- The argument checks that need no head record (R457 check 1). -/
def State.attachArgsBad (s : State) (a : List Nat) : Bool :=
  decide (s.part.ports ≤ argN a 0 1) || decide (7 < argN a 2 1) || !(s.planeAt (argN a 2 1)).defined ||
    decide (63 < argN a 3 1) || decide (2048 < argN a 8 2) || decide (2 ^ 24 ≤ argN a 12 4) ||
    widthBad (argN a 16 2) 200 1500 || widthBad (argN a 18 2) 100 2000 || widthBad (argN a 20 2) 500 3000 ||
    widthBad (argN a 22 2) 500 3000 || decide (15 < argN a 30 1) || decide (1000 < argN a 36 2)

/-- Whether columns `c` to `c + k - 1` of plane `p` meet those of another head (R187). -/
def State.columnsMeet (s : State) (n p c k : Nat) : Bool :=
  (s.portsOf p).any (fun m => m ≠ n && s.bit (R.NZP_MAP_CFG m) F.NZP_MAP_CFG_EN &&
    spansMeet c k (s.fld (R.NZP_MAP_COL m) F.NZP_MAP_COL_COL0) (s.fld (R.NZP_MAP_COL m) F.NZP_MAP_COL_NCOL))

/-- The checks that need the record (R457 check 4): R185, R187, R256, and TMIN. -/
def State.attachRecBad (s : State) (n : Nat) (a : List Nat) : Bool :=
  let p := s.portAt n
  let noz := p.recN 0x0C 2
  let npr := noz / 2
  let pl := argN a 2 1
  let tmin := argN a 12 4
  noz % 2 = 1 || (s.portType n = 2 && decide (2048 < npr)) || (s.portType n = 1 && decide (npr ≠ 256 ∧ npr ≠ 512)) ||
    decide (npr < argN a 10 2 + argN a 8 2) || decide (s.width pl < argN a 4 4 + argN a 8 2) ||
    s.columnsMeet n pl (argN a 4 4) (argN a 8 2) || (decide (tmin ≠ 0) && decide (tmin < p.recN 0x18 4 % 2 ^ 24))

/-- The value of a width argument, or the record's where it is 0, within its field. -/
def State.attachWidth (s : State) (n : Nat) (a : List Nat) (off rec top : Nat) : Nat :=
  min top (if argN a off 2 = 0 then (s.portAt n).recN rec 2 else argN a off 2)

/-- The heat indices, the verification records and the masks of the head on port `n` as an attach leaves them (R216, R307,
R333, R457). `keep` leaves the host's masks (R522). -/
def State.attachMaps (s : State) (n : Nat) (keep : Bool) : State :=
  let p := s.portAt n
  let noz := p.recN 0x0C 2
  let zero := List.replicate noz false
  let listed := (List.range (min 60 (p.recN 0x64 2))).map (fun j => p.recN (0x68 + 2 * j) 2)
  let s := s.quillWrite (bankN + n * 8192) (List.replicate (2 * noz) 0)
  let s := s.quillWrite (bankN + 0x40000 + n * 8192) (List.replicate (2 * noz) 0)
  let s := s.quillWrite (dgvRec n 0) ((List.replicate noz [0, 0, 0xFF, 0xFF]).flatMap (fun x => x))
  let s := s.putMap maskRec n ((List.range noz).map (fun h => listed.contains h))
  let s := s.putMap maskDgv n zero
  if keep then s else (s.putMap maskHset n zero).putMap maskHclr n zero

/-- The registers of the head on port `n` from its record and the arguments `a`, where one of 0 takes the record's value or
the register's reset value (R333, R457). -/
def State.attachRegs (s : State) (n : Nat) (a : List Nat) : State :=
  let p := s.portAt n
  let fl := fun (j : Nat) => bits (argN a 3 1) j 1
  let pick := fun (v d : Nat) => if v = 0 then d else v
  let rows := [2 * n, 2 * n + 1]
  let s := s.setN (R.NZP_MAP_CFG n)
    (1 + fl 0 * 2 + s.fld (R.NZP_MAP_CFG n) F.NZP_MAP_CFG_POLICY * 4 + p.recN 0x0C 2 / 2 * 16 + argN a 10 2 % 4096 * 65536)
  let s := s.setN (R.NZP_MAP_COL n) (argN a 4 4 % 2 ^ 17 + argN a 8 2 * 2 ^ 20)
  let tmin := pick (argN a 12 4) (p.recN 0x18 4 % 2 ^ 24)
  let s := s.forEach rows (fun s i =>
    let s := s.setFld (R.DCT_ROW_CFG i) F.DCT_ROW_CFG_PLANE (argN a 2 1)
    let s := s.setFld (R.DCT_ROW_TMIN i) F.DCT_ROW_TMIN_TMIN tmin
    (s.setN (R.DCT_ROW_VEL i) (p.recN 0x62 2 * 256)).modRow i (fun r => { r with tS := s.now, nakArm := true }))
  let w := s.attachWidth n a
  let env := w 20 0x20 4095 + w 22 0x22 4095 * 65536
  let s := (s.stbWrite n (w 16 0x1C 2047 + w 18 0x1E 2047 * 2048)).envWrite n env
  let s := s.sendShort n
  let s := if s.portType n = 2 then
      s.forEach (List.range 8) (fun s k =>
        s.trimWrite n k (min 4095 (p.recN (0x24 + 2 * k) 2) + min 4095 (p.recN (0x34 + 2 * k) 2) * 65536))
    else s.setFld (R.HP_TS_CFG n) F.HP_TS_CFG_NF (p.recN 0x60 2)
  let s := s.setN (R.NZP_TH_DECAY n) (pick (argN a 24 4) (p.recN 0x54 4))
  let s := s.setN (R.NZP_TH_RISEW n) (pick (argN a 38 2) (p.recN 0x58 2))
  let s := s.setN (R.NZP_TH_RISE n) (pick (argN a 40 2) (p.recN 0x5A 2) + pick (argN a 42 2) (p.recN 0x5C 2) * 65536)
  let s := s.setN (R.NZP_TH_CFG n) (fl 1 + fl 2 * 2 + fl 3 * 4 + fl 4 * 8 + pick (argN a 30 1) 8 * 16 + argN a 31 1 * 256 +
    pick (argN a 28 2) (p.recN 0x5E 2) * 65536)
  let s := s.setBit (R.HP_CFG n) F.HP_CFG_EW_EN (fl 5 = 1)
  let s := s.setFld (R.HP_EW_CFG n) F.HP_EW_CFG_EW_WIN (pick (argN a 36 2) 250)
  s.setN (R.HP_EW_LIMIT n) (pick (argN a 32 4) (s.ewLimit n))

/-- The head on port `n` attached (R216, R217, R237, R303, R307, R333, R338, R340, R341, R457). -/
def State.attachHead (s : State) (n : Nat) (a : List Nat) (keep : Bool) : State :=
  let id := (s.portAt n).recId
  let s := ((s.attachMaps n keep).headTaken n id).modPort n (fun p => { p with
    st := .attached, since := s.now, plane := some (argN a 2 1), args := a, attachedId := some id, wbFail := false
    barred := false, barAfter := none, retryQ := [], planGap := none, plan := [], opu := []
    maps := [{}, {}] })
  let s := (s.attachRegs n a).setFld (R.DGV_SWEEP n) F.DGV_SWEEP_POS 0
  let s := s.count (cPort n 12)
  let s := s.forEach (s.loopZones n) (fun s z => (s.loopSp n z s.pw.spPrint).loopEnable n z true)
  let s := if s.mustBar n then s.bar n else s
  let s := s.nzpCommit (argN a 2 1)
  if s.portType n = 2 then s.trimGo n else s

/-- The result of an attach (R457). -/
def State.attachResult (s : State) (n : Nat) : List Nat :=
  let p := s.portAt n
  [(if p.barred then 1 else 0) + (if p.untrusted then 2 else 0) + (if p.recN 0xE0 5 = usageMax then 4 else 0), 0, 0, 0] ++
    leBytes 5 (p.recN 0xE0 5) ++ [0, 0, 0] ++ leBytes 2 p.recId.1 ++ [0, 0] ++ leBytes 8 p.recId.2

/-! Detach (R335, R457). -/

/-- A detach begins: the final write-back, and the head's columns leave the map. -/
def State.detachHead (s : State) (n : Nat) : State :=
  let s := if (s.portAt n).st = .lost then s else s.wbTrigger n true
  let s := s.forEach [2 * n, 2 * n + 1] (fun s i => s.setBit (R.DCT_ROW_CFG i) F.DCT_ROW_CFG_EN false)
  let s := s.setBit (R.NZP_MAP_CFG n) F.NZP_MAP_CFG_EN false
  match (s.portAt n).plane with
  | some p => s.nzpCommit p
  | none => s

/-- A detach ends: the port returns to PRESENT, or to DETECT from LOST; the head's loops are disabled (R237). -/
def State.detachDone (s : State) (n : Nat) : State :=
  let lost := (s.portAt n).st = .lost
  let s := s.forEach (List.range 8) (fun s z => s.loopEnable n z false)
  let s := (s.voidAll n).modPort n (fun p => { p with plane := none, attachedId := none, barred := false, barAfter := none })
  if lost then s.enterDetect n
  else if (s.portAt n).st = .attached ∨ (s.portAt n).st = .offline then s.portGo n .present
  else s

/-- HEAD_ATTACH (R457). -/
def State.headAttach (s : State) (q : Nat) (c : Cmd) : State :=
  let n := c.arg 0 1
  let st := (s.portAt n).st
  match c.arg 1 1 with
  | 1 =>
    if s.attachArgsBad c.args then s.finish q c stBadArg
    else if st = .attached ∨ st = .offline then s.finish q c stBusy
    else if st ≠ .present then s.finish q c stNotReady
    else if !(s.portAt n).recOk then s.finish q c stUnsupported
    else if s.attachRecBad n c.args then s.finish q c stBadArg
    else if s.widthsHeld n (s.attachWidth n c.args 16 0x1C 2047) (s.attachWidth n c.args 18 0x1E 2047)
        (s.attachWidth n c.args 22 0x22 4095) then s.finish q c stBusy
    else (s.attachHead n c.args false).hold q c (.attach n true (s.portType n = 2))
  | 0 =>
    if s.part.ports ≤ n ∨ (st ≠ .attached ∧ st ≠ .offline ∧ st ≠ .lost) then s.finish q c stBadArg
    else if (s.rowAt (2 * n)).run ∨ (s.rowAt (2 * n + 1)).run then s.finish q c stBusy
    else
      let s := s.detachHead n
      s.hold q c (.detach n (s.portAt n).wb.isSome ((s.portAt n).plane.isSome))
  | _ => s.finish q c stBadArg

end Sys2Proof.Machine
end

