-- ==== Sys2Proof/Machine/Cal.lean ====
section
/-! DEFINITION. Calibration (R544 to R547, R563 to R565, R469). -/
namespace Sys2Proof.Machine

/-- A trim put in force (R545). -/
def State.applyTrim (s : State) (t : TrimDue) : State :=
  let v := fun (j : Nat) => t.vals.getD j 0
  match t.what with
  | 0 => (s.setN (R.CAL_ENC_GAIN t.unit) (v 0 % 65536 + v 1 % 65536 * 65536)).setFld (R.CAL_ENC_REF t.unit) F.CAL_ENC_REF_A_NOM (v 2)
  | 1 => s.setFld (R.CAL_PORT_SKEW t.unit) F.CAL_PORT_SKEW_SKEW (v 0)
  | 2 => s.setFld (R.CAL_PORT_TERM t.unit) F.CAL_PORT_TERM_TERM (v 0)
  | 3 => s.setFld (R.CAL_PORT_TS t.unit) F.CAL_PORT_TS_RATIO (v 0)
  | _ => s.setFld R.CAL_TB F.CAL_TB_TB (v 0)

/-- The trims whose boundary has come applied (R545): at a tick boundary, or, with `all`, on entry to IDLE. -/
def State.trimsDue (s : State) (all : Bool) : State :=
  let s := s.forEach (s.cal.due.filter (fun t => t.atTick || all)) State.applyTrim
  { s with cal := { s.cal with due := s.cal.due.filter (fun t => !(t.atTick || all)) } }

/-- A trim put before its boundary; it replaces one of the same unit that still waits. -/
def State.trimWait (s : State) (t : TrimDue) : State :=
  { s with cal := { s.cal with due := s.cal.due.filter (fun x => !(x.what = t.what && x.unit = t.unit)) ++ [t] } }

/-- CAL_PORT_FAIL (R565). -/
def State.calShow (s : State) : State :=
  let all := 2 ^ s.part.ports - 1
  s.setN R.CAL_PORT_FAIL (if s.cal.tb then all else (s.cal.ts ||| s.cal.skew ||| s.cal.lvds) &&& all)

/-- A reading of RREF more than 2 % from nominal (R544). -/
def rrefBad (r : Nat) : Bool := decide (100 * ((r : Int) - 16384).natAbs > 2 * 16384)

/-- Whether a port is idle for an analogue trim (R545). -/
def State.portIdle (s : State) (n : Nat) : Bool :=
  let running := match (s.portAt n).plane with
    | some p => ((s.planeAt p).job.map (·.st)) = some .running
    | none => false
  !running && (s.rowAt (2 * n)).queue = [] && (s.rowAt (2 * n + 1)).queue = []

/-- Whether an encoder channel is idle (R545). -/
def State.encIdle (s : State) (k : Nat) : Bool := (s.rowsOn k).all (fun i => !(s.rowAt i).run)

/-- The items of `scope` (R469) found on channels `encs` and ports `ports`: what failed is flagged, what passed is handed to
`put`. -/
def State.calItems (s : State) (scope encs ports : Nat) (r : CalIn) (put : State → TrimDue → State) : State :=
  let bad := rrefBad r.rref
  let on := fun (j : Nat) => bits scope j 1 = 1
  let failed := fun (mask k : Nat) => bad || bits mask k 1 = 1
  let enc := (List.range 4).filter (fun k => bits encs k 1 = 1)
  let pts := (List.range s.part.ports).filter (fun n => bits ports n 1 = 1)
  let flag := fun (s : State) (f : Fld) (b : Bool) => if b then s.setBit R.CAL_STAT f true else s
  let mask := fun (old m : Nat) => pts.foldl (fun a n => setBits a n 1 (if failed m n then 1 else 0)) old
  let s := s.bump R.CAL_STAT F.CAL_STAT_RUNS
  let s := (s.setN R.CAL_RREF (r.rref % 65536)).setFld R.CAL_TEMP F.CAL_TEMP_TEMP (uns 16 r.temp)
  let s := s.setBit R.CAL_STAT F.CAL_STAT_RREF_FAULT bad
  let s := if on 0 then
      let s := flag s F.CAL_STAT_ENC_FAIL (enc.any (failed r.encFail))
      s.forEach (enc.filter (fun k => !failed r.encFail k)) (fun s k =>
        let g := r.gains.getD k (0, 0)
        put s { what := 0, unit := k, vals := [g.1, g.2, r.refs.getD k 0], atTick := s.encIdle k })
    else s
  let s := if on 1 then
      let s := flag s F.CAL_STAT_TS_FAIL (pts.any (failed r.tsFail))
      let s := { s with cal := { s.cal with ts := mask s.cal.ts r.tsFail } }
      s.forEach (pts.filter (fun n => !failed r.tsFail n)) (fun s n =>
        put s { what := 3, unit := n, vals := [r.ts.getD n 0], atTick := s.portIdle n })
    else s
  let s := if on 2 then
      let s := flag s F.CAL_STAT_TB_FAIL (bad || r.tbFail)
      let s := { s with cal := { s.cal with tb := bad || r.tbFail } }
      if bad || r.tbFail then s else put s { what := 4, vals := [r.tb], atTick := true }
    else s
  let s := if on 3 then
      let s := flag s F.CAL_STAT_SKEW_FAIL (pts.any (failed r.skewFail))
      let s := { s with cal := { s.cal with skew := mask s.cal.skew r.skewFail } }
      s.forEach (pts.filter (fun n => !failed r.skewFail n)) (fun s n =>
        put s { what := 1, unit := n, vals := [uns 16 (r.skew.getD n 0)], atTick := true })
    else s
  let s := if on 4 then
      let s := flag s F.CAL_STAT_LVDS_FAIL (pts.any (failed r.lvdsFail))
      let s := { s with cal := { s.cal with lvds := mask s.cal.lvds r.lvdsFail } }
      s.forEach (pts.filter (fun n => !failed r.lvdsFail n)) (fun s n =>
        put s { what := 2, unit := n, vals := [r.term.getD n 0], atTick := s.portIdle n })
    else s
  s.calShow

/-- The ports the port map gives TYPE 2 (R253): those with LVDS terminations to calibrate. -/
def State.mapTypeL (s : State) : Nat :=
  (List.range s.part.ports).foldl (fun m n =>
    if bits (s.get64 R.OTP_PORTMAP_LO R.OTP_PORTMAP_HI) (2 * n) 2 = 2 then m + 2 ^ n else m) 0

/-- Start-up calibration complete (R55, R68, R544). -/
def State.startCal (s : State) (r : CalIn) : State :=
  if s.fld R.SYS_BOOT_STAT F.SYS_BOOT_STAT_STAGE < 3 ∨ s.bit R.CAL_STAT F.CAL_STAT_DONE then s
  else
    let lvds := if rrefBad r.rref then s.mapTypeL else r.lvdsFail &&& s.mapTypeL
    let passed := if rrefBad r.rref then 0 else 15 - (r.encFail &&& 15)
    let s := s.calItems 15 15 (2 ^ s.part.ports - 1) r State.applyTrim
    let s := (s.forEach ((List.range s.part.ports).filter (fun n => bits lvds n 1 = 0 && bits s.mapTypeL n 1 = 1))
      (fun s n => s.applyTrim { what := 2, unit := n, vals := [r.term.getD n 0] }))
    let s := if lvds = 0 then s else s.setBit R.CAL_STAT F.CAL_STAT_LVDS_FAIL true
    let s := { s with cal := { s.cal with enc := passed, lvds := lvds } }.calShow
    let s := s.forEach [0, 1, 2, 3] (fun s k =>
      if bits passed k 1 = 1 ∧ (s.encAt k).st = .waitCal then s.encQualify k else s)
    s.setBit R.CAL_STAT F.CAL_STAT_DONE true

/-- A calibration of `scope` on channels and ports begins. -/
def State.calBegin (s : State) (scope encs ports : Nat) : State :=
  { s.setBit R.CAL_STAT F.CAL_STAT_BUSY true with cal := { s.cal with run := some (scope, encs, ports) } }

/-- GO of CAL_CTL (R564); without effect while a calibration is in progress. -/
def State.calGo (s : State) : State :=
  if s.bit R.CAL_STAT F.CAL_STAT_BUSY then s
  else s.calBegin (s.fld R.CAL_CTL F.CAL_CTL_SCOPE) (s.fld R.CAL_CTL F.CAL_CTL_ENC_SEL) (s.getN R.CAL_PORT_SEL)

/-- A calibration ends (R469, R545, R547): what it found waits for its boundary, and CAL_RUN completes. -/
def State.calDone (s : State) (r : CalIn) : State :=
  match s.cal.run with
  | none => s
  | some (scope, encs, ports) =>
    let s := s.calItems scope encs ports r State.trimWait
    let s := { s.setBit R.CAL_STAT F.CAL_STAT_BUSY false with cal := { s.cal with run := none } }
    s.forEach (List.range 32) (fun s q =>
      match s.waitOf q with
      | some (.cal done deferred part) =>
        s.finishCur q (if part then stDeferred else stOk) (leBytes 4 done ++ leBytes 4 deferred)
      | _ => s)

/-- The timebase delay line compared and corrected (R546): the correction applies at the next tick boundary. -/
def State.calTrack (s : State) (code : Nat) : State :=
  if s.bit R.CAL_STAT F.CAL_STAT_DONE then s.trimWait { what := 4, vals := [code % 4096], atTick := true } else s

/-- The items deferred to a wake are calibrated as it begins (R547); encoder inputs are not among them. -/
def State.calWake (s : State) : State :=
  match s.cal.later with
  | some (scope, ports) =>
    if s.bit R.CAL_STAT F.CAL_STAT_BUSY then s
    else
      let s := { s with cal := { s.cal with later := none } }
      let s := (s.setN R.CAL_CTL (setBits scope 0 1 0 * 2)).setN R.CAL_PORT_SEL ports
      s.calBegin (setBits scope 0 1 0) 0 ports
  | none => s

/-- CAL_RUN (R469, R547): what may not be calibrated now is deferred. -/
def State.calRun (s : State) (q : Nat) (c : Cmd) : State :=
  let ports := c.arg 0 4
  let scope := c.arg 4 1
  if 2 ^ s.part.ports ≤ ports ∨ 31 < scope then s.finish q c stBadArg
  else if s.bit R.CAL_STAT F.CAL_STAT_BUSY then s.finish q c stBusy
  else
    let off := s.mode = .idle && decide (2 ≤ s.pw.sub)
    let later := fun (n : Nat) =>
      (s.mode = .print && (match (s.portAt n).plane with
        | some p => ((s.planeAt p).job.map (·.st)) = some .running
        | none => false)) || (off && (s.portAt n).st = .off)
    let deferred := ((List.range s.part.ports).filter (fun n => bits ports n 1 = 1 && later n)).foldl (fun m n => m + 2 ^ n) 0
    let encs := if bits scope 0 1 = 0 then 0
      else ((List.range 4).filter (fun k => s.mode ≠ .print || s.encIdle k)).foldl (fun m k => m + 2 ^ k) 0
    let part := decide (deferred ≠ 0) || (bits scope 0 1 = 1 && decide (encs ≠ 15))
    let s := s.setN R.CAL_CTL (scope * 2 + encs * 256)
    let s := s.setN R.CAL_PORT_SEL (ports - deferred)
    let s := if off ∧ deferred ≠ 0 then { s with cal := { s.cal with later := some (match s.cal.later with
        | some (a, b) => (a ||| scope, b ||| deferred)
        | none => (scope, deferred)) } } else s
    (s.calBegin scope encs (ports - deferred)).hold q c (.cal (ports - deferred) deferred part)

end Sys2Proof.Machine
end

