-- ==== Sys2Proof/Machine/Chain.lean ====
section
/-! DEFINITION. The Mboca chain link and shared time (R482 to R508). -/
namespace Sys2Proof.Machine

/-! Frames (R486 to R488). -/

/-- One byte into the CRC-32 of R488, reflected. -/
def crc32Byte (c b : Nat) : Nat :=
  (List.range 8).foldl (fun c _ => if c % 2 = 1 then c / 2 ^^^ 0xEDB88320 else c / 2) (c ^^^ b)

/-- The CRC-32 of R488. -/
def crc32 (bs : List Nat) : Nat := (bs.foldl crc32Byte 0xFFFFFFFF) ^^^ 0xFFFFFFFF

/-- The 64 bytes of a frame (R486). -/
def frameBytes (ty src hops seq dst oseq : Nat) (payload : List Nat) : List Nat :=
  let b := [ty % 256, src % 16 + hops % 16 * 16] ++ leBytes 2 seq ++ [dst % 256, 0] ++ leBytes 2 oseq ++
    (payload ++ List.replicate 52 0).take 52
  b ++ leBytes 4 (crc32 b)

/-- Whether bytes received are a frame whose CRC passes (R488, R489). -/
def frameGood (bs : List Nat) : Bool :=
  decide (bs.length = 64) && decide (leAt bs 60 4 = crc32 (bs.take 60))

end Sys2Proof.Machine
namespace Sys2Proof
open Sys2Proof.Machine

/-- The fields of a received frame (R486). -/
def MFrame.ty (f : MFrame) : Nat := leAt f.bytes 0 1
def MFrame.src (f : MFrame) : Nat := leAt f.bytes 1 1 % 16
def MFrame.hops (f : MFrame) : Nat := leAt f.bytes 1 1 / 16 % 16
def MFrame.seq (f : MFrame) : Nat := leAt f.bytes 2 2
def MFrame.dst (f : MFrame) : Nat := leAt f.bytes 4 1
def MFrame.oseq (f : MFrame) : Nat := leAt f.bytes 6 2
def MFrame.payload (f : MFrame) : List Nat := (f.bytes.drop 8).take 52

end Sys2Proof
namespace Sys2Proof.Machine

/-- The start block of a frame (R484). -/
def startBlock : MBlock := { control := true, octets := [0x78, 0x4D, 0x42, 0x4F, 0x43, 0x41, 0x00, 0x00] }

/-- The blocks a frame goes out as (R484): one start block and eight data blocks. Idle blocks of type 0x1E stand between frames. -/
def frameBlocks (bs : List Nat) : List MBlock :=
  startBlock :: (List.range 8).map (fun j => { control := false, octets := (bs.drop (8 * j)).take 8 })

/-- The types of R487. -/
def frameTypes : List Nat := [0x01, 0x02, 0x10, 0x11, 0x20, 0x30, 0x40]

/-- The relayed types of R487. -/
def relayedTypes : List Nat := [0x02, 0x20, 0x30, 0x40]

/-- A time stamp of 9 bytes (R487), from 1/16 DT. -/
def stampBytes (t : Nat) : List Nat := leBytes 8 (t / 16) ++ [t % 16]

/-- The time stamp at a payload offset, in 1/16 DT. -/
def stampAt (p : List Nat) (o : Nat) : Nat := leAt p o 8 * 16 + leAt p (o + 8) 1 % 16

/-! Ports. -/

def State.mport (s : State) (pt : Nat) : MPort := s.chain.ports.getD pt {}
def State.modMport (s : State) (pt : Nat) (f : MPort → MPort) : State :=
  { s with chain := { s.chain with ports := s.chain.ports.modify pt f } }
def State.modChain (s : State) (f : Chain → Chain) : State := { s with chain := f s.chain }

/-- EN, INDEX, COUNT and PREF of CHN_CFG (R506). -/
def State.joined (s : State) : Bool := s.bit R.CHN_CFG F.CHN_CFG_EN
def State.myIdx (s : State) : Nat := s.fld R.CHN_CFG F.CHN_CFG_INDEX
def State.myPref (s : State) : Nat := s.fld R.CHN_CFG F.CHN_CFG_PREF

/-- SYNC_ST (R495): 0 OFF, 1 ACQUIRE, 2 LOCKED, 3 HOLDOVER. -/
def State.syncSt (s : State) : Nat := s.fld R.CHN_STAT F.CHN_STAT_SYNC_ST
def State.setSync (s : State) (v : Nat) : State := s.setFld R.CHN_STAT F.CHN_STAT_SYNC_ST v

/-- MASTER of CHN_STAT. -/
def State.isMaster (s : State) : Bool := s.bit R.CHN_STAT F.CHN_STAT_MASTER

/-- The link bit of a port in CHN_STAT. -/
def linkFld (pt : Nat) : Fld := if pt = 0 then F.CHN_STAT_UP_LINK else F.CHN_STAT_DN_LINK

/-- A frame sent on a port (R486, R489). -/
def State.mbocaTx (s : State) (pt ty src hops dst oseq : Nat) (payload : List Nat) : State :=
  let seq := (s.mport pt).txSeq
  (s.emit (.mboca pt (frameBlocks (frameBytes ty src hops seq dst oseq payload)) s.now)).modMport pt
    (fun p => { p with txSeq := (seq + 1) % 65536 })

/-- A relayed frame of this device sent on both ports that are UP, under one OSEQ (R486, R490). -/
def State.originate (s : State) (ty dst : Nat) (payload : List Nat) : State :=
  let o := ((s.chain.txSeq.find? (·.1 = ty)).map (·.2)).getD 0
  let s := s.modChain (fun c => { c with txSeq := (ty, (o + 1) % 65536) :: c.txSeq.filter (·.1 ≠ ty) })
  s.forEach ([0, 1].filter (fun pt => (s.mport pt).up)) (fun s pt => s.mbocaTx pt ty s.myIdx 0 dst o payload)

/-! Shared time: states (R495, R496). -/

/-- The mean of the values of f held (R495); its rounding, which the spec does not state, is free. -/
def State.meanF (s : State) : Int :=
  if s.chain.hist = [] then s.chain.f else divFree 7 (s.chain.hist.foldl (· + ·) 0) s.chain.hist.length

/-- f put in force and shown (R494, R508). -/
def State.setF (s : State) (f : Int) : State :=
  (s.modChain (fun c => { c with f := f })).setN R.CHN_FTRIM (uns 32 f)

/-- A LOCKED slave enters HOLDOVER (R495). -/
def State.holdover (s : State) : State :=
  if s.syncSt ≠ 2 ∨ s.isMaster then s
  else
    let s := (s.setF s.meanF).setSync 3
    let s := (s.raiseCount 0x8002 0 10).setBit R.CHN_STAT F.CHN_STAT_SYNC_LOST true
    (s.bump R.CHN_SYNC_CNT F.CHN_SYNC_CNT_HOLDOVERS).modChain (fun c => { c with
      coastAt := some s.now, good := 0, big := 0, miss := 0 })

/-- The coast timer reaches 10 ms (R495, R498). -/
def State.chainCoastTimeout (s : State) : State :=
  match s.chain.coastAt with
  | some t =>
    if s.syncSt ≠ 3 ∨ s.bit R.CHN_STAT F.CHN_STAT_COAST_EXP then s
    else ((s.advTo (t + 20000000)).setBit R.CHN_STAT F.CHN_STAT_COAST_EXP true).setBit R.SYS_ADMIT_STOP F.SYS_ADMIT_STOP_SYNC true
  | none => s

/-- The device reaches LOCKED (R495). -/
def State.syncLock (s : State) : State :=
  ((s.setSync 2).setBit R.CHN_STAT F.CHN_STAT_COAST_EXP false).setBit R.CHN_STAT F.CHN_STAT_STEP_DUE false |>.modChain
    (fun c => { c with coastAt := none, good := 0, big := 0, miss := 0, wasLocked := true })

/-- No master and no sync neighbour in force (R491, R495). -/
def State.noMaster (s : State) : State :=
  (s.setBit R.CHN_STAT F.CHN_STAT_MASTER false).modChain (fun c => { c with
    master := none, syncPort := none, meas := none, asked := false, next := none })

/-- EN set (R491, R495). `ident` is the device's IDENT. -/
def State.chainJoin (s : State) (ident : Nat) : State :=
  ((s.setSync 1).noMaster).modChain (fun c => { c with
    ident := ident, members := [], good := 0, big := 0, miss := 0, coastAt := none, step := 0, conflictAt := none
    fi := 0, f := 0, hist := [], wasLocked := false, joinAt := s.now })

/-- EN cleared (R495): OFF, the copy OFF. -/
def State.chainLeave (s : State) : State :=
  let keep := s.getN R.CHN_STAT &&& 0x700
  let s := (s.setBit R.CHN_CFG F.CHN_CFG_EN false).noMaster
  { (s.setN R.CHN_STAT keep).setN R.CHN_MEMBERS 0 with
    copy := {}, chain := { s.chain with members := [], coastAt := none } }

/-! Links (R485). -/

/-- Both ports begin bring-up: at READY, and where the device leaves what held them down. -/
def State.linksStart (s : State) : State :=
  s.forEach [0, 1] (fun s pt => s.modMport pt (fun p =>
    if p.run then p else { p with run := true, retryAt := none, wait := 1, good := 0 }))

/-- Block lock gained on a port (R485). -/
def State.blockLock (s : State) (pt : Nat) : State :=
  if (s.mport pt).run ∧ !(s.mport pt).lock then
    s.modMport pt (fun p => { p with lock := true, good := 0, expect := none, lastRx := s.now })
  else s

/-- A LINK frame sent (R485, every 250 µs). -/
def State.linkSend (s : State) (pt : Nat) : State :=
  if (s.mport pt).lock then
    s.mbocaTx pt 0x01 s.myIdx 0 0xFF 0 [s.myIdx, s.fld R.CHN_CFG F.CHN_CFG_COUNT]
  else s

/-- A link comes up (R485). -/
def State.linkUp_ (s : State) (pt : Nat) : State :=
  (s.setBit R.CHN_STAT (linkFld pt) true).modMport pt (fun p => { p with up := true, wait := 1 })

/-- Whether the master's ANNOUNCE has arrived on port `pt` within the last 3 ms, and with which HOPS (R491, R492). -/
def State.masterHops (s : State) (m pt : Nat) : Option Nat :=
  if !(s.mport pt).up then none
  else match s.chain.members.find? (·.idx = m) with
    | some x => match x.hops.getD pt none with
      | some (h, t) => if s.now ≤ t + 6000000 then some h else none
      | none => none
    | none => none

/-- The sync port for master `m` and the HOPS on it (R492): the lower HOPS, UP on equal HOPS. -/
def State.pickPort (s : State) (m : Nat) : Option Nat × Nat :=
  match s.masterHops m 0, s.masterHops m 1 with
  | some a, some b => if a ≤ b then (some 0, a) else (some 1, b)
  | some a, none => (some 0, a)
  | none, some b => (some 1, b)
  | none, none => (none, 0)

/-- A port goes DOWN, or its bring-up fails (R485): `back` is false where the link is to stay down (Idle-Deep, the parked
state). A slave left without a sync neighbour loses sync at once (R504). -/
def State.linkDown (s : State) (pt : Nat) (back : Bool) : State :=
  let p := s.mport pt
  if !p.run then s
  else
    let s := if p.up then (s.setBit R.CHN_STAT (linkFld pt) false).bump (R.CHN_PCNT_LINK pt) F.CHN_PCNT_LINK_DOWN else s
    let s := s.modMport pt (fun p => { p with
      run := false, lock := false, up := false, good := 0, expect := none, after := [], due := []
      retryAt := if back then some (s.now + p.wait * 2000000) else none, wait := if back then min 64 (p.wait * 2) else 1 })
    if s.joined ∧ !s.isMaster ∧ s.chain.syncPort = some pt then
      match s.chain.master with
      | some m => if (s.pickPort m).1.isNone then (s.modChain (fun c => { c with syncPort := none, meas := none })).holdover else s
      | none => s
    else s

/-- The three causes of DOWN (R485): block lock lost, hi_ber, and no valid frame for 1 ms (`timeout`). -/
def State.mbocaDown (s : State) (pt : Nat) (timeout : Bool) : State :=
  let s := if timeout ∧ (s.mport pt).run then s.advTo ((s.mport pt).lastRx + 2000000) else s
  s.linkDown pt true

/-- The back-off wait of a port ends (R485). -/
def State.mbocaRetry (s : State) (pt : Nat) : State :=
  match (s.mport pt).retryAt with
  | some t => (s.advTo t).modMport pt (fun p => { p with run := true, retryAt := none })
  | none => s

/-! Members and the master (R491, R492). -/

/-- The members other than the device whose ANNOUNCE is at most 3 ms old (R491). -/
def State.alive (s : State) : List Member := s.chain.members.filter (fun m => decide (s.now ≤ m.at_ + 6000000))

/-- The heads attached to this device. -/
def State.myHeads (s : State) : Nat :=
  ((List.range s.part.ports).filter (fun n => (s.portAt n).st = .attached ∨ (s.portAt n).st = .offline)).length

/-- ANNOUNCE sent (R491, every 1 ms). -/
def State.announceSend (s : State) : State :=
  if !s.joined then s
  else s.originate 0x02 0xFF (leBytes 8 s.chain.ident ++ [s.myPref] ++ leBytes 2 s.myHeads ++ [s.syncSt])

/-- A cause of CONFLICT seen (R491). -/
def State.conflict (s : State) : State :=
  (s.setBit R.CHN_STAT F.CHN_STAT_CONFLICT true).modChain (fun c => { c with conflictAt := some s.now })

/-- The causes of CONFLICT that the member set shows (R491). -/
def State.conflictCheck (s : State) : State :=
  let l := s.alive
  let many := decide (s.fld R.CHN_CFG F.CHN_CFG_COUNT < l.length + 1)
  let heads := decide (s.chain.heads < l.foldl (fun k m => k + m.heads) s.myHeads)
  if many || heads then s.conflict else s

/-- A member's ANNOUNCE taken (R491): `h` are the HOPS it came with on port `pt`. -/
def State.takeAnnounce (s : State) (pt src h : Nat) (p : List Nat) : State :=
  if !s.joined then s
  else
    let old := s.chain.members.find? (·.idx = src)
    let m : Member := { idx := src, ident := leAt p 0 8, pref := leAt p 8 1, heads := leAt p 9 2, sync := leAt p 11 1 % 4, at_ := s.now
                        hops := ((old.map (·.hops)).getD [none, none]).set pt (some (h, s.now)) }
    (s.modChain (fun c => { c with members := m :: c.members.filter (·.idx ≠ src) })).conflictCheck

/-- The HOPS of a copy of an ANNOUNCE that came the other way round (R490, R492): it bears on the sync port alone. -/
def State.noteHops (s : State) (pt src h : Nat) : State :=
  s.modChain (fun c => { c with members := c.members.map (fun m =>
    if m.idx = src then { m with hops := m.hops.set pt (some (h, s.now)) } else m) })

/-- The election (R491, R492), once per millisecond; a change takes effect at the next tick boundary. -/
def State.masterElection (s : State) : State :=
  if !s.joined then s
  else
    let s := s.conflictCheck
    let s := match s.chain.conflictAt with
      | some t => if t + 6000000 ≤ s.now then
          (s.setBit R.CHN_STAT F.CHN_STAT_CONFLICT false).modChain (fun c => { c with conflictAt := none })
        else s
      | none => s
    let all := (s.myIdx, s.myPref, decide (s.syncSt = 2)) :: s.alive.map (fun m =>
      (m.idx, m.pref, decide (m.sync = 2) || decide (s.chain.master = some m.idx)))
    let cand := all.filter (fun m => m.2.1 ≠ 0)
    let elig := if cand.any (·.2.2) then cand.filter (·.2.2) else cand
    let mask := fun (l : List (Nat × Nat × Bool)) => l.foldl (fun k m => k ||| 2 ^ m.1) 0
    let s := s.setN R.CHN_MEMBERS (mask all + mask elig * 65536)
    let best := elig.foldl (fun (b : Option (Nat × Nat × Bool)) m => match b with
      | none => some m
      | some x => if x.2.1 < m.2.1 ∨ (x.2.1 = m.2.1 ∧ m.1 < x.1) then some m else b) none
    let m := if s.chain.conflictAt.isSome then none else best.map (·.1)
    let port := match m with
      | some i => if i = s.myIdx then (none, 0) else s.pickPort i
      | none => (none, 0)
    s.modChain (fun c => { c with next := some (m, port.1, port.2) })

/-- What the election found takes effect at a tick boundary (R492, R493, R495). -/
def State.masterApply (s : State) : State :=
  match s.chain.next with
  | none => s
  | some (m, port, hops) =>
    if !s.joined then s
    else
      let old := s.chain
      let self := decide (m = some s.myIdx)
      let was := s.isMaster
      let moved := decide (old.master ≠ m) || decide (old.syncPort ≠ port)
      let s := s.modChain (fun c => { c with master := m, syncPort := port, hops := hops, next := none
                                             meas := if moved then none else c.meas })
      let s := s.setBit R.CHN_STAT F.CHN_STAT_MASTER self
      let s := s.setFld R.CHN_STAT F.CHN_STAT_MASTER_IDX (m.getD 0)
      let s := s.setFld R.CHN_STAT F.CHN_STAT_SYNC_PORT (port.getD 0)
      let s := s.setFld R.CHN_STAT F.CHN_STAT_HOPS hops
      if self then
        if was then s
        else
          let s := if old.wasLocked then s else s.setF 0
          (((s.setSync 2).setBit R.CHN_STAT F.CHN_STAT_COAST_EXP false).setBit R.CHN_STAT F.CHN_STAT_STEP_DUE false).modChain
            (fun c => { c with coastAt := none, good := 0, big := 0, miss := 0, asked := false })
      else if was then s.modChain (fun c => { c with wasLocked := true, miss := 0, asked := false })
      else if port.isNone then s.holdover
      else s

/-! Measurements (R494, R495). -/

/-- The present interval ends (R495): one without a valid measurement is missed. -/
def State.intervalEnd (s : State) : State :=
  if !s.chain.asked then s
  else
    let s := s.modChain (fun c => { c with miss := c.miss + 1, good := 0, asked := false })
    if s.chain.miss ≥ 3 then s.holdover else s

/-- SYNC_REQ sent on the sync port (R494, every 1 ms). -/
def State.syncReqSend (s : State) : State :=
  if !s.joined ∨ s.isMaster ∨ s.syncSt = 0 then s
  else
    let s := s.intervalEnd
    match s.chain.syncPort with
    | none => s.modChain (fun c => { c with meas := none })
    | some pt =>
      let t1 := s.now * 16
      let seq := (s.mport pt).txSeq
      (s.mbocaTx pt 0x10 s.myIdx 0 0xFF 0 (stampBytes t1)).modChain (fun c => { c with
        meas := some { t1 := t1, seq := seq, pt := pt }, asked := true })

/-- A received SYNC_REQ is answered (R494) with the stamps taken at the ball. -/
def State.syncAnswer (s : State) (pt : Nat) (f : MFrame) : State :=
  s.mbocaTx pt 0x11 s.myIdx 0 0xFF 0
    (leBytes 2 f.seq ++ stampBytes (stampAt f.payload 0) ++ stampBytes f.t2 ++ stampBytes f.t3 ++ [s.syncSt])

/-- A valid measurement (R494, R495): `o` and `d` in 1/16 DT. -/
def State.measured (s : State) (o d : Int) : State :=
  let c := s.chain
  let fi := clampI (-100000) 100000 (c.fi + Int.tdiv (25 * o) 32)
  let f0 := clampI (-100000) 100000 (fi + Int.tdiv (250 * o) 32)
  let f := if s.syncSt = 2 ∨ s.syncSt = 3 then clampI (c.f - 1000) (c.f + 1000) f0 else f0
  let s := (s.setN R.CHN_OFS (uns 32 (satS 32 o))).setN R.CHN_DELAY (uns 32 d)
  let s := (s.setF f).modChain (fun c => { c with
    fi := fi, hist := (f :: c.hist).take 16, meas := none, asked := false, miss := 0
    good := if o.natAbs ≤ 32 then c.good + 1 else 0, big := if o.natAbs > 128 then c.big + 1 else 0 })
  match s.syncSt with
  | 1 =>
    if o.natAbs > 16000 then (s.setBit R.CHN_STAT F.CHN_STAT_STEP_DUE true).modChain (fun c => { c with step := o })
    else if s.chain.good ≥ 8 ∧ c.conflictAt.isNone then s.syncLock
    else s
  | 2 => if s.chain.big ≥ 2 then s.holdover else s
  | 3 => if s.chain.good ≥ 8 ∧ c.conflictAt.isNone then s.syncLock else s
  | _ => s

/-- A received SYNC_RESP (R494): its stamp at the ball is t4. The responder is the master, or reports LOCKED. -/
def State.syncAnswered (s : State) (pt : Nat) (f : MFrame) : State :=
  match s.chain.meas with
  | none => s
  | some m =>
    let p := f.payload
    let t1 : Int := m.t1
    let t2 : Int := stampAt p 11
    let t3 : Int := stampAt p 20
    let t4 : Int := f.t2
    let o := divFree 8 ((t2 - t1) - (t4 - t3)) 2 + sgn 32 (s.getN (R.CHN_ASYM pt))
    let d := divFree 9 ((t2 - t1) + (t4 - t3)) 2
    let valid := decide (m.pt = pt) && decide (t1 ≤ t4) && decide (t4 ≤ t1 + 1600000) && decide (leAt p 0 2 = m.seq) &&
      (decide (leAt p 29 1 = 2) || decide (s.chain.master = some f.src)) && decide (0 ≤ d) && decide (d ≤ 64000)
    if !s.joined ∨ s.isMaster ∨ !valid then s else s.measured o d

/-- The step of R496 at a tick boundary. -/
def State.clockStep (s : State) : State :=
  if !s.bit R.CHN_STAT F.CHN_STAT_STEP_DUE ∨ s.syncSt ≠ 1 ∨ s.rows.any (fun r => r.2.queue ≠ []) then s
  else
    let by_ := divNearFree 10 s.chain.step 16
    let shift := fun (t : Nat) => ((t : Int) + by_).toNat
    let s := { s with dt := s.dt + BitVec.ofInt 64 by_, tick := none }
    let s := (s.setBit R.CHN_STAT F.CHN_STAT_STEP_DUE false).bump R.CHN_SYNC_CNT F.CHN_SYNC_CNT_STEPS
    s.modChain (fun c => { c with
      step := 0, good := 0, meas := none, asked := false, joinAt := shift c.joinAt
      members := c.members.map (fun m => { m with
        at_ := shift m.at_, hops := m.hops.map (fun h => h.map (fun x => (x.1, shift x.2))) })
      ports := c.ports.map (fun p => { p with
        lastRx := shift p.lastRx, retryAt := p.retryAt.map shift, crcAt := p.crcAt.map shift }) })

/-! The chain observer (R499 to R501). -/

/-- The OBS of tick `k` (R499). -/
def State.obsOf (s : State) (k : Nat) : ObsFrame :=
  let ch := s.fld R.CHN_CFG F.CHN_CFG_OBS_CH
  let e := s.encAt ch
  { tick := k, x := e.x, v := e.v, a := e.a, st := e.st.code, idx := s.myIdx
    flags := (if e.speedValid then 1 else 0) + (if e.reversed then 2 else 0) + (if e.hold then 4 else 0) + (if e.emit then 8 else 0)
    limit := e.coastAt + coastLen (s.getN (R.ENC_COAST_LEN ch)) }

/-- The payload of an OBS (R499). -/
def ObsFrame.bytes (o : ObsFrame) : List Nat :=
  leBytes 8 o.tick ++ leBytes 10 o.x.toNat ++ leBytes 4 (uns 32 o.v) ++ leBytes 4 (uns 32 o.a) ++
    [o.st % 8 + o.flags % 16 * 8, o.idx] ++ leBytes 8 (o.limit.toNat / 65536)

/-- An OBS read from its payload (R499). -/
def obsParse (p : List Nat) : ObsFrame :=
  { tick := leAt p 0 8, x := BitVec.ofNat 80 (leAt p 8 10), v := sgn 32 (leAt p 18 4), a := sgn 32 (leAt p 22 4)
    st := leAt p 26 1 % 8, flags := leAt p 26 1 / 8 % 16, idx := leAt p 27 1, limit := BitVec.ofNat 80 (leAt p 28 8 * 65536) }

/-- An OBS held for the copy (R500): one of a tick whose turn has passed is late. -/
def State.holdObs (s : State) (o : ObsFrame) : State :=
  if !s.joined then s
  else if (o.tick + 2) * 8000 < s.now ∨ o.tick + 2 ≤ s.tick.getD 0 then s.bump R.CHN_OBS_CNT F.CHN_OBS_CNT_LATE
  else { s with copy := { s.copy with held := s.copy.held.filter (·.tick ≠ o.tick) ++ [o] } }

/-- The OBS of tick `k` sent by the master, which keeps it for its own copy too (R499, R500). -/
def State.obsSend (s : State) (k : Nat) : State :=
  if !s.joined ∨ !s.isMaster then s
  else (s.originate 0x20 0xFF (s.obsOf k).bytes).holdObs (s.obsOf k)

/-- The copy advanced by one tick on its prediction (R64). -/
def Copy.predict (c : Copy) : Copy :=
  { c with x := c.x + BitVec.ofInt 80 (predMove c.v c.a), v := satS 32 (c.v + asr c.a 12) }

/-- The OBS taken and advanced by two ticks (R500). -/
def Copy.adopt (c : Copy) (o : ObsFrame) : Copy :=
  Copy.predict (Copy.predict { c with
    x := o.x, v := o.v, a := o.a, flags := o.flags, emit := decide (bits o.flags 3 1 = 1), idx := some o.idx })

/-- Whether position `a` lies beyond `b`, modulo 2^64 steps. -/
def past (a b : BitVec 80) : Bool := decide ((a - b).toInt > 0)

/-- The copy enters FAULT (R501): `limit` is the coast limit it stood beyond. -/
def State.copyFault (s : State) (limit : Option (BitVec 80)) : State :=
  let s := { s with copy := { s.copy with st := .fault, emit := false, good := 0 } }
  (s.raiseCount 0x3003 4 (cEnc 4 2)).trackStop 4 limit

/-- The copy's tick `k` (R500, R501). -/
def State.copyTick (s : State) (k : Nat) : State :=
  if !s.joined then s
  else
    let c := s.copy
    let fr := c.held.find? (fun o => o.tick + 2 = k)
    let c := { c with held := c.held.filter (fun o => decide (k < o.tick + 2)) }
    let own := fun (o : ObsFrame) => o.x + coastLen (s.getN R.CHN_COAST_LEN)
    let low := fun (a b : BitVec 80) => if past a b then b else a
    let put := fun (c : Copy) => { s with copy := c }
    match c.st, fr with
    | .off, some o =>
      if s.chain.master = some o.idx then put { c.adopt o with st := .fault, emit := false, good := 0 } else put c
    | .off, none => put c
    | .track, none =>
      let lim := c.limit
      (put { Copy.predict { c with a := 0 } with st := .coast, limit := lim }).bump R.CHN_OBS_CNT F.CHN_OBS_CNT_MISS
    | .track, some o =>
      if c.idx ≠ some o.idx then (put { c with idx := some o.idx }).copyFault none
      else if o.st = 4 then put { c.adopt o with limit := own o }
      else if o.st = 5 then put { c.adopt o with st := .coast, limit := low (own o) o.limit }
      else (put (c.adopt o)).copyFault none
    | .coast, none =>
      let c := Copy.predict { c with a := 0 }
      if past c.x c.limit then (put c).copyFault (some c.limit) else put c
    | .coast, some o =>
      if c.idx ≠ some o.idx then (put { c with idx := some o.idx }).copyFault (some c.limit)
      else if o.st = 4 then put { c.adopt o with st := .track, limit := own o }
      else if o.st = 5 then
        let c := { c.adopt o with limit := low c.limit o.limit }
        if past c.x c.limit then (put c).copyFault (some c.limit) else put c
      else (put (c.adopt o)).copyFault (some c.limit)
    | _, some o =>
      let good := if o.st ≠ 4 then 0 else if c.idx = some o.idx then c.good + 1 else 1
      let c := { c.adopt o with good := good, limit := own o }
      put (if good ≥ 16 then { c with st := .track, good := 0 } else { c with emit := false })
    | _, none => put { Copy.predict { c with a := 0 } with good := 0 }

/-! Reception (R489, R490, R576). -/

/-- A frame of a known type that the port accepted, used by the device (R490 to R503). -/
def State.useFrame (s : State) (pt : Nat) (f : MFrame) : State :=
  let p := f.payload
  match f.ty with
  | 0x01 =>
    if (s.mport pt).up then s
    else if leAt p 1 1 = s.fld R.CHN_CFG F.CHN_CFG_COUNT then
      let s := s.modMport pt (fun q => { q with good := q.good + 1 })
      if (s.mport pt).good ≥ 3 then s.linkUp_ pt else s
    else s.modMport pt (fun q => { q with good := 0 })
  | 0x02 => s.takeAnnounce pt f.src f.hops p
  | 0x10 => s.syncAnswer pt f
  | 0x11 => s.syncAnswered pt f
  | 0x20 => s.holdObs (obsParse p)
  | 0x30 =>
    if s.bit R.CHN_CFG F.CHN_CFG_EVT_FWD then
      s.post { code := leAt p 0 2, obj := leAt p 2 4, at_ := leAt p 6 8, injected := decide (leAt p 14 2 % 2 = 1), remote := some f.src }
    else s
  | 0x40 => s.modChain (fun c => { c with inbox := c.inbox ++ [(f.src, p.take 48)] })
  | _ => s

/-- A relayed frame (R490): forwarded and used as its SRC, HOPS, OSEQ and DST allow. -/
def State.relayFrame (s : State) (pt : Nat) (f : MFrame) : State :=
  let ty := f.ty
  let last := (s.chain.rxSeq.find? (fun x => x.1 = f.src ∧ x.2.1 = ty)).map (·.2.2)
  let newer := match last with
    | some o => decide (1 ≤ (f.oseq + 65536 - o) % 65536) && decide ((f.oseq + 65536 - o) % 65536 < 32768)
    | none => true
  if f.src = s.myIdx then
    if ty = 0x02 ∧ s.joined ∧ leAt f.payload 0 8 ≠ s.chain.ident then s.conflict else s
  else if !newer then (if ty = 0x02 ∧ last = some f.oseq then s.noteHops pt f.src f.hops else s)
  else
    let s := s.modChain (fun c => { c with
      rxSeq := (f.src, ty, f.oseq) :: c.rxSeq.filter (fun x => !(x.1 = f.src ∧ x.2.1 = ty)) })
    let s := if f.hops < 15 ∧ f.dst ≠ s.myIdx ∧ (s.mport (1 - pt)).up then
        s.mbocaTx (1 - pt) ty f.src (f.hops + 1) f.dst f.oseq f.payload
      else s
    if f.dst = 0xFF ∨ f.dst = s.myIdx then s.useFrame pt f else s

/-- A count of R489, left out where injection is its cause. -/
def State.chnCount (s : State) (a : Nat) (f : Fld) : State := if s.devTainted then s else s.bump a f

/-- The checks of R489 on a frame, then its use. -/
def State.checkFrame (s : State) (pt : Nat) (f : MFrame) : State :=
  if !frameGood f.bytes then
    let s := (s.chnCount (R.CHN_PCNT_ERR pt) F.CHN_PCNT_ERR_CRC).countUnless s.devTainted 11
    let again := match (s.mport pt).crcAt with
      | some t => decide (s.now < t + 2000000)
      | none => false
    let s := s.modMport pt (fun p => { p with good := 0 })
    if again then s else (s.modMport pt (fun p => { p with crcAt := some s.now })).raise 0x8001 pt
  else
    let ahead := match (s.mport pt).expect with
      | some e => (f.seq + 65536 - e) % 65536
      | none => 0
    if ahead ≥ 32768 then s.chnCount (R.CHN_PCNT_DROP pt) F.CHN_PCNT_DROP_STALE
    else
      let s := if ahead = 0 then s else
        (s.chnCount (R.CHN_PCNT_ERR pt) F.CHN_PCNT_ERR_SEQ).raiseCount 0x8003 pt 12
      let s := s.modMport pt (fun p => { p with expect := some ((f.seq + 1) % 65536) })
      if !frameTypes.contains f.ty then s.chnCount (R.CHN_PCNT_DROP pt) F.CHN_PCNT_DROP_TYPE
      else
        let s := s.modMport pt (fun p => { p with lastRx := s.now })
        if f.ty ≠ 0x01 ∧ !(s.mport pt).up then s
        else if relayedTypes.contains f.ty then s.relayFrame pt f
        else s.useFrame pt f

/-- Frames postponed by an injected delay that are due (R576). -/
def State.mbocaDue (s : State) (pt : Nat) : State :=
  let due := (s.mport pt).due.filter (fun x => decide (x.1 ≤ s.now))
  let s := s.modMport pt (fun p => { p with due := p.due.filter (fun x => decide (s.now < x.1)) })
  due.foldl (fun s x => s.checkFrame pt x.2) s

/-- A frame received on a port (R485, R489, R539, R576): fault injection acts before the checks. -/
def State.mbocaRx (s : State) (pt : Nat) (f : MFrame) : State :=
  let s := s.mbocaDue pt
  if !s.ready ∨ !(s.mport pt).lock then s
  else
    let (act, s) := s.inject (3 + pt) 0 0 f.ty
    match act with
    | some .drop => s
    | some .reorder => s.modMport pt (fun p => { p with after := p.after ++ [f] })
    | some (.delay d) => s.modMport pt (fun p => { p with due := p.due ++ [(s.now + d, f)] })
    | other =>
      let f := match other with
        | some (.corrupt k) => { f with bytes := flipBit f.bytes k }
        | _ => f
      let s := s.checkFrame pt f
      let late := (s.mport pt).after
      late.foldl (fun s x => s.checkFrame pt x) (s.modMport pt (fun p => { p with after := [] }))

/-! Events across the chain (R502) and the event queue (R574). -/

/-- An event of this device sent to the chain (R502). -/
def State.forwardEvent (s : State) (e : Ev) : State :=
  let cls := e.code / 0x1000
  if !s.bit R.CHN_CFG F.CHN_CFG_EVT_FWD ∨ e.remote.isSome ∨ !([1, 2, 3, 4, 8].contains cls) then s
  else s.originate 0x30 0xFF (leBytes 2 e.code ++ leBytes 4 e.obj ++ leBytes 8 e.at_ ++ leBytes 2 (if e.injected then 1 else 0))

/-- The message of an event's class (R436), at most one per 100 µs; none before READY (R538). -/
def State.eventIrq (s : State) (e : Ev) : State :=
  let j := e.code / 0x1000
  let soon : Bool := match cellGet (fun _ => none) s.evLast j with
    | some t => decide (s.now < t + 200000)
    | none => false
  if !s.ready ∨ soon ∨ !s.bit (R.MBX_EVT_VEC j) F.MBX_EVT_VEC_EN then s
  else { s.msixSend (s.fld (R.MBX_EVT_VEC j) F.MBX_EVT_VEC_VEC) with evLast := cellPut (fun _ => none) s.evLast j [some s.now] }

/-- An event placed among those after it: events of one device time stand in ascending code (R574). -/
def evInsert (e : Ev) : List Ev → List Ev
  | [] => [e]
  | x :: l => if x.at_ = e.at_ ∧ x.code < e.code then x :: evInsert e l else e :: x :: l

/-- An event moved into the queue, or lost where it is full (R474, R574, R583). -/
def State.enterEvent (s : State) (e : Ev) : State :=
  if s.evQueue.length ≥ 4096 then
    { s.bump R.BLT_EVQ F.BLT_EVQ_LOST with evLost := min 0xFFFFFFFF (s.evLost + 1) }
  else ({ s with evQueue := s.evQueue ++ [e] }.eventIrq e).forwardEvent e

/-- Quill firmware moves the events of the hardware FIFO into the queue (R574). -/
def State.eventMove (s : State) : State :=
  let l := s.evFifo.foldr evInsert []
  l.foldl (fun s e => s.enterEvent e) { s with evFifo := [] }

end Sys2Proof.Machine
end

