-- ==== Sys2Proof/Machine/Power.lean ====
section
/-! DEFINITION. Supplies, the PARK sequence, the Idle sub-states and mode changes (R37 to R42, R454, R509 to R534). -/
namespace Sys2Proof.Machine

/-- The power record changed. -/
def State.modPw (s : State) (f : Power → Power) : State := { s with pw := f s.pw }

/-! Supplies (R509 to R515). -/

/-- The supply readings in mV (R534): PWR_VOLT, and the lowest VBKP while its window is open. -/
def State.readSupply (s : State) (vm vb : Nat) : State :=
  let s := s.setN R.PWR_VOLT (min 0xFFFF vm + min 0xFFFF vb * 65536)
  if s.pw.vminOpen then s.setFld R.PWR_VMIN F.PWR_VMIN_VMIN (min vb (s.fld R.PWR_VMIN F.PWR_VMIN_VMIN)) else s

/-- The window of PWR_VMIN closes, and its value enters its histogram (R534, R569). -/
def State.vminClose (s : State) : State :=
  if !s.pw.vminOpen then s
  else
    let v := s.fld R.PWR_VMIN F.PWR_VMIN_VMIN
    (s.sample 37 (clampI 0 31 (((v : Int) - 8000) / 250)).toNat).modPw (fun p => { p with vminOpen := false })

/-- A trigger of PARK (R516, R519): the first one counts, and none starts a second sequence. -/
def State.parkTrigger (s : State) (src : Nat) : State :=
  if (s.mode = .park ∧ !s.pw.exiting) ∨ s.pw.parkPend then s
  else (s.setFld R.PWR_STAT F.PWR_STAT_PARK_SRC src).modPw (fun p => { p with parkPend := true, parkTrig := s.now })

/-- VMAIN has met the condition of R512, with VMAIN and VBKP as read (R512, R513). -/
def State.switchover (s : State) (vm vb : Nat) : State :=
  if !s.pw.good then s
  else
    let s := s.readSupply vm vb
    if s.bit R.PWR_STAT F.PWR_STAT_SUPPLY then s
    else if vb < 9000 then (s.modPw (fun p => { p with mainLost := true })).parkTrigger 1
    else
      let s := (s.setBit R.PWR_STAT F.PWR_STAT_SUPPLY true).setBit R.PWR_STAT F.PWR_STAT_SWITCHED true
      let s := (s.bump R.PWR_CNT F.PWR_CNT_SWITCHOVERS).raiseCount 0x4001 0 2
      let s := s.setFld R.PWR_VMIN F.PWR_VMIN_VMIN (min 0xFFFF vb)
      (s.modPw (fun p => { p with mainLost := true, retAt := none, vminOpen := true })).parkTrigger 1

/-- VMAIN rises above 10.8 V on VBKP, or falls to it (R514). -/
def State.retQual (s : State) (up : Bool) : State :=
  if !s.bit R.PWR_STAT F.PWR_STAT_SUPPLY then s
  else (s.setBit R.PWR_STAT F.PWR_STAT_RET_QUAL up).modPw (fun p => { p with retAt := if up then some s.now else none })

/-- VMAIN has returned (R514); without a switch-over the condition of R513 has passed. -/
def State.returnMain (s : State) : State :=
  if s.bit R.PWR_STAT F.PWR_STAT_SUPPLY then
    let s := match s.pw.retAt with
      | some t => s.advTo (t + 100000000)
      | none => s
    let s := (s.setBit R.PWR_STAT F.PWR_STAT_SUPPLY false).setBit R.PWR_STAT F.PWR_STAT_RET_QUAL false
    let s := (s.setBit R.PWR_STAT F.PWR_STAT_RETURNED true).bump R.PWR_CNT F.PWR_CNT_RETURNS
    ((s.raiseCount 0x4003 0 3).vminClose).modPw (fun p => { p with mainLost := false, retAt := none })
  else s.modPw (fun p => { p with mainLost := false })

/-- VBKP crosses BKP_MIN (R511): BKP_OK follows the reading. -/
def State.bkpChange (s : State) (vb : Nat) : State := s.readSupply (s.fld R.PWR_VOLT F.PWR_VOLT_VMAIN) vb

/-- PARK_N held asserted, or released (R515, R519). -/
def State.parkN (s : State) (on : Bool) : State :=
  if !s.pw.good then s
  else
    let s := s.setBit R.PWR_STAT F.PWR_STAT_PARK_N on
    if on then s.parkTrigger 2 else s

/-! The PARK sequence (R451, R516 to R520). -/

/-- Every waiting command completes with FAULT on entry to PARK (R451), but for a detach; the request for PARK itself
succeeds. -/
def State.failWaits (s : State) : State :=
  s.forEach (List.range 32) (fun s q =>
    match s.waitOf q with
    | some (.detach _ _ _) => s
    | some (.mode .park) => s.finishCur q stOk [5, s.pw.sub]
    | some _ => s.finishCur q stFault
    | none => s)

/-- No strip in progress answers a queue pair any more, and no burn goes on to a further word (R451). -/
def State.detachWork (s : State) : State :=
  let s := s.forEach (List.range 8) (fun s p => s.modPlane p (fun x => { x with
    strips := x.strips.map (fun (y : Strip) => { y with qp := none }) }))
  { s with otp := { s.otp with burn := s.otp.burn.map (fun (b : Burn) => { b with rest := [] }) } }

/-- The final write-backs of step 4 (R335). -/
def State.finalWrites (s : State) : State :=
  s.forEach ((List.range s.part.ports).filter (fun n => (s.portAt n).st = .attached ∨ (s.portAt n).st = .offline))
    (fun s n => s.wbTrigger n true)

/-- Steps 4 to 6 as far as they are complete (R516, R523). -/
def State.parkGo (s : State) : State :=
  let step := fun (s : State) => s.fld R.PWR_STAT F.PWR_STAT_PARK_STEP
  let put := fun (s : State) (k : Nat) => s.setFld R.PWR_STAT F.PWR_STAT_PARK_STEP k
  if s.mode ≠ .park then s
  else
    let s := if step s = 3 ∧ s.ports.all (fun p => p.2.wb.isNone) then
        let s := put s 4
        if s.fld R.SYS_BOOT_STAT F.SYS_BOOT_STAT_STAGE < 3 then s else s.bltFlush
      else s
    if step s = 4 ∧ !s.bit R.BLT_CTL F.BLT_CTL_FLUSH then { put s 6 with dramSr := true } else s

/-- Step 3, and the start of step 4 (R126, R237, R284, R335, R516). -/
def State.parkStep3 (s : State) : State :=
  ((s.loopsOff.setFld R.PWR_STAT F.PWR_STAT_PARK_STEP 3).finalWrites.parkGo).setBit R.PWR_STAT F.PWR_STAT_CAP_REQ true

/-- The sequence begins at T_P (R516): step 1. From BOOT every step with nothing to act on completes at once (R41). -/
def State.parkStart (s : State) : State :=
  if !s.pw.parkPend then s
  else
    let tp := (s.pw.parkTrig / 8000 + 1) * 8000
    let boot := s.mode = .boot
    let s := (s.advTo tp).enterMode .park stFault
    let s := ((s.detachWork.failWaits.closeDiag).diagRegion false).setParkMarker true
    let s := s.withholdBeyond (tp + 24000)
    let s := (s.setFld R.PWR_STAT F.PWR_STAT_PARK_STEP 1).setBit R.PWR_STAT F.PWR_STAT_PARK_DONE false
    let s := if boot then s.parkStep3 else s
    { s with mode := .park, pw := { s.pw with
        parkPend := false, parkAt := some tp, wake := none, wakeAt := none, entering := none, exiting := false } }

/-- The PARK horizon (R126, R516). -/
def State.parkHorizon (s : State) : State :=
  match s.pw.parkAt with
  | some tp =>
    if s.mode = .park ∧ s.fld R.PWR_STAT F.PWR_STAT_PARK_STEP = 1 then (s.advTo (tp + 24000)).parkStep3 else s
  | none => s

/-- Every head port OFF (R257). -/
def State.portsOff (s : State) : State := s.forEach (List.range s.part.ports) State.portOff

/-- Step 7 (R516, R518, R520, R534): the parked state. -/
def State.parkDone (s : State) : State :=
  match s.pw.parkAt with
  | some tp =>
    if s.mode ≠ .park ∨ s.fld R.PWR_STAT F.PWR_STAT_PARK_STEP ≠ 6 then s
    else
      let s := s.setFld R.PWR_PARK_TIME F.PWR_PARK_TIME_TIME (min 0xFFFFF ((s.now - tp) / 2000))
      let s := (s.vminClose.setParkMarker false).portsOff
      let s := ((s.linkDown 0 false).linkDown 1 false).memRet 0x1F
      ((s.raiseCount 0x4002 0 4).setBit R.PWR_STAT F.PWR_STAT_PARK_DONE true).setFld R.PWR_STAT F.PWR_STAT_PARK_STEP 7
  | none => s

/-! Ports and banks on a wake. -/

/-- Every port with a TYPE enabled, but one a calibration item holds OFF (R536, R544). -/
def State.enablePorts (s : State) : State :=
  s.forEach ((List.range s.part.ports).filter (fun n => s.portType n ≠ 0 ∧ !s.calHolds n)) (fun s n =>
    (s.setBit (R.HP_CFG n) F.HP_CFG_EN true).portEnable n)

/-- Every bank accessible again (R397, R398). -/
def State.banksAwake (s : State) : State :=
  (s.forEach [0, 1, 2, 3] (fun s j => s.bankAwake j)).lInitDone

/-- PARK is left (R37, R518): CONFIG is reported. -/
def State.parkExit (s : State) : State :=
  if !s.pw.exiting then s
  else
    let s := ({ s with dramSr := false }.memRet 0).banksAwake
    let s := s.forEach (List.range 8) (fun s p => s.jobAbort p false)
    let s := (s.enablePorts.linksStart).setFld R.SYS_BOOT_STAT F.SYS_BOOT_STAT_STAGE 7
    let s := (s.setBit R.PWR_STAT F.PWR_STAT_CAP_REQ false).setBit R.PWR_STAT F.PWR_STAT_PARK_DONE false
    (s.enterMode .config).modPw (fun p => { p with exiting := false, parkAt := none })

/-! IDLE (R37, R521 to R528). -/

/-- IDLE entered, in Idle-Hot until a sub-state is selected (R37, R545). -/
def State.enterIdle (s : State) : State :=
  let from_ := s.mode
  ((s.trimsDue true).enterMode .idle).modPw (fun p => { p with
    from_ := from_, sub := 0, selected := false, entering := none, wake := none, wakeAt := none, reattach := [] })

/-- The idle delay passes in CONFIG without a command, or in PRINT without an open job (R37): there it counts from the entry to PRINT or
the end of the last job, whatever commands arrive. That a time before the entry does not count is a DESIGN CHOICE, log entry 85. -/
def State.idleDelay (s : State) : State :=
  let open_ := s.planes.any (fun p => p.2.job.isSome)
  if s.pw.idleDelay = 0 ∨ s.pw.parkPend ∨ !(s.mode = .config ∨ (s.mode = .print ∧ !open_)) then s
  else (s.advTo ((if s.mode = .print then s.pw.noJobAt else s.pw.idleSince) + s.pw.idleDelay * 2000000)).enterIdle

/-- Service work is complete (R37, R40). -/
def State.serviceComplete (s : State) : State :=
  if s.mode ≠ .service ∨ s.pw.idleDelay = 0 ∨ s.ports.any (fun p => p.2.spit.isSome || p.2.sweep.isSome) then s
  else (s.advTo (s.pw.serviceAt + s.pw.idleDelay * 2000000)).enterMode .config

/-- exit(s) of R521 in µs. -/
def exitTime : Nat → Nat
  | 0 => 0
  | 1 => 80000
  | 2 => 250000
  | _ => 1500000

/-- x, v and SPEED_VALID as channel `k` publishes them, the chain observer copy being channel 4 (R500, R525). -/
def State.published (s : State) (k : Nat) : BitVec 80 × Int × Bool :=
  if k = 4 then (s.copy.x, s.copy.v, decide (s.copy.flags % 2 = 1))
  else ((s.encAt k).x, (s.encAt k).v, decide (k < 4) && (s.encAt k).speedValid)

/-- The device time at which row `i` of plane `p` reaches its start (R525); the rounding is free. -/
def State.jobStartAt (s : State) (p i : Nat) : Option Nat :=
  let (x, v, valid) := s.published (s.rowSrc i)
  if !valid ∨ v ≤ 0 then none
  else
    let d := (BitVec.ofInt 80 ((s.startPos p : Int) * 65536 + s.org i) - x).toInt
    some ((s.now : Int) + max 0 (divFree 8 (d * 500) v)).toNat

/-- The known events (R525): when, and their code of NEXT_SRC. `service` is the next action of Quill's own schedule. -/
def State.knownEvents (s : State) (service : Option Nat) : List (Nat × Nat) :=
  let starts := (List.range 8).flatMap (fun p =>
    if ((s.planeAt p).job.map (·.st)) = some .opened then (s.planeRows p).filterMap (s.jobStartAt p) else [])
  starts.map (fun t => (t, 1)) ++ service.toList.map (fun t => (t, 2)) ++ s.pw.hint.toList.map (fun t => (t, 3))

/-- The earliest of them. -/
def firstEvent : List (Nat × Nat) → Option (Nat × Nat)
  | [] => none
  | e :: l => match firstEvent l with
    | some x => if x.1 < e.1 then some x else some e
    | none => some e

/-- The sub-state R526 selects. -/
def State.selectSub (s : State) (ev : Option Nat) : Nat :=
  match ev with
  | none => min s.pw.defSub s.pw.maxSub
  | some t => (List.range s.pw.maxSub).foldl (fun a j =>
      if 12 * exitTime (j + 1) * 2000 ≤ 10 * (t - s.now) then j + 1 else a) 0

/-- The setpoint of every enabled loop (R471). -/
def State.spAll (s : State) (sp : Nat) : State :=
  s.forEach (List.range s.part.ports) (fun s n => s.forEach ((s.loopZones n).filter (s.loopEn n)) (fun s z => s.loopSp n z sp))

/-- Entry to Idle-Retain or Idle-Deep goes on once every write-back is over (R522). -/
def State.idleGo (s : State) : State :=
  match s.pw.entering with
  | some k =>
    if s.mode ≠ .idle ∨ !s.ports.all (fun p => p.2.wb.isNone) then s
    else
      let s := { s.loopsOff.portsOff with dramSr := true }.memRet 0x1F
      let s := if k = 3 then (s.linkDown 0 false).linkDown 1 false else s
      s.modPw (fun p => { p with sub := k, entering := none, selected := true })
  | none => s

/-- A deeper sub-state entered (R521, R522, R527). -/
def State.enterSub (s : State) (k : Nat) : State :=
  if k = 0 then s.modPw (fun p => { p with sub := 0, selected := true })
  else if k = 1 then { s.spAll s.pw.spWarm with dramSr := true }.modPw (fun p => { p with sub := 1, selected := true })
  else
    let here := (List.range s.part.ports).filter (fun n => (s.portAt n).st = .attached ∨ (s.portAt n).st = .offline)
    (s.finalWrites.modPw (fun p => { p with
      entering := some k, reattach := if 2 ≤ p.sub then p.reattach else here })).idleGo

/-- A wake of the present sub-state begins towards `target` (R527); one that leads to IDLE ends in sub-state `sub`. -/
def State.startWake (s : State) (target : Mode) (sub : Nat) : State :=
  let was := s.pw.sub
  let s := s.modPw (fun p => { p with
    wake := some target, wakeSub := sub, wakeAt := some (s.now + exitTime was * 2000) })
  let s := if 2 ≤ was then ((s.memRet 0).calWake).enablePorts else s
  if was = 3 then s.linksStart else s

/-- The sub-state selected (R525 to R528, R533). -/
def State.idleSelect (s : State) (service : Option Nat) : State :=
  if s.mode ≠ .idle then s
  else
    let ev := firstEvent (s.knownEvents service)
    let k := s.selectSub (ev.map (·.1))
    let s := s.setFld R.PWR_IDLE_STAT F.PWR_IDLE_STAT_TARGET k
    let s := s.setFld R.PWR_IDLE_STAT F.PWR_IDLE_STAT_NEXT_SRC ((ev.map (·.2)).getD 0)
    let s := s.set64 R.PWR_NEXT_LO R.PWR_NEXT_HI ((ev.map (·.1)).getD (2 ^ 64 - 1))
    let s := s.modPw (fun p => { p with event := ev.map (·.1) })
    if s.pw.wake.isSome ∨ s.pw.wakeAt.isSome ∨ s.pw.entering.isSome ∨ s.pw.logic then s
    else if s.pw.sub < k then s.enterSub k
    else if k < s.pw.sub then s.startWake .idle k
    else s.modPw (fun p => { p with selected := true })

/-- A wake begins: at a request, or at T_wake of the next known event (R527, R528). -/
def State.idleWakeStart (s : State) : State :=
  if s.mode ≠ .idle ∨ s.pw.entering.isSome ∨ s.pw.logic ∨ s.pw.wakeAt.isSome then s
  else match s.pw.wake with
    | some m => s.startWake m 0
    | none =>
      match s.pw.event with
      | some t => (s.advTo (t - 12 * exitTime s.pw.sub * 2000 / 10)).startWake s.pw.from_ 0
      | none => s

/-- The exit latency ends (R37, R522, R527): heads found again are attached again, and the new mode is reported. -/
def State.idleWakeDone (s : State) : State :=
  match s.pw.wakeAt, s.pw.wake with
  | some t, some target =>
    let was := s.pw.sub
    let s := { s.advTo t with dramSr := false }
    let s := if 2 ≤ was then s.banksAwake else s
    let s := s.spAll s.pw.spPrint
    let found := fun (n : Nat) => (s.portAt n).st = .present && (s.portAt n).recOk && (s.portAt n).attachedId = some (s.portAt n).recId
    let s := s.forEach s.pw.reattach (fun s n =>
      if found n then s.attachHead n (s.portAt n).args true else s.modPort n (fun p => { p with attachedId := none }))
    let sub := s.pw.wakeSub
    let s := s.modPw (fun p => { p with sub := 0, wake := none, wakeAt := none, reattach := [] })
    if target = .idle then s.enterSub sub else (s.enterMode target).modPw (fun p => { p with selected := false })
  | _, _ => s

/-! SET_MODE (R37, R42, R454). -/

/-- Some plane is defined, with ruling set on every head row of it, and the channels of its rows in use are ACQUIRED (R37, R94). -/
def State.mayPrint (s : State) : Bool :=
  let acquired := fun (src : Nat) =>
    let st := if src = 4 then s.copy.st else (s.encAt src).st
    decide (src ≤ 4) && (st = .track || st = .coast || st = .fault)
  (List.range 8).any (fun p => (s.planeAt p).defined &&
    (s.portsOf p).all (fun n => [2 * n, 2 * n + 1].all (fun i =>
      s.pitch i ≠ 0 && (!s.rowEn i || acquired (s.rowSrc i)))))

/-- Quill firmware writes the failing words of Banks N, L and D before it accepts SET_MODE to PRINT (R394): from its own copy where it
keeps one, which leaves the word as it was written, otherwise with 0. Where it keeps one the spec does not say: Config.keepsCopy. -/
def State.repairWords (s : State) : State :=
  s.forEach (s.bankBad.filter (fun w => (bankAt (w * 8) 8).any [1, 2, 4].contains)) (fun s w =>
    s.quillWrite (w * 8) (if Config.keepsCopy w then s.chipRead (w * 8) 8 else List.replicate 8 0))

/-- Whether a mode change is under way (R42): a PARK to begin or to complete, one being left, or a wake that leads out of IDLE. -/
def State.changing (s : State) : Bool :=
  s.pw.parkPend || s.pw.exiting || (s.mode = .park && !s.bit R.PWR_STAT F.PWR_STAT_PARK_DONE) ||
    (match s.pw.wake with
      | some t => decide (t ≠ .idle)
      | none => false)

/-- The result of SET_MODE (R454). -/
def State.modeResult (s : State) : List Nat := [s.mode.code, if s.mode = .idle then s.pw.sub else 0]

/-- SET_MODE (R454): a change that completes at once, one that is waited for, or a refusal. -/
def State.setMode (s : State) (q : Nat) (c : Cmd) : State :=
  let m := c.arg 0 1
  let no := fun (st : Nat) => s.finish q c st
  let go := fun (s : State) (t : Mode) => (s.enterMode t).finish q c stOk [t.code, 0]
  let left := s.setBit R.SYS_MODE F.SYS_MODE_FAULT_STOP false
  let open_ := s.planes.any (fun p => p.2.job.isSome)
  if s.mode = .boot then no stNotReady
  else if s.limited ∧ (m = 2 ∨ m = 3) then no stDenied
  else if c.args.length < 1 ∨ m = 0 ∨ 5 < m then no stBadArg
  else if m = 5 ∧ s.mode = .park ∧ !s.pw.exiting then s.finish q c stOk s.modeResult
  else if s.changing then no stBusy
  else if m = 5 then (s.parkTrigger 3).hold q c (.mode .park)
  else match s.mode, m with
    | .park, 1 =>
      if s.bit R.PWR_STAT F.PWR_STAT_SUPPLY ∨ s.pw.mainLost ∨ s.bit R.PWR_STAT F.PWR_STAT_PARK_N then no stDenied
      else (s.modPw (fun p => { p with exiting := true })).hold q c (.mode .config)
    | .config, 2 => if s.mayPrint then (left.repairWords.enterMode .print).hold q c (.mode .print) else no stDenied
    | .config, 3 => go left .service
    | .config, 4 => left.enterIdle.hold q c (.mode .idle)
    | .print, 1 => go s .config
    | .print, 4 => if open_ then no stDenied else s.enterIdle.hold q c (.mode .idle)
    | .service, 1 => go s .config
    | .idle, _ =>
      if m = s.pw.from_.code then (s.modPw (fun p => { p with wake := some p.from_ })).hold q c (.mode s.pw.from_) else no stDenied
    | _, _ => no stDenied

/-! Waits (R451, R452). -/

/-- The command that waits on queue pair `q` completes where what it waits for has come. -/
def State.settleWait (s : State) (q : Nat) : State :=
  let ok := fun (s : State) (r : List Nat) => s.finishCur q stOk r
  match s.waitOf q with
  | some (.mode t) =>
    if t = .park then s
    else if s.mode = t then
      if (t = .print ∧ !s.admitOpen) ∨ (t = .idle ∧ (!s.pw.selected ∨ s.pw.entering.isSome)) then s else ok s s.modeResult
    else if s.pw.parkPend ∨ s.pw.exiting ∨ s.pw.wake = some t then s
    else s.finishCur q stFault
  | some (.attach n false false) => ok s (s.attachResult n)
  | some (.detach n false false) => (s.detachDone n).finishCur q stOk
  | some (.detach n false true) => if (s.portAt n).plane.isNone then ok s [] else s
  | some (.commits [] l) => ok s (leBytes 8 l)
  | some (.trim _ _ (some st)) => s.finishCur q st
  | some (.spit [] k) => ok s (leBytes 4 k)
  | some (.sweep [] m c) => ok s (leBytes 4 m ++ leBytes 4 c)
  | some .join => if s.syncSt = 2 then ok s [] else s
  | _ => s

/-- What goes on once a command's effect is in place: the PARK sequence, the entry to an Idle sub-state, and the commands
that wait. -/
def State.goOn (s : State) : State := (s.parkGo.idleGo).forEach (List.range 32) State.settleWait

end Sys2Proof.Machine
end

