-- ==== Sys2Proof/Machine/Boot.lean ====
section
/-! DEFINITION. Start-up and resets: the start-up timeline (R535 to R539, R597), the verification of firmware images (R540 to
R543), FW_UPDATE (R481), and what each reset leaves (R7, R420, R509, R602, R608). -/
namespace Sys2Proof.Machine

def State.stage (s : State) : Nat := s.fld R.SYS_BOOT_STAT F.SYS_BOOT_STAT_STAGE
def State.setStage (s : State) (k : Nat) : State := s.setFld R.SYS_BOOT_STAT F.SYS_BOOT_STAT_STAGE k

/-- VMAIN good (R597): the timeline begins. -/
def State.vmainGood (s : State) : State :=
  if s.pw.good then s else (s.modPw (fun p => { p with good := true, goodAt := s.now })).setStage 0

/-- The controller die leaves reset (stage 1). -/
def State.ctlRelease (s : State) : State := if s.pw.good ∧ s.stage = 0 then s.setStage 1 else s

/-- The OTP read (stage 2). -/
def State.otpStage (s : State) (reads : List OtpRead) : State := if s.stage = 1 then s.otpStart reads else s

/-- The digests checked (stage 3). -/
def State.digestStage (s : State) : State := if s.stage = 2 then s.otpCheckDigests else s

/-! Firmware images (R540 to R543). -/

/-- Whether the firmware key hash is provisioned (R543). -/
def State.fwKeySet (s : State) : Bool := !(List.range 8).all (fun j => otpVal s.otp.startVals (136 + j) = 0 ∧ !s.otp.startUnread.contains (136 + j))

/-- Whether an image verifies (R541, R543): its header of 256 bytes, and its body. -/
def State.imageOk (s : State) (head body : List Nat) : Bool :=
  let key := (head.drop 0x18).take 65
  let hash : Bool := if !s.fwKeySet then true
    else match s.otp.field 136 140 4 with
      | some l => sha256 key = l.flatMap (leBytes 8)
      | none => false
  decide (head.take 4 = [0x53, 0x58, 0x51, 0x46]) && decide (leAt head 8 4 ≤ 0x800000 - 256) && hash &&
    ecdsaVerify key ((head.drop 0xC0).take 64) (head.take 0xC0 ++ body)

/-- Where slot `k` lies in the flash (R540). -/
def slotBase (k : Nat) : Nat := k * 0x800000

/-- The header of slot `k`. -/
def State.slotHead (s : State) (k : Nat) : List Nat := memRead s.flash (slotBase k) 256

/-- The body of slot `k`. -/
def State.slotBody (s : State) (k : Nat) : List Nat :=
  memRead s.flash (slotBase k + 256) (min (0x800000 - 256) (leAt (s.slotHead k) 8 4))

/-- An image refused (R542). -/
def State.fwFail (s : State) (k : Nat) : State := s.raiseCount 0x6003 k 9

/-- Slot `k` starts (R541 to R543): its first bytes are copied into Bank Q. -/
def State.fwStart (s : State) (k : Nat) (fallback : Bool) : State :=
  let dev := !s.fwKeySet
  let n := min 0x200000 (leAt (s.slotHead k) 0x10 4)
  let s := s.chipWrite bankQ ((s.slotBody k).take n)
  let s := (s.setFld R.SYS_BOOT_STAT F.SYS_BOOT_STAT_SLOT k).setBit R.SYS_BOOT_STAT F.SYS_BOOT_STAT_FALLBACK fallback
  let s := s.setBit R.SYS_BOOT_STAT F.SYS_BOOT_STAT_DEV_BOOT dev
  (if dev then s.setBit R.OTP_STAT F.OTP_STAT_KEY_REL false else s).setStage 5

/-- DRAM is trained and the boot ROM verifies the slots (R535 stage 4, R541 to R543). -/
def State.fwVerify (s : State) : State :=
  if s.stage < 3 ∨ 5 ≤ s.stage ∨ s.bit R.SYS_BOOT_STAT F.SYS_BOOT_STAT_NO_FW then s
  else
    let s := s.setStage 4
    let a := if leAt (s.slotHead 0) 0x0C 4 < leAt (s.slotHead 1) 0x0C 4 then 1 else 0
    let good := fun (k : Nat) => s.imageOk (s.slotHead k) (s.slotBody k)
    if good a then s.fwStart a false
    else if good (1 - a) then (s.fwFail a).fwStart (1 - a) true
    else ((s.fwFail a).fwFail (1 - a)).setBit R.SYS_BOOT_STAT F.SYS_BOOT_STAT_NO_FW true

/-- What FW_UPDATE writes to the slot that is not running (R481, R542): the image that the read of SRC brought, with SEQ one
above the running slot's, where its length and its signature pass. -/
def State.fwImage (s : State) (c : Cmd) (data : Option (List Nat)) : Option (List Nat) :=
  let len := c.arg 8 4
  let run := s.fld R.SYS_BOOT_STAT F.SYS_BOOT_STAT_SLOT
  match data with
  | none => none
  | some d =>
    let d := (d ++ List.replicate len 0).take len
    let head := d.take 256
    if 0x800000 < len ∨ len < 256 ∨ !s.imageOk head ((d.drop 256).take (leAt head 8 4)) then none
    else some (d.take 0x0C ++ leBytes 4 (leAt (s.slotHead run) 0x0C 4 + 1) ++ d.drop 0x10)

/-- FW_UPDATE (R481, R542) but for the flash, whose new contents are State.flashAfter's. -/
def State.fwUpdate (s : State) (q : Nat) (c : Cmd) (data : Option (List Nat)) : State :=
  if 0x800000 < c.arg 8 4 then s.finish q c stBadArg
  else if data.isNone then s.finish q c stFault
  else match s.fwImage c data with
    | none => (s.fwFail 2).finish q c stFault
    | some img => s.finish q c stOk (leBytes 4 (leAt img 4 4))

/-- The flash after an FW_UPDATE at the front of queue pair `q` (R481): the slot that is not running is written, where the
command is taken, allowed (R452) and its image passes. -/
def State.flashAfter (s : State) (q : Nat) (data : Option (List Nat)) : List Host.Cell :=
  match s.headCmd q with
  | none => s.flash
  | some c =>
    if c.op = 0xF0 ∧ c.pre = none ∧ s.ready ∧ !s.outranked q c ∧ [Mode.config, Mode.idle].contains s.cmdMode ∧ 12 ≤ c.args.length then
      match s.fwImage c data with
      | none => s.flash
      | some img => memWrite s.flash (slotBase (1 - s.fld R.SYS_BOOT_STAT F.SYS_BOOT_STAT_SLOT)) img
    else s.flash

/-! READY and the end of BOOT (R253, R389, R435, R520, R535 to R538). -/

/-- The gains that Quill firmware writes for a bandwidth (R65). -/
def State.putGains (s : State) (k bw : Nat) : State :=
  ((s.setN (R.ENC_OBS_G1 k) (obsGain 0 bw)).setN (R.ENC_OBS_G2 k) (obsGain 1 bw)).setN
    (R.ENC_OBS_G3 k) (obsGain 2 bw)

/-- The board configuration of channel `k` (R537). -/
def State.boardEnc (s : State) (k : Nat) : State :=
  match s.otp.field (232 + k) (236 + k) 1 with
  | some [w] =>
    let cfg := bits w 32 20
    if cfg % 4 = 0 ∨ cfg % 4 = 3 then s
    else
      let bw := bits cfg 8 12
      let s := s.setN (R.ENC_ABS_CFG k) w
      let s := (s.setN (R.ENC_CFG k) (cfg &&& 0xFFF7F)).absClock k
      (s.putGains k (if 50 ≤ bw ∧ bw ≤ 2000 then bw else 400)).encAcq k
  | _ => s

/-- READY (R535): it waits for the firmware and for start-up calibration. -/
def State.readyNow (s : State) : State :=
  if s.stage ≠ 5 ∨ !s.bit R.CAL_STAT F.CAL_STAT_DONE then s
  else
    let parked := decide (s.mode = .park) || s.pw.parkPend
    let s := s.setBit R.SYS_MODE F.SYS_MODE_READY true
    let s := s.setFld R.SYS_BOOT_STAT F.SYS_BOOT_STAT_READY_MS (min 0xFFFF ((s.now - s.pw.goodAt) / 2000000))
    let map := s.get64 R.OTP_PORTMAP_LO R.OTP_PORTMAP_HI
    let s := s.forEach (List.range s.part.ports) (fun s n => s.setFld (R.HP_CFG n) F.HP_CFG_TYPE (bits map (2 * n) 2))
    let s := s.bootRegions.forEach [0, 1, 2, 3] State.boardEnc
    let s := if parked then s else s.enablePorts
    let s := if s.mode = .park ∧ s.bit R.PWR_STAT F.PWR_STAT_PARK_DONE then s else s.linksStart
    let s := s.serveLatched
    let s := if s.mode ≠ .park ∧ s.parkMarker then
        ((s.setBit R.PWR_STAT F.PWR_STAT_PARK_INT true).count 5).setParkMarker false
      else s
    s.setStage 6

/-- Whether port `n` no longer holds the end of BOOT (R536). -/
def State.enumerated (s : State) (n : Nat) : Bool :=
  let p := s.portAt n
  s.portType n = 0 || p.st = .off || p.failed ||
    p.st = .present || p.st = .attached || p.st = .offline || p.st = .lost

/-- BOOT ends (R37, R536). -/
def State.enumDone (s : State) : State :=
  if s.stage ≠ 6 ∨ s.mode ≠ .boot ∨ s.pw.parkPend then s
  else
    let s := if (List.range s.part.ports).all s.enumerated then s else s.advTo (s.pw.goodAt + 800000000)
    (s.setStage 7).enterMode .config

/-! Resets. -/

/-- Every pulse in progress is cut, and the outputs take their reset states (R279, R602, R605). -/
def State.cutPulses (s : State) : State :=
  s.forEach (List.range s.part.ports) State.cutPins

/-- A device reset (R7): what the reset leaves is the flash, the OTP array and Bank B; `good` says that VMAIN stays good. -/
def State.deviceReset (s : State) (good : Bool) : State :=
  let s := s.cutPulses
  { State.reset with
    part := s.part, flash := s.flash, otp := { raw := s.otp.raw }, chip := s.chip.filter (fun c => bankB ≤ c.1)
    hostOut := s.hostOut, out := s.out, freeCtr := s.freeCtr, pending := s.pending, perst := s.perst, scan := s.scan
    bankBad := s.bankBad.filter (fun w => bankB ≤ w * 8)
    pw := { good := good } }

/-- A Function Level Reset, a conventional PCIe reset or a link-down (R420); `down` says that the link went down. -/
def State.flr (s : State) (down : Bool) : State :=
  let s := s.qpResetAll
  let s := s.forEach (List.range 32) (fun s q => s.setFld (R.MBX_QP_CFG q) F.MBX_QP_CFG_MODE 0)
  let s := (s.z1Put 0 (List.replicate 16 0)).setN R.MBX_Z1_CTL 0
  let s := s.forEach (List.range 64) (fun s v =>
    (s.forEach [0, 1, 2] (fun s w => s.setN (R.MBX_MSIX_TABLE v w) 0)).setN (R.MBX_MSIX_CTRL v) 1)
  let s := s.forEach [0, 1] (fun s j => s.setN (R.MBX_MSIX_PBA j) 0)
  let s := ((s.closeDiag).diagRegion false).setN R.SYS_HOST_AP 0
  { s with vecs := [], linkUp := s.linkUp && !down, pcie := { gen := s.pcie.gen, width := s.pcie.width } }

/-- A size that configuration space can hold (R413): a power of two from 128 up to `top`. -/
def sizeOf_ (top v : Nat) : Nat := min top (2 ^ max 7 (Nat.log2 v))

/-- The configuration as the function holds it (R413, R414): the sizes it supports, and the bases of BARs of 64 MiB, 16 MiB and
4 GiB. -/
def pcieHeld (c : PcieCfg) : PcieCfg :=
  { c with gen := clampN 1 4 c.gen, width := 2 ^ min 3 (Nat.log2 (max 1 c.width))
           mps := sizeOf_ 512 c.mps, mrrs := sizeOf_ 4096 c.mrrs
           bar0 := c.bar0 % 2 ^ 64 / 2 ^ 26 * 2 ^ 26, bar2 := c.bar2 % 2 ^ 64 / 2 ^ 24 * 2 ^ 24
           bar4 := c.bar4 % 2 ^ 64 / 2 ^ 32 * 2 ^ 32 }

/-- PCIe link training completes (R413, R535), after PERST# was released. -/
def State.pcieUp (s : State) : State := if s.perst ∧ 1 ≤ s.stage then { s with linkUp := true } else s

/-- The link settles at another rate or width, or host software writes the configuration space (R413, R414): a message that Function
Mask held back is sent once it is cleared (R436). The table has no row for such a write, so it comes with a control tick: DESIGN CHOICE,
log entry 77. -/
def State.pcieSet (s : State) (cfg : Option PcieCfg) : State :=
  match cfg with
  | some c => if s.linkUp then { s with pcie := pcieHeld c }.forEach (List.range 64) State.msixUnmasked else s
  | none => s

/-- The Device ID (R413). -/
def Part.deviceId : Part → Nat
  | .sxv3200 => 0x3200
  | .sxv1600 => 0x1600
  | .sxv0800 => 0x0800

/-- The class code (R413). -/
def pcieClass : Nat := 0x118000

/-- The word of BAR `j`, 0, 2 or 4, as configuration space reads it (R414): a 64-bit memory BAR, prefetchable for BAR4. -/
def State.barWord (s : State) (j : Nat) : Nat :=
  match j with
  | 0 => s.pcie.bar0 % 2 ^ 32 + 4
  | 2 => s.pcie.bar2 % 2 ^ 32 + 4
  | _ => s.pcie.bar4 % 2 ^ 32 + 12

end Sys2Proof.Machine
end

