-- ==== Sys2Proof/Machine/RegRead.lean ====
section
/-! DEFINITION. What a read of a BAR0 register returns (R15, R46, R415), the latching reads (R52, R99, R137, R184, R211, R294,
R379, R534, R584), and the reads that clear (R50, R374). A field that mirrors a unit's state is computed from that state. -/
namespace Sys2Proof.Machine

/-- A field put into a word. -/
def put (v : Nat) (f : Fld) (x : Nat) : Nat := setBits v f.lo f.w x

/-- A flag put into a word. -/
def putB (v : Nat) (f : Fld) (b : Bool) : Nat := put v f (if b then 1 else 0)

/-- A number with bit `j` set where `f j`, for `j < k`. -/
def maskOf (k : Nat) (f : Nat → Bool) : Nat := ofLe ((List.range 8).map (fun b =>
  ((List.range 8).map (fun j => if decide (b * 8 + j < k) && f (b * 8 + j) then 2 ^ j else 0)).foldl (· + ·) 0))

/-- SYS (R47 to R52). -/
def State.viewSys (s : State) (b v : Nat) : Nat :=
  if b = R.SYS_ID then s.part.ports + 0xB0 * 2 ^ 8 + 8 * 2 ^ 16
  else if b = R.SYS_MODE then
    let v := put v F.SYS_MODE_MODE s.mode.code
    let v := put v F.SYS_MODE_IDLE_SUB (if s.mode = .idle then s.pw.sub else 0)
    putB (putB v F.SYS_MODE_ADMIT s.admitOpen) F.SYS_MODE_PERMIT s.permit
  else if b = R.SYS_ADMIT_STOP then s.admitStop
  else if b = R.SYS_DT_LO then s.now % 2 ^ 32
  else if b = R.SYS_DT_HI then s.now / 2 ^ 32
  else v

/-- PWR (R531, R533). The charger is taken to deliver current while it is enabled, R510 lets it, and VBKP is below
CHG_V. -/
def State.viewPwr (s : State) (b v : Nat) : Nat :=
  let vm := s.fld R.PWR_VOLT F.PWR_VOLT_VMAIN
  let vb := s.fld R.PWR_VOLT F.PWR_VOLT_VBKP
  if b = R.PWR_STAT then
    let v := putB v F.PWR_STAT_BKP_OK (decide (vb ≥ 100 * s.fld R.PWR_BKP_CFG F.PWR_BKP_CFG_BKP_MIN))
    let v := putB v F.PWR_STAT_CHG (s.bit R.PWR_BKP_CFG F.PWR_BKP_CFG_CHG_EN && !s.bit R.PWR_STAT F.PWR_STAT_SUPPLY &&
      decide (vm ≥ 10800) && decide (vb < 100 * s.fld R.PWR_BKP_CFG F.PWR_BKP_CFG_CHG_V))
    putB v F.PWR_STAT_PARK (s.mode = .park)
  else if b = R.PWR_IDLE_STAT then
    putB (put v F.PWR_IDLE_STAT_SUB (if s.mode = .idle then s.pw.sub else 0)) F.PWR_IDLE_STAT_WAKING s.pw.wakeAt.isSome
  else v

/-- ENC (R94, R98). -/
def State.viewEnc (s : State) (b k v : Nat) : Nat :=
  let e := s.encAt k
  let hi := fun (x : BitVec 80) => x.toNat / 2 ^ 16
  if b = R.ENC_STAT 0 then
    let v := put v F.ENC_STAT_STATE e.st.code
    let v := putB v F.ENC_STAT_ACQUIRED (e.st = .track || e.st = .coast || e.st = .fault)
    let v := putB (putB v F.ENC_STAT_SPEED_VALID e.speedValid) F.ENC_STAT_REVERSED e.reversed
    putB (putB v F.ENC_STAT_HOLD e.hold) F.ENC_STAT_EMIT e.emit
  else if b = R.ENC_POS_LO 0 then hi e.x % 2 ^ 32
  else if b = R.ENC_POS_HI 0 then hi e.x / 2 ^ 32
  else if b = R.ENC_VEL 0 then (if e.speedValid then uns 32 e.v else 0)
  else if b = R.ENC_ACC 0 then uns 32 e.a
  else if b = R.ENC_RESID 0 then uns 32 e.e
  else if b = R.ENC_AMP 0 then e.amp % 2 ^ 16
  else if b = R.ENC_HWM_LO 0 then hi e.hwm % 2 ^ 32
  else if b = R.ENC_HWM_HI 0 then hi e.hwm / 2 ^ 32
  else v

/-- DCT rows (R135, R136). -/
def State.viewRow (s : State) (b i v : Nat) : Nat :=
  let r := s.rowAt i
  let qts := match r.queue with
    | e :: _ => e.ts
    | [] => 2 ^ 64 - 1
  if b = R.DCT_ROW_STAT 0 then
    let v := putB (putB v F.DCT_ROW_STAT_RUN r.run) F.DCT_ROW_STAT_SHARE_OK r.share
    put (putB v F.DCT_ROW_STAT_OVS r.ovs) F.DCT_ROW_STAT_QDEPTH r.queue.length
  else if b = R.DCT_ROW_FLIGHT 0 then r.flight
  else if b = R.DCT_ROW_PERIOD 0 then r.period
  else if b = R.DCT_ROW_LINE_LO 0 then r.g % 2 ^ 32
  else if b = R.DCT_ROW_LINE_HI 0 then r.g / 2 ^ 32 % 2 ^ 16
  else if b = R.DCT_ROW_GPOS_LO 0 then r.gpos / 2 ^ 32 % 2 ^ 32
  else if b = R.DCT_ROW_GPOS_HI 0 then r.gpos / 2 ^ 64 % 2 ^ 32
  else if b = R.DCT_ROW_QTS_LO 0 then qts % 2 ^ 32
  else if b = R.DCT_ROW_QTS_HI 0 then qts / 2 ^ 32 % 2 ^ 32
  else v

/-- DCT, the registers of the block and of the planes (R129, R133, R252). -/
def State.viewDct (s : State) (b i v : Nat) : Nat :=
  let rows := List.range s.nRows
  if b = R.DCT_STAT then
    putB (putB v F.DCT_STAT_OVS_ANY (rows.any (fun i => (s.rowAt i).ovs))) F.DCT_STAT_SLIP_ANY
      (rows.any (fun i => s.bit (R.DCT_ROW_STAT i) F.DCT_ROW_STAT_SLIP))
  else if b = R.DCT_PLANE_CTL 0 then
    putB v F.DCT_PLANE_CTL_RUN (s.planeRun i)
  else if b = R.DCT_THERM_OK then maskOf s.part.ports s.thermOk
  else s.viewRow b i v

/-- SCR (R178 to R183). -/
def State.viewScr (s : State) (b i v : Nat) : Nat :=
  let p := s.planeAt i
  if b = R.SCR_STAT then
    put (put v F.SCR_STAT_ACTIVE (maskOf 8 (fun p => (s.planeAt p).job.isSome))) F.SCR_STAT_STALLED
      (maskOf 8 (fun p => s.bit (R.SCR_PLANE_STAT p) F.SCR_PLANE_STAT_STALL))
  else if b = R.SCR_ARR_SIZE 0 then putB v F.SCR_ARR_SIZE_VALID (s.slotValid i)
  else if b = R.SCR_PLANE_STAT 0 then
    let v := put v F.SCR_PLANE_STAT_FIFO_LVL p.strips.length
    let v := putB (putB v F.SCR_PLANE_STAT_WAIT_DATA (s.waitData i)) F.SCR_PLANE_STAT_WAIT_RING (s.waitRing i)
    putB v F.SCR_PLANE_STAT_PAUSED (s.paused i)
  else if b = R.SCR_PLANE_AVAIL_LO 0 then p.avail % 2 ^ 32
  else if b = R.SCR_PLANE_AVAIL_HI 0 then p.avail / 2 ^ 32 % 2 ^ 16
  else if b = R.SCR_PLANE_DONE_LO 0 then p.done % 2 ^ 32
  else if b = R.SCR_PLANE_DONE_HI 0 then p.done / 2 ^ 32 % 2 ^ 16
  else if b = R.SCR_PLANE_RETIRED_LO 0 then s.retiredNow i % 2 ^ 32
  else if b = R.SCR_PLANE_RETIRED_HI 0 then s.retiredNow i / 2 ^ 32 % 2 ^ 16
  else if b = R.SCR_PLANE_CHG_LO 0 then p.chg % 2 ^ 32
  else if b = R.SCR_PLANE_CHG_HI 0 then p.chg / 2 ^ 32 % 2 ^ 16
  else if b = R.SCR_PLANE_BADLN_LO 0 then p.badln % 2 ^ 32
  else if b = R.SCR_PLANE_BADLN_HI 0 then p.badln / 2 ^ 32 % 2 ^ 16
  else v

/-- Whether a row has computed lines whose WARM_OK is 0 (R245). -/
def Row.squashed (r : Row) : Bool := r.staged.any (fun x => !x.warmOk)

/-- NZP (R210, R245, R247). -/
def State.viewNzp (s : State) (b i v : Nat) : Nat :=
  if b = R.NZP_PLANE_CTL 0 then
    let p := s.planeAt i
    let v := putB (putB v F.NZP_PLANE_CTL_PENDING p.pending) F.NZP_PLANE_CTL_OLD_LIVE p.oldLive
    putB (put v F.NZP_PLANE_CTL_GEN p.gen) F.NZP_PLANE_CTL_UNSERVED (s.unserved i)
  else if b = R.NZP_TH_STAT 0 then
    let v := putB (putB v F.NZP_TH_STAT_SQ_A (s.rowAt (2 * i)).squashed) F.NZP_TH_STAT_SQ_B (s.rowAt (2 * i + 1)).squashed
    putB v F.NZP_TH_STAT_IW_ACTIVE ([2 * i, 2 * i + 1].any (fun j => (s.rowAt j).queue.any (fun e => e.kind = .idleWarm)))
  else if b = R.NZP_TH_PSPEC_A 0 then (s.rowAt (2 * i)).pspec
  else if b = R.NZP_TH_PSPEC_B 0 then (s.rowAt (2 * i + 1)).pspec
  else v

/-- HP (R287, R292 to R294). -/
def State.viewHp (s : State) (b i j v : Nat) : Nat :=
  if b = R.HP_STAT 0 then
    putB (put v F.HP_STAT_STATE (s.portAt i).st.code) F.HP_STAT_FIRE_EN (s.fireEn i)
  else if b = R.HP_EW_SUM 0 then ewSum (s.ewAt i s.now) / 1024
  else if b = R.HP_WDOG 0 then putB v F.HP_WDOG_OFFLINE (decide (s.trips i ≠ 0))
  else if b = R.HP_TEMP 0 0 then
    if s.portType i = 1 ∧ 4 ≤ j then 0xFFFF0000 else put v F.HP_TEMP_AGE (s.tempAge i j (s.tick.getD 0))
  else v

/-- DGV (R322, R323). -/
def State.viewDgv (s : State) (b i v : Nat) : Nat :=
  if b = R.DGV_SVC 0 then putB v F.DGV_SVC_BUSY ((s.portAt i).sweep.any (fun w => decide (w.notBefore ≤ s.tick.getD 0)))
  else if b = R.DGV_STAT 0 then
    put (putB v F.DGV_STAT_TRIM_PEND (s.portAt i).trimPend) F.DGV_STAT_RQ_LVL (s.portAt i).retryQ.length
  else v

/-- MBX (R440, R444, R445, R429). -/
def State.viewMbx (s : State) (b i j v : Nat) : Nat :=
  let q := s.qpAt i
  if b = R.MBX_STAT then
    let v := putB (putB v F.MBX_STAT_READY s.ready) F.MBX_STAT_LIMITED s.limited
    putB (putB v F.MBX_STAT_DIAG s.diag.isSome) F.MBX_STAT_Z1_ON (decide ((s.qpAt 0).st ≠ 0 ∧ (s.qpAt 0).mode = 3))
  else if b = R.MBX_QP_STAT 0 then
    let v := putB (put v F.MBX_QP_STAT_STATE q.st) F.MBX_QP_STAT_LATCHED (q.latchTail.isSome || q.latchHead.isSome)
    put (put v F.MBX_QP_STAT_SQ_LVL (if q.mode = 1 then q.sq.length else 0)) F.MBX_QP_STAT_CQ_LVL q.cq.length
  else if b = R.MBX_Z3_SQ_HEAD 0 then
    let on := q.mode = 2
    putB (put (put v F.MBX_Z3_SQ_HEAD_SQ_HEAD q.head) F.MBX_Z3_SQ_HEAD_CQ_TAIL q.ctail) F.MBX_Z3_SQ_HEAD_PHASE (on && q.phase)
  else if b = R.MBX_Z2_CQ 0 0 then leAt (q.cq.headD []) (4 * j) 4
  else v

/-- CAL (R545, R563, R565). -/
def State.viewCal (s : State) (b v : Nat) : Nat :=
  if b = R.CAL_STAT then putB v F.CAL_STAT_PEND (s.cal.due ≠ [])
  else if b = R.CAL_PORT_PEND then
    maskOf 32 (fun n => s.cal.due.any (fun t => decide (1 ≤ t.what ∧ t.what ≤ 3 ∧ t.unit = n)))
  else v

/-- BLT (R582 to R584). -/
def State.viewBlt (s : State) (b v : Nat) : Nat :=
  if b = R.BLT_STAT then putB (put v F.BLT_STAT_ACTIVE s.bltActive) F.BLT_STAT_OVF_ANY s.ovfAny
  else if b = R.BLT_EVQ then put v F.BLT_EVQ_LEVEL s.evQueue.length
  else if b = R.BLT_GEN_LO then s.bltGen % 2 ^ 32
  else if b = R.BLT_GEN_HI then s.bltGen / 2 ^ 32
  else v

/-- FIJ (R585). -/
def State.viewFij (s : State) (b v : Nat) : Nat :=
  if b = R.FIJ_STAT then
    putB v F.FIJ_STAT_GATE s.fijGate + maskOf 8 (fun j => s.bit (R.FIJ_SLOT_CFG j) F.FIJ_SLOT_CFG_ARM) * 2 ^ 8
  else v

/-- MEM (R399, R412): the columns in use by the repair fuses, from stage 2 on. Where the fuses stand in the FACTORY region the
spec does not say. -/
def State.viewMem (s : State) (b i v : Nat) : Nat :=
  if b = R.MEM_REPAIR 0 ∧ 2 ≤ s.fld R.SYS_BOOT_STAT F.SYS_BOOT_STAT_STAGE then
    put v F.MEM_REPAIR_COLS (Config.repairCols s.otp.raw i % 1024)
  else v

/-- What register `b` (its family's first offset) with indices `i` and `j` reads as; `v` is its stored word. -/
def State.view (s : State) (blk b i j v : Nat) : Nat :=
  match blk with
  | 0 => s.viewSys b v
  | 1 => s.viewPwr b v
  | 3 => s.viewCal b v
  | 4 => s.viewEnc b i v
  | 5 => s.viewDct b i v
  | 6 => s.viewScr b i v
  | 7 => s.viewNzp b i v
  | 8 | 9 => s.viewHp b i j v
  | 10 => s.viewDgv b i v
  | 12 => s.viewMem b i v
  | 13 => s.viewMbx b i j v
  | 14 => if b = R.CHN_STAT then put v F.CHN_STAT_CHAIN_ST s.copy.st.code else v
  | 15 => s.viewBlt b v
  | 16 => s.viewFij b v
  | _ => v

/-- The value BAR0 offset `off` has, latches aside: 0 for a reserved offset (R46) and for the ports the part lacks (R4). -/
def State.regValue (s : State) (off : Nat) : Nat :=
  match s.regOf off with
  | none => 0
  | some (r, i, j) => s.view (off / 0x100000) r.base i j (s.getN off) % 2 ^ 32

/-- The offset a value is latched for is read once from its latch (R52, R99). -/
def State.readWord (s : State) (off : Nat) : Nat × State :=
  match s.regOf off, s.latch.find? (·.1 = off) with
  | some _, some x => (x.2, { s with latch := s.latch.filter (·.1 ≠ off) })
  | _, _ => (s.regValue off, s)

/-- The registers a read of `off` latches (R52, R99, R137, R184, R211, R294, R379, R534, R584). -/
def companions (off : Nat) : List Nat :=
  match regFind off with
  | none => []
  | some (r, i, _) =>
    let b := r.base
    if b = R.SYS_DT_LO then [R.SYS_DT_HI]
    else if b = R.ENC_POS_LO 0 then
      [R.ENC_POS_HI i, R.ENC_VEL i, R.ENC_ACC i, R.ENC_RESID i, R.ENC_HWM_LO i, R.ENC_HWM_HI i]
    else if b = R.ENC_INDEX_LATCH_LO 0 then [R.ENC_INDEX_LATCH_HI i, R.ENC_INDEX_DT_LO i, R.ENC_INDEX_DT_HI i]
    else if b = R.DCT_ROW_LINE_LO 0 then
      [R.DCT_ROW_LINE_HI i, R.DCT_ROW_GPOS_LO i, R.DCT_ROW_GPOS_HI i, R.DCT_ROW_PERIOD i]
    else if b = R.DCT_ROW_QTS_LO 0 then [R.DCT_ROW_QTS_HI i]
    else if b = R.DCT_ROW_DLV_LO 0 then [R.DCT_ROW_DLV_HI i]
    else if b = R.SCR_PLANE_DONE_LO 0 then
      [R.SCR_PLANE_DONE_HI i, R.SCR_PLANE_RETIRED_LO i, R.SCR_PLANE_RETIRED_HI i, R.SCR_PLANE_AVAIL_LO i,
        R.SCR_PLANE_AVAIL_HI i]
    else if b = R.NZP_PLANE_EFF_LO 0 then [R.NZP_PLANE_EFF_HI i]
    else if b = R.HP_CNT_FRAMES_LO 0 then [R.HP_CNT_FRAMES_HI i]
    else if b = R.DMA_CH_PTR_LO 0 then [R.DMA_CH_PTR_HI i]
    else if b = R.DMA_CH_ERRADDR_LO 0 then [R.DMA_CH_ERRADDR_HI i]
    else if b = R.PWR_NEXT_LO then [R.PWR_NEXT_HI]
    else if b = R.BLT_GEN_LO then [R.BLT_GEN_HI]
    else []

/-- The fields of access code RC of the register at `off` (R15). -/
def State.rcMask (s : State) (off : Nat) : Nat :=
  match s.regOf off with
  | some (r, _, _) => r.rc.toNat
  | none => 0

/-- A read of BAR0 offset `off`: the word returned, the values it latches (R52), and its RC fields cleared (R15, R50, R374, R415). -/
def State.readReg (s : State) (off : Nat) : State :=
  let (v, s1) := s.readWord off
  let new := (companions off).map (fun o => (o, s.regValue o))
  let s1 := if s.rcMask off = 0 then s1 else s1.setN off (s.getN off - (s.getN off &&& s.rcMask off))
  ({ s1 with latch := (s1.latch.filter (fun (x : Nat × Nat) => !(companions off).contains x.1)) ++ new } : State).emit (.read v)

end Sys2Proof.Machine
end

