-- ==== Sys2Proof/Machine/RegWrite.lean ====
section
/-! DEFINITION. Writes of BAR0 registers (R15 to R17, R46, R415, R418, R419, R423): the access codes, and the registers whose
write does more than store a field. -/
namespace Sys2Proof.Machine

/-- A write by the access codes alone (R15): RW fields take the value, W1C bits written 1 clear. W1S bits are requests, which the
register's own case serves. -/
def State.plain (s : State) (r : RegSpec) (off v : Nat) : State :=
  s.set off (regWritten { r with w1s := 0 } (s.get off) (BitVec.ofNat 32 v))

/-- ENC_CFG written (R68, R89): the fields, then MODE 0 or ACQ. -/
def State.encCfgWrite (s : State) (r : RegSpec) (k v : Nat) : State :=
  let was := s.encMode k
  let s := (s.plain r (R.ENC_CFG k) v).absClock k
  let s := if was ≠ 0 ∧ s.encMode k = 0 then s.encOff k else s
  if bits v 20 1 = 1 then s.encAcq k else s

/-- DCT_LOOP_I written (R252): held to 0 to 0x3FF0_0000. -/
def State.loopIWrite (s : State) (n z v : Nat) : State :=
  s.setN (R.DCT_LOOP_I n z) (uns 32 (clampI 0 iMax (sgn 32 v)))

/-- ARM and HALT requested (R103, R133). -/
def State.planeAsk (s : State) (p v : Nat) : State :=
  let s := if bits v 0 1 = 1 then s.setBit (R.DCT_PLANE_CTL p) F.DCT_PLANE_CTL_ARM true else s
  if bits v 2 1 = 1 then s.setBit (R.DCT_PLANE_CTL p) F.DCT_PLANE_CTL_HALT true else s

/-- HP_CFG written (R253, R257, R286): TYPE only in OFF; EN enters DETECT or leaves for OFF. -/
def State.hpCfgWrite (s : State) (r : RegSpec) (n v : Nat) : State :=
  let v := if (s.portAt n).st = .off then v else setBits v 0 2 (s.fld (R.HP_CFG n) F.HP_CFG_TYPE)
  let was := s.bit (R.HP_CFG n) F.HP_CFG_EN
  let s := s.plain r (R.HP_CFG n) v
  let on := s.bit (R.HP_CFG n) F.HP_CFG_EN
  let s := if on then s.portEnable n else if was then s.portOff n else s
  if bits v 4 1 = 1 then s.hpRestart n else s

/-- MBX_QP_CFG written (R426, R443): MODE and NS in OFF, MODE 0 in any state. -/
def State.qpCfgWrite (s : State) (r : RegSpec) (q v : Nat) : State :=
  let old := s.getN (R.MBX_QP_CFG q)
  let off := (s.qpAt q).st = 0
  let v1 := if off then v else setBits v 0 3 old
  let s := s.plain r (R.MBX_QP_CFG q) v1
  if off then s.qpStart q (bits v 0 2) else if bits v 0 2 = 0 then s.qpModeOff q else s

/-- CHN_CFG written (R491, R495, R506): EVT_FWD at any time, the other fields only while EN is 0. -/
def State.chnCfgWrite (s : State) (r : RegSpec) (v : Nat) : State :=
  if s.joined then
    let s := s.setBit R.CHN_CFG F.CHN_CFG_EVT_FWD (bits v 1 1 = 1)
    if bits v 0 1 = 0 then s.chainLeave else s
  else
    let s := s.plain r R.CHN_CFG v
    let id := (s.otp.field 0 1 1).elim 0 (fun l => l.headD 0)
    if s.joined then s.chainJoin (if id = 0 then s.now else id) else s

/-- ARM of slot `j` (R575, R576, R580): counted, and its count of eligible frames starts anew. -/
def State.slotArm (s : State) (j : Nat) : State :=
  let s := (s.setBit (R.FIJ_SLOT_CFG j) F.FIJ_SLOT_CFG_ARM true).count 659
  s.modSlot j (fun x => { x with seen := 0, owed := false, raised := false })

/-- FIJ_SLOT_CFG written (R575, R586): ARM only while GATE is 1. -/
def State.slotCfgWrite (s : State) (r : RegSpec) (j v : Nat) : State :=
  let was := s.bit (R.FIJ_SLOT_CFG j) F.FIJ_SLOT_CFG_ARM
  let arm := bits v 0 1 = 1
  let s := s.plain r (R.FIJ_SLOT_CFG j) (if arm ∧ !was then setBits v 0 1 0 else v)
  if arm ∧ !was ∧ s.fijGate then s.slotArm j else s

/-- PWR_BKP_CFG written (R532): CHG_V and BKP_MIN are held to their ranges. -/
def State.bkpCfgWrite (s : State) (r : RegSpec) (v : Nat) : State :=
  let v := setBits v 8 8 (clampN 120 160 (bits v 8 8))
  s.plain r R.PWR_BKP_CFG (setBits v 16 8 (clampN 90 160 (bits v 16 8)))

/-- OTP_PROG_CTL written (R561). -/
def State.otpCtlWrite (s : State) (r : RegSpec) (v : Nat) : State :=
  let s := s.plain r R.OTP_PROG_CTL v
  if bits v 0 1 = 1 then s.otpProgGo else if bits v 1 1 = 1 then s.otpLockGo else s

/-- DMA_CH_CTL written (R343, R369, R376). -/
def State.dmaCtlWrite (s : State) (c v : Nat) : State :=
  let was := s.bit (R.DMA_CH_CTL c) F.DMA_CH_CTL_DISABLE
  let dis := decide (bits v 1 1 = 1)
  let s := if dis && !was then s.chDisable c else if was && !dis then s.chEnable c else s
  if bits v 0 1 = 1 then s.chStart c false else s

/-- MEM_BIST_CTL written (R410). -/
def State.bistCtlWrite (s : State) (r : RegSpec) (v : Nat) : State :=
  let s := s.plain r R.MEM_BIST_CTL v
  if bits v 9 1 = 1 then s.bistAbort else if bits v 8 1 = 1 then s.bistGo else s

/-- SCR_PLANE_CTL written (R153, R181). -/
def State.scrCtlWrite (s : State) (p v : Nat) : State :=
  let s := s.scrPause p (bits v 1 1 = 1)
  let s := if bits v 0 1 = 1 then s.stripCommit p else s
  if bits v 2 1 = 1 then s.scrReset p else s

/-- A write that changes a register of blocks 0 to 5. -/
def State.applyLow (s : State) (r : RegSpec) (off i j v : Nat) : State :=
  let b := r.base
  if b = R.PWR_BKP_CFG then s.bkpCfgWrite r v
  else if b = R.OTP_RD_ADDR then s.otpRead v
  else if b = R.OTP_PROG_CTL then s.otpCtlWrite r v
  else if b = R.CAL_CTL then
    let s := s.plain r off v
    if bits v 0 1 = 1 then s.calGo else s
  else if b = R.ENC_CFG 0 then s.encCfgWrite r i v
  else if b = R.ENC_ABS_CFG 0 then (s.plain r off v).absClock i
  else if b = R.DCT_PLANE_CTL 0 then s.planeAsk i v
  else if b = R.DCT_LOOP_CFG 0 0 then s.loopCfgWrite i j v
  else if b = R.DCT_LOOP_I 0 0 then s.loopIWrite i j v
  else if b = R.DCT_THERM_BLK then s.thermBlkClear v
  else s.plain r off v

/-- A write of a register that says which tables planes `ps` screen with: a change is a table change of each (R172). -/
def State.tableReg (s : State) (r : RegSpec) (off v : Nat) (f : Fld) (ps : List Nat) : State :=
  let t := s.plain r off v
  if t.fld off f = s.fld off f then t
  else t.forEach ps (fun s p => s.modPlane p (fun x => { x with chgDue := true }))

/-- The planes that read array slot `k` (R171). -/
def State.slotPlanes (s : State) (k : Nat) : List Nat := (List.range 8).filter (fun p => s.slotOf p = k && s.fmt p = 1)

/-- A write that changes a register of blocks 6 to 10. -/
def State.applyMid (s : State) (r : RegSpec) (off i j v : Nat) : State :=
  let b := r.base
  if b = R.SCR_PLANE_CTL 0 then s.scrCtlWrite i v
  else if b = R.SCR_PLANE_STAT 0 then
    let s := s.plain r off v
    if bits v F.SCR_PLANE_STAT_STALL.lo 1 = 1 then s.stallClear i else s
  else if b = R.SCR_PLANE_CFG 0 then s.tableReg r off v F.SCR_PLANE_CFG_ARRAY [i]
  else if b = R.SCR_PLANE_OFS 0 ∨ b = R.SCR_PLANE_TRC 0 then s.tableReg r off v ⟨0, 32⟩ [i]
  else if b = R.SCR_ARR_SIZE 0 ∨ b = R.SCR_ARR_BASE 0 then s.tableReg r off v ⟨0, 32⟩ (s.slotPlanes i)
  else if b = R.SCR_STRIP_PUSH 0 then s.stripPush i { count := bits v 0 24 }
  else if b = R.NZP_PLANE_CTL 0 then if bits v 0 1 = 1 then s.nzpCommit i else s
  else if b = R.HP_CFG 0 then s.hpCfgWrite r i v
  else if b = R.HP_STB_W 0 then s.stbWrite i v
  else if b = R.HP_STB_ENV 0 then s.envWrite i v
  else if b = R.HP_TRIM_W 0 0 then s.trimWrite i j v
  else if b = R.HP_TRIM_CTL 0 then
    let s := s.plain r off v
    if bits v 0 1 = 1 then s.trimGo i else s
  else if b = R.HP_WDOG 0 then
    let s := s.wdogClear i v
    if bits v 7 1 = 1 then
      let f := s.fresh
      f.2.selfTest i (decide (f.1 % 2 = 1))
    else s
  else if b = R.DGV_SWEEP 0 then if s.bit (R.DGV_CFG i) F.DGV_CFG_EN then s else s.plain r off v
  else if b = R.DGV_SVC 0 then
    let s := s.plain r off v
    if bits v 0 1 = 1 then s.svcGo i else s
  else s.plain r off v

/-- A write that changes a register of blocks 11 to 16. GO of MBX_Z1_CTL and the last word of a Z2 window are not served here:
each has a command of its own, which brings the fetch of IND arguments. -/
def State.applyHigh (s : State) (r : RegSpec) (off i j v : Nat) : State :=
  let b := r.base
  if b = R.DMA_CH_CFG 0 then if s.chState i = 0 ∨ s.chState i = 5 then s.plain r off v else s
  else if b = R.DMA_CH_CTL 0 then s.dmaCtlWrite i v
  else if b = R.DMA_DB_LIMIT 0 then s.chRing i v
  else if b = R.MEM_RET then s.memRet (v % 32)
  else if b = R.MEM_BIST_CTL then s.bistCtlWrite r v
  else if b = R.MBX_Z1_WIN 0 then if s.bit R.MBX_Z1_CTL F.MBX_Z1_CTL_GO then s.denyWrite off else s.plain r off v
  else if b = R.MBX_QP_CFG 0 then s.qpCfgWrite r i v
  else if b = R.MBX_Z2_SQ 0 0 then if j < 15 then s.z2Word i j v else s
  else if b = R.MBX_Z2_CTL 0 then if bits v 0 1 = 1 then s.z2Pop i else s
  else if b = R.MBX_Z3_SQ_TAIL 0 then s.z3Tail i (v % 4096)
  else if b = R.MBX_Z3_CQ_HEAD 0 then s.z3Head i (v % 4096)
  else if b = R.MBX_MSIX_CTRL 0 then (s.plain r off v).msixUnmasked i
  else if b = R.CHN_CFG then s.chnCfgWrite r v
  else if b = R.BLT_CTL then if bits v 0 1 = 1 then s.bltFlush else s
  else if b = R.FIJ_SLOT_CFG 0 then s.slotCfgWrite r i v
  else s.plain r off v

/-- The effect of a permitted write on the register it names (R46: none on a reserved offset). -/
def State.applyWrite (s : State) (off v : Nat) : State :=
  match s.regOf off with
  | none => s
  | some (r, i, j) =>
    if off / 0x100000 ≤ 5 then s.applyLow r off i j v
    else if off / 0x100000 ≤ 10 then s.applyMid r off i j v
    else s.applyHigh r off i j v

/-- Whether source `k` of the rows is in TRACK (R68, R501): channel `k`, or the chain copy for 4. -/
def State.srcTracks (s : State) (k : Nat) : Bool := if k = 4 then s.copy.st = .track else (s.encAt k).st = .track

/-- The causes of SYS_ADMIT_STOP that Quill firmware may clear now (R31, R85, R495): an overrun after a whole tick
within the work window, TRACK once every channel in use is in TRACK, SYNC once the device is LOCKED again. -/
def State.clearable (s : State) : Nat :=
  (if s.goodTick ∧ ¬s.overDue then 1 else 0) +
  (if (List.range 5).all (fun k => !s.srcUsed k || s.srcTracks k) then 2 else 0) +
  (if s.syncSt = 2 then 4 else 0)

/-- What master `m` writes to `off`: Quill firmware clears a cause that stops admission only when it may (R31, R32). -/
def State.quillValue (s : State) (m : Master) (off v : Nat) : Nat :=
  if m = .quill ∧ off = R.SYS_ADMIT_STOP then v % 8 &&& s.clearable else v

/-- A refused doorbell counts in DMA_GSTAT as well (R345). -/
def State.doorbellDeny (s : State) (off : Nat) : State :=
  if 0x0B20000 ≤ off ∧ off < 0x0B20400 then s.bump R.DMA_GSTAT F.DMA_GSTAT_DB_DENY else s

/-- What Quill firmware does before its write of `v` to `off`: where it clears STALL of a plane, it rewrites the failing table
(R173). -/
def State.quillFirst (s : State) (m : Master) (off v : Nat) : State :=
  if m ≠ .quill ∨ bits v F.SCR_PLANE_STAT_STALL.lo 1 = 0 then s
  else match (List.range 8).find? (fun p => off = R.SCR_PLANE_STAT p) with
    | some p => s.stallRepair p
    | none => s

/-- A write of `v` to BAR0 offset `off` by master `m`; `full` tells whether its byte enables cover the word (R415). -/
def State.writeReg (s : State) (m : Master) (off v : Nat) (full : Bool) : State :=
  if !s.mayWrite m off then (s.doorbellDeny off).denyWrite off
  else if !full then
    match m with
    | .host => s.denyWrite off
    | .quill => s
  else (s.quillFirst m off v).applyWrite off (s.quillValue m off v)

end Sys2Proof.Machine
end

