-- ==== Sys2Proof/Machine/Commands.lean ====
section
/-! DEFINITION. The Zielo commands of the device, of ruling, masks, trims and service, of power, and of the records, the OTP,
the diagnostics and the chain (R453, R455, R458, R464 to R468, R470 to R480). -/
namespace Sys2Proof.Machine

/-- Whether a head is attached on port `n` of the part (R457). -/
def State.headOn (s : State) (n : Nat) : Bool := s.hasPort n && ((s.portAt n).st = .attached || (s.portAt n).st = .offline)

/-- The ports a mask names. -/
def portsIn (mask : Nat) : List Nat := (List.range 32).filter (fun n => bits mask n 1 = 1)

/-- A mask names only ports of the part (R4). -/
def State.maskOk (s : State) (mask : Nat) : Bool := decide (mask < 2 ^ s.part.ports)

/-! Device (R453, R455). -/

/-- GET_INFO (R453). -/
def State.getInfo (s : State) (q : Nat) (c : Cmd) : State :=
  let part := match s.part with
    | .sxv3200 => 0x3200
    | .sxv1600 => 0x1600
    | .sxv0800 => 0x0800
  let ver := leAt (s.slotHead (s.fld R.SYS_BOOT_STAT F.SYS_BOOT_STAT_SLOT)) 4 4
  let id := (s.otp.field 0 1 1).elim 0 (fun l => l.headD 0)
  s.finish q c stOk (leBytes 2 part ++ [0xB0, s.part.ports, s.part.dramGib, 8, 32, 64] ++ leBytes 4 ver ++
    leBytes 2 Config.vendorId ++ [7, 0] ++ leBytes 8 id)

/-- The port flags of GET_STATUS (R455). -/
def State.portFlags (s : State) (n : Nat) : Nat :=
  let p := s.portAt n
  let b := fun (x : Bool) (k : Nat) => if x then 2 ^ k else 0
  b p.barred 0 + b p.untrusted 1 + b (decide (p.recN 0xE0 5 = usageMax)) 2 + b p.wbFail 3 + b (p.st = .lost) 4 +
    b (p.st = .present && !p.recOk) 5 + b (p.st = .offline) 6

/-- The result of GET_STATUS (R455). -/
def State.statusOf (s : State) (obj i : Nat) : List Nat :=
  match obj with
  | 0 => leBytes 4 (s.regValue R.SYS_MODE) ++ leBytes 4 s.admitStop ++
      leBytes 4 (maskOf s.part.ports (fun n => (s.portAt n).st = .attached)) ++
      leBytes 4 (maskOf s.part.ports s.ableToPrint) ++
      leBytes 4 (maskOf s.part.ports (fun n => decide (s.portFlags n ≠ 0))) ++ leBytes 4 s.evQueue.length
  | 1 =>
    let p := s.planeAt i
    let st := match p.job.map (·.st) with
      | none => 0
      | some .opened => 1
      | some .running => 2
    let fl := (if (p.job.map (·.stored)).getD false then 1 else 0) + (if (p.job.bind (·.closed)).isSome then 2 else 0) +
      (if s.unserved i then 4 else 0)
    let no := match p.job with
      | some j => if j.stored then j.no else 0xFF
      | none => 0xFF
    [st, fl, no, 0] ++ leBytes 6 p.done ++ leBytes 6 (s.retiredNow i) ++ leBytes 6 p.avail ++
      leBytes 2 (maskOf 16 (fun k => s.stored.any (·.no = k)))
  | _ =>
    let p := s.portAt i
    [p.st.code, s.portFlags i, s.portType i, 0] ++ leBytes 5 (p.recN 0xE0 5) ++ [0, 0, 0] ++ leBytes 4 (min 0xFFFFFFFF p.d) ++
      leBytes 8 (p.recN 4 8)

/-- GET_STATUS (R455). -/
def State.getStatus (s : State) (q : Nat) (c : Cmd) : State :=
  let obj := c.arg 0 1
  let i := c.arg 1 1
  let len := c.arg 16 4
  if 2 < obj ∨ (obj = 1 ∧ 7 < i) ∨ (obj = 2 ∧ (!s.hasPort i ∨ (len ≠ 0 ∧ len < 256))) then s.finish q c stBadArg
  else
    let res := s.statusOf obj i
    let s := if obj = 2 ∧ 256 ≤ len ∧ (s.portAt i).record ≠ [] then
        s.hostWrite (c.arg 8 8) (((s.portAt i).record ++ List.replicate 256 0).take 256)
      else s
    s.finish q c stOk res

/-! Ruling (R56, R104, R203, R458). -/

/-- RULING_SET OP 1 (R56, R65, R458). -/
def State.rulingEnc (s : State) (q : Nat) (c : Cmd) : State :=
  let k := c.arg 1 1
  let f := c.arg 4 1
  let bw := c.arg 6 2
  if c.args.length < 38 ∨ 3 < k ∨ 3 < c.arg 2 1 ∨ 3 < c.arg 3 1 ∨ 15 < f ∨ bw < 50 ∨ 2000 < bw ∨ 2 ^ 17 ≤ c.arg 24 4 then
    s.finish q c stBadArg
  else
    let cfg := R.ENC_CFG k
    let same := c.arg 2 1 = s.fld cfg F.ENC_CFG_MODE ∧ c.arg 3 1 = s.fld cfg F.ENC_CFG_ABS ∧
      bits f 1 1 = s.fld cfg F.ENC_CFG_DIR ∧ absClkWord (c.arg 3 1) (c.arg 8 4) = s.getN (R.ENC_ABS_CFG k)
    if s.mode ≠ .config ∧ s.mode ≠ .idle ∧ ¬ same then s.finish q c stDenied
    else
      let s := (s.setN (R.ENC_ABS_CFG k) (c.arg 8 4)).applyWrite (R.ENC_ABS_CHK k) (c.arg 12 4)
      let s := (s.applyWrite (R.ENC_ABS_OFS k) (c.arg 16 4)).applyWrite (R.ENC_IDX_SPACING k) (c.arg 20 4)
      let s := (s.applyWrite (R.ENC_IDX_CFG k) (c.arg 24 4)).applyWrite (R.ENC_FE k) (c.arg 28 4)
      let s := (s.applyWrite (R.ENC_COAST_LEN k) (c.arg 32 4)).applyWrite (R.ENC_HWM_CFG k) (c.arg 36 2)
      let v := c.arg 2 1 + c.arg 3 1 * 4 + bits f 0 1 * 16 + bits f 1 1 * 32 + bits f 2 1 * 64 + bw * 256 + bits f 3 1 * 2 ^ 20
      ((s.putGains k bw).applyWrite cfg v).finish q c stOk

/-- RULING_SET OP 2 (R104, R203, R341, R458). -/
def State.rulingHead (s : State) (q : Nat) (c : Cmd) : State :=
  let n := c.arg 1 1
  let pa := c.arg 8 8
  let pb := c.arg 16 8
  let far := (sgn 64 (c.arg 32 8) - sgn 64 (c.arg 24 8)).natAbs * 65536
  if c.args.length < 44 ∨ !s.headOn n ∨ 4 < c.arg 2 1 ∨ 4 < c.arg 3 1 ∨ ((c.arg 2 1 = 4 ∨ c.arg 3 1 = 4) ∧ !s.joined) ∨
      3 < c.arg 4 1 ∨ pa = 0 ∨ pb = 0 ∨ 4000 * min pa pb < far then s.finish q c stBadArg
  else
    let row := fun (b : Nat) => (2 * n + b, c.arg (2 + b) 1, c.arg (8 + 8 * b) 8, c.arg (24 + 8 * b) 8)
    let moved := [0, 1].any (fun b =>
      let (i, src, pitch, org) := row b
      decide (s.rowSrc i ≠ src) || decide (s.pitch i ≠ pitch) ||
        decide (s.get64 (R.DCT_ROW_ORG_LO i) (R.DCT_ROW_ORG_HI i) ≠ org))
    let plane := (s.portAt n).plane
    if moved ∧ (List.range s.nRows).any (fun j => some (s.rowPlane j) = plane && (s.rowAt j).run) then s.finish q c stDenied
    else
      let s := s.forEach [0, 1] (fun s b =>
        let (i, src, pitch, org) := row b
        let s := s.setFld (R.DCT_ROW_CFG i) F.DCT_ROW_CFG_SRC src
        let s := s.setBit (R.DCT_ROW_CFG i) F.DCT_ROW_CFG_EN (bits (c.arg 4 1) b 1 = 1 && !(s.portAt n).barred)
        let s := s.set64 (R.DCT_ROW_PITCH_LO i) (R.DCT_ROW_PITCH_HI i) pitch
        let s := s.set64 (R.DCT_ROW_ORG_LO i) (R.DCT_ROW_ORG_HI i) org
        if c.arg 40 4 = 0 then s else s.setN (R.DCT_ROW_VEL i) (c.arg 40 4))
      s.finish q c stOk

/-- RULING_SET OP 3 (R115, R458). -/
def State.rulingTmin (s : State) (q : Nat) (c : Cmd) : State :=
  let n := c.arg 1 1
  let t := c.arg 4 4
  if c.args.length < 8 ∨ !s.headOn n ∨ t < (s.portAt n).recN 0x18 4 % 2 ^ 24 ∨ 2 ^ 24 ≤ t then s.finish q c stBadArg
  else (s.forEach [2 * n, 2 * n + 1] (fun s i => s.setN (R.DCT_ROW_TMIN i) t)).finish q c stOk

/-- RULING_SET (R458). -/
def State.rulingSet (s : State) (q : Nat) (c : Cmd) : State :=
  match c.arg 0 1 with
  | 1 => s.rulingEnc q c
  | 2 => s.rulingHead q c
  | 3 => s.rulingTmin q c
  | _ => s.finish q c stBadArg

/-! Masks, trims, policies (R191, R261, R273, R464 to R466). -/

/-- HSET and HCLR of nozzle `h` of port `n` (R191, R464). -/
def State.forceMask (s : State) (n h : Nat) (set clr : Bool) : State :=
  (s.quillBit (maskHset + n * 512 + h / 8) (h % 8) set).quillBit (maskHclr + n * 512 + h / 8) (h % 8) clr

/-- The plane of a port committed, and the command waits for it (R197). -/
def State.commitFor (s : State) (q : Nat) (c : Cmd) (planes : List Nat) : State :=
  (s.forEach planes State.nzpCommit).hold q c (.commits planes 0)

/-- The planes of ports, each once. -/
def State.planesOf (s : State) (ports : List Nat) : List Nat :=
  (List.range 8).filter (fun p => ports.any (fun n => (s.portAt n).plane = some p))

/-- MASK_SET (R464). -/
def State.maskSet (s : State) (q : Nat) (c : Cmd) : State :=
  let n := c.arg 0 1
  let op := c.arg 1 1
  let k := c.arg 2 2
  let hs := (List.range k).map (fun j => c.arg (4 + 2 * j) 2)
  if !s.hasPort n ∨ (s.portAt n).st ≠ .attached ∨ op = 0 ∨ 3 < op ∨ c.args.length < 4 + 2 * k ∨
      hs.any (fun h => decide (2 * s.nprSet n ≤ h)) then s.finish q c stBadArg
  else (s.forEach hs (fun s h => s.forceMask n h (op = 1) (op = 2))).commitFor q c (s.planesOf [n])

/-- A trim set asked for by a command, which waits for READY or FAIL (R273, R465). -/
def State.trimFor (s : State) (q : Nat) (c : Cmd) (n : Nat) : State :=
  let later := (s.portAt n).trimOn
  (s.trimGo n).hold q c (.trim n later none)

/-- TRIM_SET OPs 1 and 2 (R313, R465). -/
def State.trimClasses (s : State) (q : Nat) (c : Cmd) (n : Nat) (lock : Bool) : State :=
  let k := c.arg 2 2
  let es := (List.range k).map (fun j => (c.arg (4 + 4 * j) 2, c.arg (6 + 4 * j) 1, c.arg (7 + 4 * j) 1))
  if c.args.length < 4 + 4 * k ∨
      es.any (fun e => decide (2 * s.nprSet n ≤ e.1) || (lock && decide (7 < e.2.1)) || decide (e.2.2 ≠ 0)) then
    s.finish q c stBadArg
  else if s.portType n = 1 then s.finish q c stUnsupported
  else
    let s := s.forEach es (fun s e =>
      let s := s.quillWrite (dgvRec n e.1) (leBytes 4 (setBits (s.dgvGet n e.1) 6 1 (if lock then 1 else 0)))
      if lock then s.clsPut n e.1 e.2.1 else s)
    if lock then s.trimFor q c n else s.finish q c stOk

/-- TRIM_SET OP 3 (R258, R261, R465). -/
def State.trimWidths (s : State) (q : Nat) (c : Cmd) (n : Nat) : State :=
  let keep := fun (v a : Nat) (f : Fld) => if v = 0 then s.fld a f else v
  if c.args.length < 12 then s.finish q c stBadArg
  else if s.widthsHeld n (keep (c.arg 4 2) (R.HP_STB_W n) F.HP_STB_W_PRE) (keep (c.arg 6 2) (R.HP_STB_W n) F.HP_STB_W_GAP)
      (keep (c.arg 10 2) (R.HP_STB_ENV n) F.HP_STB_ENV_SHORT) then s.finish q c stBusy
  else ((s.putWidths n (c.arg 4 2) (c.arg 6 2) (c.arg 8 2) (c.arg 10 2)).sendShort n).finish q c stOk

/-- TRIM_SET OP 4 (R465). -/
def State.trimTable (s : State) (q : Nat) (c : Cmd) (n : Nat) : State :=
  if c.args.length < 36 then s.finish q c stBadArg
  else if s.portType n = 1 then s.finish q c stUnsupported
  else
    let s := s.forEach (List.range 8) (fun s k => s.trimWrite n k (min 4095 (c.arg (4 + 2 * k) 2) + min 4095 (c.arg (20 + 2 * k) 2) * 65536))
    s.trimFor q c n

/-- TRIM_SET (R465). -/
def State.trimSet (s : State) (q : Nat) (c : Cmd) : State :=
  let n := c.arg 0 1
  if !s.headOn n then s.finish q c stBadArg
  else match c.arg 1 1 with
    | 1 => s.trimClasses q c n true
    | 2 => s.trimClasses q c n false
    | 3 => s.trimWidths q c n
    | 4 => s.trimTable q c n
    | _ => s.finish q c stBadArg

/-- SUBST_POLICY (R199, R466). -/
def State.substPolicy (s : State) (q : Nat) (c : Cmd) : State :=
  let n := c.arg 0 1
  let one := n ≠ 0xFF
  let img := c.arg 4 4
  if (one ∧ !s.headOn n) ∨ 2 < c.arg 1 1 ∨ 1 < c.arg 2 1 ∨ (c.arg 2 1 = 1 ∧ (img &&& 0xC0C0) ≠ 0) then
    s.finish q c stBadArg
  else
    let ports := if one then [n] else (List.range s.part.ports).filter s.headOn
    let s := if c.arg 2 1 = 1 then s.applyWrite R.DCT_SHARE_CFG img else s
    let s := s.forEach ports (fun s n => s.setFld (R.NZP_MAP_CFG n) F.NZP_MAP_CFG_POLICY (c.arg 1 1))
    s.commitFor q c (s.planesOf ports)

/-! Service (R40, R314 to R316, R467, R468, R470). -/

/-- IW_EN of port `n` cleared by Quill firmware for service; what it was is restored later. -/
def State.iwClear (s : State) (n : Nat) : State := s.setBit (R.NZP_TH_CFG n) F.NZP_TH_CFG_IW_EN false

/-- Whether a port of a mask cannot take service work now (R467, R468). -/
def State.serviceBusy (s : State) (ports : List Nat) : Bool :=
  ports.any (fun n => decide ((s.portAt n).st ≠ .attached) || (s.portAt n).sweep.isSome || (s.portAt n).spit.isSome)

/-- SERVICE_SPIT (R467). Only one that is accepted counts as received for the delay of R40: DESIGN CHOICE, log entry 76. -/
def State.serviceSpit (s : State) (q : Nat) (c : Cmd) : State :=
  let ports := portsIn (c.arg 0 4)
  let code := c.arg 4 1
  let rows := c.arg 5 1
  let k := c.arg 6 2
  if !s.maskOk (c.arg 0 4) ∨ (code ≠ 2 ∧ code ≠ 3) ∨ 3 < rows ∨ k = 0 then s.finish q c stBadArg
  else if s.serviceBusy ports then s.finish q c stBusy
  else
    let s := s.forEach ports (fun s n =>
      let iw := s.bit (R.NZP_TH_CFG n) F.NZP_TH_CFG_IW_EN
      (s.iwClear n).modPort n (fun p => { p with spit := some {
        qp := q, code := code, leftA := if bits rows 0 1 = 1 then k else 0, leftB := if bits rows 1 1 = 1 then k else 0
        interval := c.arg 8 2, notBefore := s.now / 8000 + 8, iw := iw } }))
    let s := (s.hold q c (.spit ports 0)).modPw (fun p => { p with serviceAt := s.now })
    s.forEach ports State.spitCheck

/-- VERIFY_SWEEP OP 1 (R314 to R316, R468). Only one that is accepted counts as received for the delay of R40: DESIGN CHOICE, log
entry 76. -/
def State.sweepAll (s : State) (q : Nat) (c : Cmd) : State :=
  let ports := portsIn (c.arg 4 4)
  if s.mode ≠ .service then s.finish q c stDenied
  else if s.serviceBusy ports then s.finish q c stBusy
  else
    let s := s.forEach ports (fun s n =>
      let iw := s.bit (R.NZP_TH_CFG n) F.NZP_TH_CFG_IW_EN
      (s.iwClear n).sweepStart n (s.now / 8000 + 8) iw (c.arg 1 1 = 1))
    (s.hold q c (.sweep ports 0 0)).modPw (fun p => { p with serviceAt := s.now })

/-- VERIFY_SWEEP OP 2 (R308, R468). -/
def State.sweepClear (s : State) (q : Nat) (c : Cmd) : State :=
  let ports := portsIn (c.arg 4 4)
  let h := c.arg 8 2
  if c.args.length < 10 ∨ (4096 ≤ h ∧ h ≠ 0xFFFF) then s.finish q c stBadArg
  else if s.mode = .idle then s.finish q c stDenied
  else
    let s := s.forEach ports (fun s n =>
      if h = 0xFFFF then s.dgvUnmaskAll n else s.quillBit (maskDgv + n * 512 + h / 8) (h % 8) false)
    s.commitFor q c (s.planesOf ports)

/-- VERIFY_SWEEP OP 3 (R468). -/
def State.sweepPolicy (s : State) (q : Nat) (c : Cmd) : State :=
  let v := c.arg 8 2
  let on := fun (j : Nat) => bits v j 1 = 1
  if c.args.length < 33 ∨ 63 < v ∨ (on 0 ∧ (c.arg 12 4 &&& 0xFFFF00C0) ≠ 0) then s.finish q c stBadArg
  else
    let s := s.forEach (portsIn (c.arg 4 4)) (fun s n =>
      let w := fun (s : State) (j off : Nat) => if on j then s.applyWrite off (c.arg (12 + 4 * j) 4) else s
      let s := w (w (w (w (w s 0 (R.DGV_CFG n)) 1 (R.DGV_TH n)) 2 (R.DGV_WIN n)) 3 (R.DGV_GEOM n)) 4 (R.DGV_VBAND n)
      if on 5 then s.setFld (R.DGV_SVC n) F.DGV_SVC_SVC_INT (c.arg 32 1) else s)
    s.finish q c stOk

/-- VERIFY_SWEEP OP 4 (R450, R468). -/
def State.sweepReport (s : State) (q : Nat) (c : Cmd) : State :=
  match portsIn (c.arg 4 4) with
  | n :: _ =>
    let k := 8 * s.nprSet n
    if c.args.length < 20 ∨ c.arg 16 4 < k then s.finish q c stBadArg
    else
      let r := s.quillRead (dgvRec n 0) k
      (r.2.hostWrite (c.arg 8 8) r.1).finish q c stOk
  | [] => s.finish q c stBadArg

/-- VERIFY_SWEEP (R468). -/
def State.verifySweep (s : State) (q : Nat) (c : Cmd) : State :=
  if 1 < c.arg 1 1 ∨ !s.maskOk (c.arg 4 4) then s.finish q c stBadArg
  else match c.arg 0 1 with
    | 1 => s.sweepAll q c
    | 2 => s.sweepClear q c
    | 3 => s.sweepPolicy q c
    | 4 => s.sweepReport q c
    | _ => s.finish q c stBadArg

/-- BIST_RUN (R404, R470). -/
def State.bistRun (s : State) (q : Nat) (c : Cmd) : State :=
  match c.arg 0 1 with
  | 0 => s.finish q c stOk (leBytes 4 (s.regValue R.MEM_BIST_STAT))
  | 1 =>
    if 63 < c.arg 1 1 then s.finish q c stBadArg
    else if s.bit R.MEM_BIST_STAT F.MEM_BIST_STAT_BUSY then s.finish q c stBusy
    else ((s.setFld R.MEM_BIST_CTL F.MEM_BIST_CTL_BANKS (c.arg 1 1)).bistGo).finish q c stOk
  | 2 =>
    if s.cmdMode ≠ .idle then s.finish q c stDeferred
    else (s.modPw (fun p => { p with logic := true })).hold q c .logic
  | _ => s.finish q c stBadArg

/-- A logic BIST run ends (R404, R470). -/
def State.logicDone (s : State) (pass : Bool) : State :=
  if !s.pw.logic then s
  else (s.modPw (fun p => { p with logic := false })).finishAll (fun w => w = .logic) stOk [if pass then 0 else 1]

/-! Power (R471, R472). -/

/-- POWER_POLICY (R471). -/
def State.powerPolicy (s : State) (q : Nat) (c : Cmd) : State :=
  let mx := c.arg 4 1
  let df := c.arg 5 1
  if 3 < mx ∨ 3 < df then s.finish q c stBadArg
  else
    let s := s.modPw (fun p => { p with
      idleDelay := c.arg 0 4, maxSub := mx, defSub := min df mx, spPrint := c.arg 6 2, spWarm := c.arg 8 2 })
    let s := match s.mode with
      | .config | .print | .service => s.spAll s.pw.spPrint
      | .idle => if s.pw.sub = 0 then s.spAll s.pw.spPrint else if s.pw.sub = 1 then s.spAll s.pw.spWarm else s
      | .boot | .park => s
    s.finish q c stOk

/-- NEXT_EVENT_HINT (R472, R525). `service` is the next action of Quill firmware's own schedule. -/
def State.nextHint (s : State) (q : Nat) (c : Cmd) (service : Option Nat) : State :=
  let t := c.arg 0 8
  let s := s.modPw (fun p => { p with hint := if t = 0 then none else some (c.seen + 2000 * t) })
  s.finish q c stOk [s.selectSub ((firstEvent (s.knownEvents service)).map (·.1))]

/-! Records and events (R473, R474). -/

/-- BLOTTER_READ (R473, R571): the DMA engine copies the words for Quill firmware. `ecc` are the errors that the copy meets: an
uncorrectable word fails the command. -/
def State.blotterRead (s : State) (q : Nat) (c : Cmd) (ecc : EccIn) : State :=
  let o := c.arg 0 4
  let k := c.arg 4 4
  if o % 8 ≠ 0 ∨ k % 8 ≠ 0 ∨ 0x100000 < o + k then s.finish q c stBadArg
  else
    let s := s.eccMeet [5] ecc
    match s.busRead 1 (bankB + o) k with
    | (none, s) => s.finish q c stFault
    | (some l, s) =>
      if (s.chipFaulty (bankB + o) k).isSome then s.finish q c stFault
      else (s.hostWrite (c.arg 8 8) l).finish q c stOk

/-- The 16 bytes of an EVENT_READ entry (R474, R502). -/
def Ev.entry (e : Ev) : List Nat :=
  let fl := (if e.injected then 1 else 0) + (match e.remote with
    | some i => 2 + i % 16 * 16
    | none => 0)
  leBytes 2 e.code ++ leBytes 2 fl ++ leBytes 4 e.obj ++ leBytes 8 e.at_

/-- EVENT_READ (R474). -/
def State.eventRead (s : State) (q : Nat) (c : Cmd) : State :=
  let mx := c.arg 0 2
  if mx = 0 ∨ 256 < mx ∨ 1 < c.arg 2 1 then s.finish q c stBadArg
  else
    let es := s.evQueue.take mx
    let s := s.hostWrite (c.arg 8 8) (es.flatMap Ev.entry)
    let s := if c.arg 2 1 = 1 then s else { s with evQueue := s.evQueue.drop mx }
    let lost := s.evLost
    { s with evLost := 0 }.finish q c stOk (leBytes 2 es.length ++ leBytes 2 s.evQueue.length ++ leBytes 4 lost)

/-! OTP (R475 to R477, R552, R553). -/

/-- OTP_READ (R475). -/
def State.otpReadCmd (s : State) (q : Nat) (c : Cmd) : State :=
  let w := c.arg 0 2
  let k := c.arg 2 2
  if 511 < w ∨ k = 0 ∨ 64 < k ∨ 512 < w + k ∨ (2 < k ∧ c.args.length < 16) then s.finish q c stBadArg
  else if w < 136 ∧ 128 < w + k then s.finish q c stDenied
  else
    let ws := (List.range k).map (fun j => w + j)
    let data := ws.flatMap (fun x => leBytes 8 (otpVal s.otp.vals x))
    let marg := fun (x : Nat) => s.otp.marg.contains x
    if k ≤ 2 then
      s.finish q c stOk ((data ++ List.replicate 16 0).take 16 ++ [maskOf k (fun j => marg (w + j))])
    else (s.hostWrite (c.arg 8 8) data).finish q c stOk (List.replicate 16 0 ++ [if ws.any marg then 1 else 0])

/-- OTP_PROGRAM (R476, R552). -/
def State.otpProgram (s : State) (q : Nat) (c : Cmd) : State :=
  let w := c.arg 0 2
  let v := c.arg 8 8
  let st := s.otpRegionState (otpRegionOf w)
  if 511 < w ∨ 1 < c.arg 2 1 then s.finish q c stBadArg
  else if s.bit R.PWR_STAT F.PWR_STAT_SUPPLY ∨ st = 2 ∨ (st = 1 ∧ otpIsData w) then s.finish q c stDenied
  else if s.otpClash w v then s.finish q c stBadArg
  else if s.otp.refused.contains w then s.finish q c stDenied
  else if (s.otp.failed.contains w ∧ c.arg 2 1 = 0) ∨ s.otpBusy then s.finish q c stBusy
  else
    let s := s.setFld R.OTP_PROG_CTL F.OTP_PROG_CTL_WORD w
    let s := s.setFld R.OTP_PROG_CTL F.OTP_PROG_CTL_RETRY (c.arg 2 1)
    let s := s.set64 R.OTP_PROG_DATA_LO R.OTP_PROG_DATA_HI v
    (s.otpBurn { word := w, value := v }).hold q c .otp

/-- OTP_LOCK (R477, R553). -/
def State.otpLockCmd (s : State) (q : Nat) (c : Cmd) : State :=
  let r := c.arg 0 1
  if 2 < r ∨ c.arg 1 1 ≠ 0xA5 then s.finish q c stBadArg
  else if s.bit R.PWR_STAT F.PWR_STAT_SUPPLY ∨ s.otpRegionState r = 2 then s.finish q c stDenied
  else if s.otpBusy then s.finish q c stBusy
  else ((s.setFld R.OTP_PROG_CTL F.OTP_PROG_CTL_REGION r).otpLock r).hold q c .otp

/-! Diagnostics (R419, R478, R479, R575). -/

/-- The session closed, with what it opened (R389, R419). -/
def State.diagClose (s : State) : State := s.closeDiag.diagRegion false

/-- DIAG_UNLOCK (R478). -/
def State.diagUnlock (s : State) (q : Nat) (c : Cmd) : State :=
  let t := c.arg 2 2
  match c.arg 0 1 with
  | 0 => s.diagClose.finish q c stOk [0, 0, 0, 0]
  | 1 =>
    if !s.bit R.OTP_POLICY F.OTP_POLICY_DIAG_ENABLE then s.finish q c stDenied
    else if 3600 < t then s.finish q c stBadArg
    else
      let t := if t = 0 then 600 else t
      ({ s with diag := some (s.now + t * 2000000000) }.diagRegion true).finish q c stOk (leBytes 4 t)
  | _ => s.finish q c stBadArg

/-- The session's timeout expires (R419, R478). -/
def State.diagTimeout (s : State) : State :=
  match s.diag with
  | some t => (s.advTo t).diagClose
  | none => s

/-- FAULT_INJECT (R479, R575, R576). -/
def State.faultInject (s : State) (q : Nat) (c : Cmd) : State :=
  let j := c.arg 0 1
  let tg := c.arg 2 1
  let n := c.arg 3 1
  let act := c.arg 4 1
  let lane := c.arg 6 1
  let near := decide (tg ≤ 2)
  if s.diag.isNone then s.finish q c stDenied
  else if 7 < j ∨ 1 < c.arg 1 1 ∨ c.arg 7 1 ≠ 0 then s.finish q c stBadArg
  else
    let off := s.setBit (R.FIJ_SLOT_CFG j) F.FIJ_SLOT_CFG_ARM false
    if (tg = 1 ∨ tg = 2) ∧ !s.hasPort n then s.finish q c stBadArg
    else if c.arg 1 1 = 0 then off.finish q c stOk
    else if tg = 0 ∨ 4 < tg ∨ (near ∧ s.portType n = 1) ∨ act = 0 ∨ 4 < act ∨
        (tg = 1 ∧ 3 < lane ∧ lane ≠ 0xFF) ∨ c.arg 8 4 = 0 then s.finish q c stBadArg
    else
      let s := (off.setN (R.FIJ_SLOT_RATE j) (c.arg 8 4)).setN (R.FIJ_SLOT_COUNT j) (c.arg 12 4)
      let s := s.setFld (R.FIJ_SLOT_DELAY j) F.FIJ_SLOT_DELAY_DELAY (min 100000 (c.arg 16 4))
      let v := 1 + tg * 4 + (if near then n else 0) * 32 + act * 2 ^ 10 + c.arg 5 1 * 2 ^ 16 + lane * 2 ^ 24
      (s.applyWrite (R.FIJ_SLOT_CFG j) v).finish q c stOk

/-! The chain (R480, R491). -/

/-- CHAIN_CONFIG (R480). -/
def State.chainConfig (s : State) (q : Nat) (c : Cmd) : State :=
  match c.arg 0 1 with
  | 0 =>
    if (List.range s.nRows).any (fun i => decide (s.rowSrc i = 4)) then s.finish q c stBusy
    else (if s.joined then s.chainLeave else s).finish q c stOk
  | 1 =>
    let i := c.arg 1 1
    let k := c.arg 2 1
    let h := c.arg 4 2
    if 15 < i ∨ k = 0 ∨ 16 < k ∨ 512 < h then s.finish q c stBadArg
    else if s.joined then s.finish q c stBusy
    else
      let keep := s.getN R.CHN_CFG &&& 0xE
      let s := s.modChain (fun x => { x with heads := h })
      (s.applyWrite R.CHN_CFG (keep + 1 + i * 16 + k * 256 + c.arg 3 1 * 2 ^ 16)).hold q c .join
  | _ => s.finish q c stBadArg

/-- One second after a join without lock (R480). -/
def State.joinTimeout (s : State) : State :=
  if (List.range 32).any (fun q => s.waitOf q = some .join) then
    let s := s.advTo (s.chain.joinAt + 2000000000)
    if s.syncSt = 2 then s else s.finishAll (fun w => w = .join) stFault
  else s

end Sys2Proof.Machine
end

