-- ==== Sys2Proof/Machine/Tick.lean ====
section
/-! DEFINITION. The control tick (R24 to R31): what the loop engine's work list does at a tick boundary, the overrun test,
and the clearing of the causes that stop admission. -/
namespace Sys2Proof.Machine

/-- The number of the next tick: the first boundary not before the present device time and after the last tick (R24). -/
def State.nextTick (s : State) : Nat := max ((s.tick.map (· + 1)).getD 0) ((s.now + 7999) / 8000)

/-- The SQUASH event of the tick that ends (R233): for the lowest row squashed in it. -/
def State.squashReport (s : State) : State :=
  match s.squashLow with
  | some i => { s.raise 0x1005 i with squashLow := none }
  | none => s

/-- The tick since which port `n` has had no idle-warm entries (R103): kept while IW_EN is 0. -/
def State.iwOffKeep (s : State) (n k : Nat) : State :=
  let en := s.bit (R.NZP_TH_CFG n) F.NZP_TH_CFG_IW_EN
  s.modPort n (fun p => { p with iwOff := if en then none else some (p.iwOff.getD k) })

/-- What happens at the boundary of tick `k`, before the work list: the supply readings of R534, the master change and the
clock step (R496, R498), the chain copy (R500), calibration values that take effect at a tick
(R545), the planes' ARM and HALT (R103), a PENDING commit and the release of the older nozzle map (R197). -/
def State.tickStart (s : State) (k : Nat) (volt : Option (Nat × Nat)) : State :=
  let s := match volt with
    | some (vm, vb) => s.readSupply vm vb
    | none => s
  let s := s.squashReport.masterApply.copyTick k
  let s := s.trimsDue false
  let s := s.forEach (List.range 8) (fun s p => (((s.planeBoundary p).pendingAccept p).oldLiveRelease p).iwRestore p)
  let s := s.forEach (List.range 8) State.jobCheck
  s.forEach (List.range s.part.ports) (fun s n => (s.offlineReturn n).iwOffKeep n k)

/-- The enabled zones in the order of the work list (R25, R237). -/
def State.zonesOn (s : State) : List (Nat × Nat) :=
  (List.range s.part.ports).flatMap (fun n => ((s.loopZones n).filter (fun z => s.loopEn n z)).map (fun z => (n, z)))

/-- The head rows in use, in the order of the work list (R25). -/
def State.rowsUsed (s : State) : List Nat := (List.range s.nRows).filter (fun i => s.rowEn i)

/-- The work list of tick `k` (R25) of which the first `ran` items were started before the next boundary (R30): the rest
are skipped. A row that is not in use takes no time. The OBS frame carries the observer as this tick leaves it (R499). -/
def State.workList (s : State) (k ran : Nat) (chans : List ChanIn) : State :=
  let rows := s.rowsUsed
  let zones := s.zonesOn
  let s := s.forEach (List.range 4) (fun s c => s.encTick c (chans.getD c {}) (decide (c < ran)))
  let s := s.obsSend k
  let skip := rows.drop (ran - 4)
  let s := s.forEach (List.range s.nRows) (fun s i => if skip.contains i then s else s.rowTick i k)
  let zs := zones.take (ran - 4 - rows.length)
  let s := s.forEach zs (fun s z => s.piTick z.1 z.2 k)
  if 4 + rows.length + zones.length < ran then s.forEach zs (fun s z => s.superviseZone z.1 z.2 k) else s

/-- What else is due at a tick: frames that wait for room on a lane or for their time, the steps of spits and sweeps, and what Quill
firmware does with channels it gives back. -/
def State.tickDue (s : State) (k ran : Nat) : State :=
  let s := s.forEach (List.range s.part.ports) (fun s n =>
    let s := (((s.lowPump n).laneFlush n).bcDueNow n).spitCheck n
    let s := s.gapTrim n
    let s := s.sweepStep n
    if 4 + (s.rowsUsed.filter (fun i => decide (i ≤ 2 * n))).length ≤ ran then (s.sweepEntry n k).spitEntry n k else s)
  (s.forEach [0, 1] State.mbocaDue).forEach (List.range 64) State.chReleased

/-- The instant at which the work list was complete, as SYS_TICK_STAT reports it (R50). -/
def State.tickDone (s : State) (done : Nat) : State :=
  let d := if 8000 ≤ done then 0x1FFF else done
  let s := s.setFld R.SYS_TICK_STAT F.SYS_TICK_STAT_LAST_DONE d
  let s := s.setFld R.SYS_TICK_STAT F.SYS_TICK_STAT_MAX_DONE (max d (s.fld R.SYS_TICK_STAT F.SYS_TICK_STAT_MAX_DONE))
  { s with overDue := decide (6400 < done) }

/-- Whether the tick that ends has completed within its work window (R26, R31). -/
def State.lastTickGood (s : State) : Bool :=
  s.tick.isSome && !s.overDue && decide (s.fld R.SYS_TICK_STAT F.SYS_TICK_STAT_LAST_DONE ≤ 6400)

/-- A control tick but for its report in SYS_TICK_STAT (R24, R25). A clock step moves the boundary: the tick is then the first of the stepped time. -/
def State.controlTick (s : State) (t : TickIn) : State :=
  let s := s.advTo (s.nextTick * 8000)
  let s := s.clockStep
  let k := s.nextTick
  let s := { s.advTo (k * 8000) with tick := some k, goodTick := s.lastTickGood }
  let s := (s.tickStart k t.volt).pcieSet t.pcie
  let s := { s with scan := t.scan.getD s.scan }
  let ran := if t.done < 8000 then 1000 else t.ran
  let s := s.workList k ran t.chans
  let s := s.eccCorr 4 t.corrD
  let s := match t.uncorrD with
    | some a => s.eccUncorr 4 a
    | none => s
  s.tickDue k ran

/-- The work window ends with the work list incomplete (R29). -/
def State.tickOverrun (s : State) : State :=
  if s.overDue then
    let s := s.advTo (s.tick.getD 0 * 8000 + 6400)
    let s := s.raiseCount 0x1003 0 6
    let s := s.setBit R.SYS_TICK_STAT F.SYS_TICK_STAT_OVERRUN true
    let s := s.bumpW R.SYS_TICK_OVR_CNT
    { s.setBit R.SYS_ADMIT_STOP F.SYS_ADMIT_STOP_TICK_OVR true with overDue := false, goodTick := false }
  else s

/-- Quill firmware clears causes that stop admission (R49, R32). -/
def State.admitStopClear (s : State) (bits_ : Nat) : State := s.admitClear (bits_ % 8 &&& s.clearable)

end Sys2Proof.Machine
end

