-- ==== Sys2Proof/Machine/Answer.lean ====
section
/-! DEFINITION. How a meaning answers, and the register writes that stand behind the rows a write triggers. -/
namespace Sys2Proof.Machine

/-- The effect `t` of a command on `s`, but for what no command reaches: the part is fixed (R1), the queue is the step's, the
flash is written by FW_UPDATE alone (R481, R540), and the OTP array by burns alone (R548). -/
def State.seal (s t : State) : State :=
  { t with part := s.part, pending := s.pending, flash := s.flash, otp := { t.otp with raw := s.otp.raw } }

/-- The next state of a command. A command that waits (R451) completes at the control tick that follows what it waits for:
DESIGN CHOICE, log entry 60. -/
def State.answer (s t : State) : Host.Outcome State Fault Refusal := .next (s.seal t)

/-- The next state of a command that reads or burns the OTP array, which leaves `raw` in it (R548, R549, R552). -/
def State.answerOtp (s t : State) (raw : List (Nat × Nat)) : Host.Outcome State Fault Refusal :=
  .next { s.seal t with otp := { t.otp with raw := raw } }

/-- The next state of FW_UPDATE, which leaves `flash` in the flash (R481). -/
def State.answerFlash (s t : State) (flash : List Host.Cell) : Host.Outcome State Fault Refusal :=
  .next { s.seal t with flash := flash }

/-- A command that names unit `i` of `bound` (R1, R14). A unit the part lacks answers nothing and changes nothing: its
registers are reserved (R4, R46) and no event reaches it. DESIGN CHOICE, log entry 61. -/
def onUnit (i bound : Nat) (s : State) (o : Host.Outcome State Fault Refusal) : Host.Outcome State Fault Refusal :=
  if i < bound then o else s.answer s

/-- A write that sets field `f` of the register at `off`: it carries the RW fields as they stand and 0 in the others (R15),
so that it clears no W1C field. DESIGN CHOICE, log entry 62. -/
def State.strobeReg (s : State) (m : Master) (off : Nat) (f : Fld) : State :=
  let rw := match s.regOf off with
    | some (r, _, _) => r.rw.toNat
    | none => 0
  s.writeReg m off (setBits (s.getN off &&& rw) f.lo f.w 1) true

/-- A host access through BAR2 (R416); a read may meet an ECC error of the bank it reads (R393, R394): `some false` a
corrected one, `some true` an uncorrectable one. -/
def State.bar2Access (s : State) (a k : Nat) (data : Option (List Nat)) (ecc : Option Bool) : State :=
  let u := a % 0x1000000
  let ok := data.isNone && decide (u / 64 = (u + max 1 k - 1) / 64) && (s.refusal 2 u (max 1 k) false).isNone
  match ecc, bankAt u 1 with
  | some false, some b => if ok then (s.bar2 a k data).eccCorr b 1 else s.bar2 a k data
  | some true, some b => if ok then (s.wordBad b ((u - bankBase b) / 8)).bar2 a k data else s.bar2 a k data
  | _, _ => s.bar2 a k data

/-- A command in IDLE that asks for the wake to the mode IDLE was entered from; it stays at the front of its queue pair and
is carried out in that mode (R37, R144). -/
def State.wakeFor (s : State) (q op : Nat) : State :=
  match s.headCmd q with
  | some c =>
    if c.op = op ∧ c.pre = none ∧ s.ready ∧ s.pw.wake.isNone then s.modPw (fun p => { p with wake := some p.from_ }) else s
  | none => s

end Sys2Proof.Machine
end

