-- ==== Sys2Proof/Machine/CareRows.lean ====
section
/-! DEFINITION. Commands of the Blotter, events, calibration and OTP. One meaning per row of the opcode table. -/
namespace Sys2Proof.Machine

/-- OTP_REREAD (R551): Every 10 minutes the OTP words are re-read and disagreements raise OTP_MARGINAL. -/
def execOtpReread (reads : List (Nat × Nat × Nat)) (s : State) : Host.Outcome State Fault Refusal :=
  s.answer (s.otpReread reads)

/-- BLOTTER_FLUSH (R567): The once-per-second flush copies the image with its deltas and switches ACTIVE. -/
def execBlotterFlush (bad : List Nat) (both : List Nat) (s : State) : Host.Outcome State Fault Refusal :=
  s.answer (s.blotterFlush bad both)

/-- BLT_FLUSH (R583): A write of FLUSH in BLT_CTL requests a flush. -/
def execBltFlush (m : Master) (s : State) : Host.Outcome State Fault Refusal :=
  s.answer (s.strobeReg m R.BLT_CTL F.BLT_CTL_FLUSH)

/-- FLUSH_DONE (R567): A flush completes, serving any request that arrived during it. -/
def execFlushDone (s : State) : Host.Outcome State Fault Refusal :=
  s.answer s.flushDone

/-- EVENT_QUEUE_MOVE (R574): Quill firmware moves events from the hardware FIFO into the event queue and signals them. -/
def execEventQueueMove (s : State) : Host.Outcome State Fault Refusal :=
  s.answer s.eventMove

/-- CAL_TRACK (R546): Every 1 ms the timebase delay line is compared and corrected. -/
def execCalTrack (code : Nat) (s : State) : Host.Outcome State Fault Refusal :=
  s.answer (s.calTrack code)

/-- CAL_GO (R564): A write of GO in CAL_CTL starts a calibration of the selected units. -/
def execCalGo (m : Master) (s : State) : Host.Outcome State Fault Refusal :=
  s.answer (s.strobeReg m R.CAL_CTL F.CAL_CTL_GO)

/-- OTP_PROG_GO (R561): A write of GO in OTP_PROG_CTL burns and verifies one OTP word. -/
def execOtpProgGo (m : Master) (s : State) : Host.Outcome State Fault Refusal :=
  s.answer (s.strobeReg m R.OTP_PROG_CTL F.OTP_PROG_CTL_GO)

/-- OTP_LOCK_GO (R561): A write of LOCK in OTP_PROG_CTL burns a region's digest and lock words. -/
def execOtpLockGo (m : Master) (s : State) : Host.Outcome State Fault Refusal :=
  s.answer (s.strobeReg m R.OTP_PROG_CTL F.OTP_PROG_CTL_LOCK)

/-- OTP_RD_ADDR (R562): A write of OTP_RD_ADDR loads OTP_RD_DATA with the resolved word. -/
def execOtpRdAddr (m : Master) (idx : Nat) (s : State) : Host.Outcome State Fault Refusal :=
  s.answer (s.writeReg m R.OTP_RD_ADDR idx true)

/-- CAL_DONE (R469): A calibration started by CAL_RUN ends, its trims become pending for their boundary and the command completes. -/
def execCalDone (found : CalIn) (s : State) : Host.Outcome State Fault Refusal :=
  s.answer (s.calDone found)

/-- LOGIC_BIST_DONE (R470): A logic BIST run ends within 50 ms, BIST_RUN completes with pass or fail and a held wake proceeds. -/
def execLogicBistDone (pass : Bool) (s : State) : Host.Outcome State Fault Refusal :=
  s.answer (s.logicDone pass)

/-- OTP_BURN_DONE (R552): An OTP burn or lock-word burn ends and is read back at strict margin, setting DONE, FAIL or completing the lock. -/
def execOtpBurnDone (readBack : Nat) (s : State) : Host.Outcome State Fault Refusal :=
  s.answerOtp (s.otpBurnDone readBack) (s.otp.rawBurnt readBack)

/-- DT_WRAP (R572): Device time wraps after 2^64 DT and DT_WRAP is raised. -/
def execDtWrap (s : State) : Host.Outcome State Fault Refusal :=
  s.answer s.dtWrap

end Sys2Proof.Machine
end

