-- ==== Sys2Proof/Machine/ChainRows.lean ====
section
/-! DEFINITION. Commands of the Mboca chain. One meaning per row of the opcode table. -/
namespace Sys2Proof.Machine

/-- MBOCA_LINK_SEND (R485): Every 250 us a port sends a LINK frame. -/
def execMbocaLinkSend (pt : Nat) (s : State) : Host.Outcome State Fault Refusal :=
  onUnit pt 2 s (s.answer (s.linkSend pt))

/-- MBOCA_LINK_FRAME (R485): A LINK frame is received and counts towards link UP. -/
def execMbocaLinkFrame (pt : Nat) (f : MFrame) (s : State) : Host.Outcome State Fault Refusal :=
  onUnit pt 2 s (s.answer (s.mbocaRx pt f))

/-- MBOCA_LINK_DOWN (R485): Block lock is lost, hi_ber is seen or no frame arrives for 1 ms, so the port goes DOWN. -/
def execMbocaLinkDown (pt : Nat) (timeout : Bool) (s : State) : Host.Outcome State Fault Refusal :=
  onUnit pt 2 s (s.answer (s.mbocaDown pt timeout))

/-- MBOCA_RETRY (R485): The back-off wait expires and the port retries bring-up. -/
def execMbocaRetry (pt : Nat) (s : State) : Host.Outcome State Fault Refusal :=
  onUnit pt 2 s (s.answer (s.mbocaRetry pt))

/-- ANNOUNCE_SEND (R491): Every 1 ms the device sends ANNOUNCE on both ports. -/
def execAnnounceSend (s : State) : Host.Outcome State Fault Refusal :=
  s.answer s.announceSend

/-- ANNOUNCE (R491): An ANNOUNCE frame is received, checked, relayed and entered in the member set. -/
def execAnnounce (pt : Nat) (f : MFrame) (s : State) : Host.Outcome State Fault Refusal :=
  onUnit pt 2 s (s.answer (s.mbocaRx pt f))

/-- MASTER_ELECTION (R492): Every 1 ms the device elects the master and sync port from its member set. -/
def execMasterElection (s : State) : Host.Outcome State Fault Refusal :=
  s.answer s.masterElection

/-- SYNC_REQ_SEND (R494): Every 1 ms a slave sends SYNC_REQ on its sync port. -/
def execSyncReqSend (s : State) : Host.Outcome State Fault Refusal :=
  s.answer s.syncReqSend

/-- SYNC_REQ (R494): A received SYNC_REQ is answered with SYNC_RESP. -/
def execSyncReq (pt : Nat) (f : MFrame) (t2 : Nat) (t3 : Nat) (s : State) : Host.Outcome State Fault Refusal :=
  onUnit pt 2 s (s.answer (s.mbocaRx pt { f with t2 := t2, t3 := t3 }))

/-- SYNC_RESP (R494): A SYNC_RESP completes a measurement that updates f and the sync state. -/
def execSyncResp (pt : Nat) (f : MFrame) (t4 : Nat) (s : State) : Host.Outcome State Fault Refusal :=
  onUnit pt 2 s (s.answer (s.mbocaRx pt { f with t2 := t4 }))

/-- CHAIN_COAST_TIMEOUT (R495): The HOLDOVER coast timer reaches 10 ms, so COAST_EXP and SYNC are set. -/
def execChainCoastTimeout (s : State) : Host.Outcome State Fault Refusal :=
  s.answer s.chainCoastTimeout

/-- OBS (R500): An OBS frame is received, relayed and held for the chain observer copy. -/
def execObs (pt : Nat) (f : MFrame) (s : State) : Host.Outcome State Fault Refusal :=
  onUnit pt 2 s (s.answer (s.mbocaRx pt f))

/-- EVT (R502): An EVT frame is received and its event is entered as REMOTE. -/
def execEvt (pt : Nat) (f : MFrame) (s : State) : Host.Outcome State Fault Refusal :=
  onUnit pt 2 s (s.answer (s.mbocaRx pt f))

/-- MSG (R503): A MSG frame is received for Quill firmware. -/
def execMsg (pt : Nat) (f : MFrame) (s : State) : Host.Outcome State Fault Refusal :=
  onUnit pt 2 s (s.answer (s.mbocaRx pt f))

/-- BLOCK_LOCK (R485): A Mboca port gains 64b/66b block lock on its received stream, beginning link bring-up. -/
def execBlockLock (pt : Nat) (s : State) : Host.Outcome State Fault Refusal :=
  onUnit pt 2 s (s.answer (s.blockLock pt))

/-- JOIN_TIMEOUT (R480): Sync has not locked 1 s after a CHAIN_CONFIG join, so the command completes with FAULT while the link keeps retrying. -/
def execJoinTimeout (s : State) : Host.Outcome State Fault Refusal :=
  s.answer s.joinTimeout

end Sys2Proof.Machine
end

