-- ==== Sys2Proof/Machine/DmaRows.lean ====
section
/-! DEFINITION. Commands of the DMA engine. One meaning per row of the opcode table. -/
namespace Sys2Proof.Machine

/-- DMA_CH_START (R343): A write of START in DMA_CH_CTL starts, restarts or pends a channel's chain. -/
def execDmaChStart (m : Option Master) (c : Nat) (s : State) : Host.Outcome State Fault Refusal :=
  onUnit c 64 s
    (s.answer (match m with
    | some m => s.strobeReg m (R.DMA_CH_CTL c) F.DMA_CH_CTL_START
    | none => s.chStart c true))

/-- DMA_DOORBELL (R344): A write to DMA_DB_LIMIT rings the doorbell, starting a chain or replacing the limit. -/
def execDmaDoorbell (m : Master) (c : Nat) (limit : Nat) (s : State) : Host.Outcome State Fault Refusal :=
  onUnit c 64 s (s.answer (s.writeReg m (R.DMA_DB_LIMIT c) limit true))

/-- DMA_DESCRIPTOR_FETCH (R349): A fetched descriptor is checked for SEQ and errors before its data moves. -/
def execDmaDescriptorFetch (c : Nat) (host : Option (List Nat)) (src : Option (List Nat)) (dst : Option (List Nat)) (req : DmaReq) (s : State) : Host.Outcome State Fault Refusal :=
  onUnit c 64 s (s.answer (s.chFetch c host src dst req.blk req.ecc))

/-- DMA_DESCRIPTOR_COMPLETE (R360): A descriptor's writes are issued or confirmed and its event pulse is sent. -/
def execDmaDescriptorComplete (c : Nat) (r : DmaReads) (s : State) : Host.Outcome State Fault Refusal :=
  onUnit c 64 s (s.answer (s.chComplete c r.data r.ecc))

/-- DMA_BUS_ERR (R363): A data access fails, so DMA_BUS_ERR is raised and the descriptor is marked bad or every channel stops. -/
def execDmaBusErr (c : Nat) (cause : Nat) (addr : Nat) (s : State) : Host.Outcome State Fault Refusal :=
  onUnit c 64 s (s.answer (s.chBusErr c cause addr))

/-- DMA_READ_TIMEOUT (R363): A read is not completed within 2 us and is handled as a bus error. -/
def execDmaReadTimeout (c : Nat) (addr : Nat) (s : State) : Host.Outcome State Fault Refusal :=
  onUnit c 64 s (s.answer (s.chTimeout c addr))

/-- DMA_DISABLE (R369): Setting DISABLE stops the channel at once in DRAIN. -/
def execDmaDisable (m : Master) (c : Nat) (s : State) : Host.Outcome State Fault Refusal :=
  onUnit c 64 s (s.answer (s.writeReg m (R.DMA_CH_CTL c) (2 ^ F.DMA_CH_CTL_DISABLE.lo) true))

/-- DMA_DRAIN_END (R369): Outstanding requests end, so the channel enters DISABLED and frees its blocks. -/
def execDmaDrainEnd (c : Nat) (s : State) : Host.Outcome State Fault Refusal :=
  onUnit c 64 s (s.answer (s.chDrained c))

/-- DMA_ENABLE (R369): Clearing DISABLE in DISABLED returns the channel to IDLE. -/
def execDmaEnable (m : Master) (c : Nat) (s : State) : Host.Outcome State Fault Refusal :=
  onUnit c 64 s (s.answer (s.writeReg m (R.DMA_CH_CTL c) 0 true))

/-- DMA_GHALT_CLEAR (R364): Clearing GHALT lets channels be started again. -/
def execDmaGhaltClear (m : Master) (s : State) : Host.Outcome State Fault Refusal :=
  s.answer (s.writeReg m R.DMA_GSTAT (2 ^ F.DMA_GSTAT_GHALT.lo) true)

end Sys2Proof.Machine
end

