-- ==== Sys2Proof/Machine/EncoderRows.lean ====
section
/-! DEFINITION. Commands of the encoder channels. One meaning per row of the opcode table. -/
namespace Sys2Proof.Machine

/-- ENC_LOSS (R79): Loss or over-rate holds for three samples, so the channel enters COAST. -/
def execEncLoss (k : Nat) (s : State) : Host.Outcome State Fault Refusal :=
  onUnit k 4 s (s.answer (s.encLoss k))

/-- ENC_FREEZE (R80): The measured position stays frozen for 8 ticks against predicted motion, so the channel enters COAST. -/
def execEncFreeze (k : Nat) (s : State) : Host.Outcome State Fault Refusal :=
  onUnit k 4 s (s.answer (s.encFreeze k))

/-- ENC_RECOVERY (R83): The signal recovers in COAST, so the device rebases the offset and returns to TRACK. -/
def execEncRecovery (k : Nat) (s : State) : Host.Outcome State Fault Refusal :=
  onUnit k 4 s (s.answer (s.encRecovery k))

/-- TRACK_FAULT (R84): The residual exceeds FE_LIMIT for FE_TIME ticks, so the channel enters FAULT and admission stops. -/
def execTrackFault (k : Nat) (s : State) : Host.Outcome State Fault Refusal :=
  onUnit k 4 s (s.answer (s.encTrackFault k))

/-- ENC_FAULT_RECOVERY (R68): A FAULT channel meets its recovery conditions and returns to TRACK. -/
def execEncFaultRecovery (k : Nat) (s : State) : Host.Outcome State Fault Refusal :=
  onUnit k 4 s (s.answer (s.encFaultRecovery k))

/-- ENC_QUALIFIED (R68): Sixteen samples without loss complete QUALIFY, so the channel goes to ABS_READ or TRACK. -/
def execEncQualified (k : Nat) (s : State) : Host.Outcome State Fault Refusal :=
  onUnit k 4 s (s.answer (s.encQualified k))

/-- ENC_QUALIFY_TIMEOUT (R68): No qualification within 10 ms, so ACQ_FAIL is set and qualification continues. -/
def execEncQualifyTimeout (k : Nat) (s : State) : Host.Outcome State Fault Refusal :=
  onUnit k 4 s (s.answer (s.encQualifyTimeout k))

/-- ABS_READ (R69): An absolute word read completes and is checked for acquisition agreement or drift. -/
def execAbsRead (k : Nat) (r : AbsIn) (s : State) : Host.Outcome State Fault Refusal :=
  onUnit k 4 s (s.answer (s.absRead k r))

/-- ABS_TIMEOUT (R66): An absolute read times out after TIMEOUT us and fails. -/
def execAbsTimeout (k : Nat) (s : State) : Host.Outcome State Fault Refusal :=
  onUnit k 4 s (s.answer (s.absTimeout k))

/-- ABS_CHECK (R70): The periodic INTERVAL expires in TRACK and an absolute drift check read starts. -/
def execAbsCheck (k : Nat) (s : State) : Host.Outcome State Fault Refusal :=
  onUnit k 4 s (s.answer (s.absCheck k))

/-- INDEX_EDGE (R72): A qualified index edge latches position and time and the spacing is checked. -/
def execIndexEdge (k : Nat) (i : EdgeIn) (s : State) : Host.Outcome State Fault Refusal :=
  onUnit k 4 s (s.answer (s.indexEdge k i))

/-- REVERSED_CLEAR (R76): 64 ticks after the last sign change, REVERSED clears. -/
def execReversedClear (k : Nat) (s : State) : Host.Outcome State Fault Refusal :=
  onUnit k 4 s (s.answer (s.reversedClear k))

/-- ENC_ACQ (R68): A write of ACQ starts acquisition, or is refused outside CONFIG and IDLE. -/
def execEncAcq (m : Master) (k : Nat) (s : State) : Host.Outcome State Fault Refusal :=
  onUnit k 4 s (s.answer (s.strobeReg m (R.ENC_CFG k) F.ENC_CFG_ACQ))

/-- ENC_MODE_OFF (R68): Writing MODE 0 stops the observer and moves the channel to OFF. -/
def execEncModeOff (m : Master) (k : Nat) (s : State) : Host.Outcome State Fault Refusal :=
  onUnit k 4 s
    (s.answer (s.writeReg m (R.ENC_CFG k) (setBits (s.getN (R.ENC_CFG k)) F.ENC_CFG_MODE.lo F.ENC_CFG_MODE.w 0) true))

/-- SECOND_ABS_READ (R68): 100 us after the first acquisition read completes, the device starts the second absolute read in ABS_READ. -/
def execSecondAbsRead (k : Nat) (s : State) : Host.Outcome State Fault Refusal :=
  onUnit k 4 s (s.answer (s.absSecond k))

/-- ABS_FAIL_REQUALIFY (R68): 1 ms after three failed absolute attempts, the channel returns from ABS_READ to QUALIFY. -/
def execAbsFailRequalify (k : Nat) (s : State) : Host.Outcome State Fault Refusal :=
  onUnit k 4 s (s.answer (s.absRequalify k))

end Sys2Proof.Machine
end

