-- ==== Sys2Proof/Machine/HostRows.lean ====
section
/-! DEFINITION. Commands of the host link: mailboxes, interrupts and register accesses. One meaning per row of the opcode table. -/
namespace Sys2Proof.Machine

/-- Z1_GO (R428): A write of GO in MBX_Z1_CTL submits the command in the Z1 window. -/
def execZ1Go (irq : Bool) (ind : Option (List Nat)) (s : State) : Host.Outcome State Fault Refusal :=
  s.answer (s.z1Go irq ind)

/-- Z2_PUSH (R429): A write covering offset 0x3C pushes the submission window's message, or drops it. -/
def execZ2Push (q : Nat) (v : Nat) (ind : Option (List Nat)) (s : State) : Host.Outcome State Fault Refusal :=
  onUnit q 32 s (s.answer (s.z2Push q v ind))

/-- Z2_POP (R429): A write of POP removes the head of the completion FIFO. -/
def execZ2Pop (q : Nat) (s : State) : Host.Outcome State Fault Refusal :=
  onUnit q 32 s (s.answer (s.z2Pop q))

/-- Z3_SQ_DOORBELL (R432): A write of MBX_Z3_SQ_TAIL publishes new submissions, or is latched before READY. -/
def execZ3SqDoorbell (q : Nat) (v : Nat) (s : State) : Host.Outcome State Fault Refusal :=
  onUnit q 32 s (s.answer (s.z3Tail q v))

/-- Z3_CQ_DOORBELL (R434): A write of MBX_Z3_CQ_HEAD frees completion slots. -/
def execZ3CqDoorbell (q : Nat) (v : Nat) (s : State) : Host.Outcome State Fault Refusal :=
  onUnit q 32 s (s.answer (s.z3Head q v))

/-- Z3_FETCH (R432): The mailbox unit fetches a submission entry once the completion ring has room. -/
def execZ3Fetch (q : Nat) (msg : Option (List Nat)) (ind : Option (List Nat)) (s : State) : Host.Outcome State Fault Refusal :=
  onUnit q 32 s (s.answer (s.z3Fetch q msg ind))

/-- QP_MODE_OFF (R426): Writing MODE 0 moves a queue pair to DRAIN. -/
def execQpModeOff (q : Nat) (s : State) : Host.Outcome State Fault Refusal :=
  onUnit q 32 s (s.answer (s.qpModeOff q))

/-- QP_DRAIN_END (R426): The commands already taken complete and the queue pair enters OFF. -/
def execQpDrainEnd (q : Nat) (s : State) : Host.Outcome State Fault Refusal :=
  onUnit q 32 s (s.answer (s.qpDrainEnd q))

/-- MSIX_COALESCE_EXPIRY (R436): The COAL interval ends and one MSI-X message is sent for the completions it covers. -/
def execMsixCoalesceExpiry (v : Nat) (s : State) : Host.Outcome State Fault Refusal :=
  onUnit v 64 s (s.answer (s.msixCoalesceExpiry v))

/-- DIAG_SESSION_TIMEOUT (R419): The DIAG_UNLOCK session timeout expires, so the session closes and injection slots disarm. -/
def execDiagSessionTimeout (s : State) : Host.Outcome State Fault Refusal :=
  s.answer s.diagTimeout

/-- REGISTER_WRITE (R15): A write to a register that has no row of its own, applied or denied by its access code and permissions. -/
def execRegisterWrite (m : Master) (off : Nat) (v : Nat) (full : Bool) (s : State) : Host.Outcome State Fault Refusal :=
  s.answer (s.writeReg m off v full)

/-- LATCHING_READ (R99): A read of a LO word latches its companion registers for consistent reads. -/
def execLatchingRead (off : Nat) (s : State) : Host.Outcome State Fault Refusal :=
  s.answer (s.readReg off)

/-- RC_READ (R15): A read of an RC field returns it and clears it. -/
def execRcRead (off : Nat) (s : State) : Host.Outcome State Fault Refusal :=
  s.answer (s.readReg off)

end Sys2Proof.Machine
end

