-- ==== Sys2Proof/Machine/IngestRows.lean ====
section
/-! DEFINITION. Commands of the screen unit and of jobs. One meaning per row of the opcode table. -/
namespace Sys2Proof.Machine

/-- SCREEN_LINE (R164): The screen unit screens one grid line of a plane into the code ring. -/
def execScreenLine (p : Nat) (corr : List Nat) (bad : Option (Nat × Nat)) (s : State) : Host.Outcome State Fault Refusal :=
  onUnit p 8 s (s.answer (s.screenLine p { corr := corr, bad := bad }))

/-- SCR_COMMIT (R153): A write of COMMIT in SCR_PLANE_CTL commits the oldest strip. -/
def execScrCommit (m : Master) (p : Nat) (s : State) : Host.Outcome State Fault Refusal :=
  onUnit p 8 s (s.answer (s.writeReg m (R.SCR_PLANE_CTL p) (1 + if s.paused p then 2 else 0) true))

/-- SCR_PAUSE (R181): A write of PAUSE pauses or resumes screening at the next line boundary. -/
def execScrPause (m : Master) (p : Nat) (on : Bool) (s : State) : Host.Outcome State Fault Refusal :=
  onUnit p 8 s (s.answer (s.writeReg m (R.SCR_PLANE_CTL p) (if on then 2 else 0) true))

/-- SCR_RESET (R181): A write of RESET clears the plane's counters, FIFO and status bits. -/
def execScrReset (m : Master) (p : Nat) (s : State) : Host.Outcome State Fault Refusal :=
  onUnit p 8 s (s.answer (s.writeReg m (R.SCR_PLANE_CTL p) (4 + if s.paused p then 2 else 0) true))

/-- SCR_STRIP_PUSH (R152): A write pushes a strip's line count into the plane's strip FIFO. -/
def execScrStripPush (m : Master) (p : Nat) (count : Nat) (s : State) : Host.Outcome State Fault Refusal :=
  onUnit p 8 s (s.answer (s.writeReg m (R.SCR_STRIP_PUSH p) count true))

/-- SCR_STALL_CLEAR (R182): Clearing STALL restarts screening of the same line. -/
def execScrStallClear (m : Master) (p : Nat) (s : State) : Host.Outcome State Fault Refusal :=
  onUnit p 8 s (s.answer (s.writeReg m (R.SCR_PLANE_STAT p) (2 ^ F.SCR_PLANE_STAT_STALL.lo) true))

/-- JOB_RUNNING (R149): An OPEN job meets its start condition, so IW_EN is cleared and START and END are written. -/
def execJobRunning (p : Nat) (s : State) : Host.Outcome State Fault Refusal :=
  onUnit p 8 s (s.answer (s.jobRunning p))

/-- JOB_ARM_DELAY_EXPIRY (R149): Eight ticks after IW_EN was cleared, Quill firmware sets ARM for the plane. -/
def execJobArmDelayExpiry (p : Nat) (s : State) : Host.Outcome State Fault Refusal :=
  onUnit p 8 s (s.answer (s.jobArm p))

/-- JOB_END (R149): RETIRED passes END(p), so the job returns to NONE and its buffers are freed. -/
def execJobEnd (p : Nat) (s : State) : Host.Outcome State Fault Refusal :=
  onUnit p 8 s (s.answer (s.jobEnd p))

end Sys2Proof.Machine
end

