-- ==== Sys2Proof/Machine/LineRows.lean ====
section
/-! DEFINITION. Commands of the lines: plane control, lock points, transfers, strobes, the cursor, maps and probes. One meaning per row of the opcode table. -/
namespace Sys2Proof.Machine

/-- LOCK_POINT (R120): At TS - 16,000 DT a queue entry is locked or blanked, energy-tested and taken into the snapshot. -/
def execLockPoint (i : Nat) (ecc : EccIn) (s : State) : Host.Outcome State Fault Refusal :=
  onUnit i s.nRows s (s.answer (s.lockPoint i ecc))

/-- LINE_TRANSFER_START (R262): 1,000 DT after the lock point the port shifts or frames the line's codes to the head. -/
def execLineTransferStart (i : Nat) (s : State) : Host.Outcome State Fault Refusal :=
  onUnit i s.nRows s (s.answer (s.transferStart i))

/-- TYPE_S_LATCH (R265): At TS - 2,000 DT the port pulses LATCH so the Type S head latches the row. -/
def execTypeSLatch (i : Nat) (s : State) : Host.Outcome State Fault Refusal :=
  onUnit i s.nRows s (s.answer (s.latchRow i))

/-- STROBE_FIRE (R259): At TS the row's PRE and MAIN pulses are emitted, drops are counted and the guard applies. -/
def execStrobeFire (i : Nat) (s : State) : Host.Outcome State Fault Refusal :=
  onUnit i s.nRows s (s.answer (s.strobeFire i))

/-- ACK_DEADLINE (R272): At TS + 16,000 DT a Type L line with no ACK is reported HEAD_NAK. -/
def execAckDeadline (i : Nat) (s : State) : Host.Outcome State Fault Refusal :=
  onUnit i s.nRows s (s.answer (s.ackDeadline i))

/-- ONE_SHOT_TRIP (R278): A strobe pulse exceeds 4 us, so the one-shot cuts it and the port goes OFFLINE. -/
def execOneShotTrip (n : Nat) (pin : Nat) (s : State) : Host.Outcome State Fault Refusal :=
  onUnit n s.part.ports s (s.answer (s.oneShotTrip n pin))

/-- CURSOR_LINE_COMPUTE (R220): The cursor computes a row's next line: image codes, decay, rises and warm codes. -/
def execCursorLineCompute (i : Nat) (bad : Bool) (ecc : EccIn) (s : State) : Host.Outcome State Fault Refusal :=
  onUnit i s.nRows s (s.answer (s.cursorLine i bad ecc))

/-- MAP_COMMIT_ACCEPT (R193): A commit is accepted: the new generation is evaluated, L_p is assigned and staged lines are squashed. -/
def execMapCommitAccept (p : Nat) (s : State) : Host.Outcome State Fault Refusal :=
  onUnit p 8 s (s.answer (s.mapAccept p))

/-- PROBE_WINDOW_CLOSE (R306): A probe window closes and the probe is judged and acted on. -/
def execProbeWindowClose (n : Nat) (g : GateIn) (s : State) : Host.Outcome State Fault Refusal :=
  onUnit n s.part.ports s (s.answer (s.probeClose n g))

/-- HEAD_BAR_AT_PAGE_END (R341): A head at its usage limit is barred once both rows have decided the page's last image line. -/
def execHeadBarAtPageEnd (n : Nat) (s : State) : Host.Outcome State Fault Refusal :=
  onUnit n s.part.ports s (s.answer (s.barAtPageEnd n))

/-- DCT_PLANE_ARM (R103): A write of ARM in DCT_PLANE_CTL requests loading of the plane's rows. -/
def execDctPlaneArm (m : Master) (p : Nat) (s : State) : Host.Outcome State Fault Refusal :=
  onUnit p 8 s (s.answer (s.writeReg m (R.DCT_PLANE_CTL p) (2 ^ F.DCT_PLANE_CTL_ARM.lo) true))

/-- DCT_PLANE_HALT (R103): A write of HALT in DCT_PLANE_CTL requests clearing RUN on the plane. -/
def execDctPlaneHalt (m : Master) (p : Nat) (s : State) : Host.Outcome State Fault Refusal :=
  onUnit p 8 s (s.answer (s.writeReg m (R.DCT_PLANE_CTL p) (2 ^ F.DCT_PLANE_CTL_HALT.lo) true))

/-- NZP_COMMIT (R193): A write of COMMIT in NZP_PLANE_CTL requests a map commit, or sets PENDING. -/
def execNzpCommit (m : Master) (p : Nat) (s : State) : Host.Outcome State Fault Refusal :=
  onUnit p 8 s (s.answer (s.strobeReg m (R.NZP_PLANE_CTL p) F.NZP_PLANE_CTL_COMMIT))

/-- THERMAL_FE_EXPIRY (R241): A zone's following-error count exceeds TFE_TIME, so the head is blanked. -/
def execThermalFeExpiry (n : Nat) (z : Nat) (s : State) : Host.Outcome State Fault Refusal :=
  onUnit n s.part.ports s (s.answer (s.thermExpiry n z))

/-- THERM_BLK_CLEAR (R241): A clearing write to DCT_THERM_BLK unblocks a head while THERM_OK is 1. -/
def execThermBlkClear (m : Master) (ports : Nat) (s : State) : Host.Outcome State Fault Refusal :=
  s.answer (s.writeReg m R.DCT_THERM_BLK ports true)

/-- DGV_SVC_GO (R314): A write of GO in DGV_SVC starts a service sweep of the port. -/
def execDgvSvcGo (m : Master) (n : Nat) (s : State) : Host.Outcome State Fault Refusal :=
  onUnit n 32 s (s.answer (s.strobeReg m (R.DGV_SVC n) F.DGV_SVC_GO))

end Sys2Proof.Machine
end

