-- ==== Sys2Proof/Machine/MemoryRows.lean ====
section
/-! DEFINITION. Commands of on-chip memory and DRAM. One meaning per row of the opcode table. -/
namespace Sys2Proof.Machine

/-- ALIAS_BIT_SET (R390): A write to the bit-set window ORs data into a word atomically. -/
def execAliasBitSet (m : Nat) (a : Nat) (k : Nat) (data : Nat) (s : State) : Host.Outcome State Fault Refusal :=
  s.answer (s.aliasWrite true m a k data)

/-- ALIAS_BIT_CLEAR (R390): A write to the bit-clear window clears bits of a word atomically. -/
def execAliasBitClear (m : Nat) (a : Nat) (k : Nat) (data : Nat) (s : State) : Host.Outcome State Fault Refusal :=
  s.answer (s.aliasWrite false m a k data)

/-- BAR2_ACCESS (R416): A host access to on-chip memory through BAR2 is region-checked and carried out. -/
def execBar2Access (a : Nat) (k : Nat) (data : Option (List Nat)) (ecc : Option Bool) (s : State) : Host.Outcome State Fault Refusal :=
  s.answer (s.bar2Access a k data ecc)

/-- BAR4_ACCESS (R417): A host access to DRAM through BAR4 is carried out at BASE_GIB. -/
def execBar4Access (off : Nat) (k : Nat) (data : Option (List Nat)) (s : State) : Host.Outcome State Fault Refusal :=
  s.answer (s.bar4 off k data)

/-- SRAM_SCRUB_WINDOW (R400): The scrub engine reads a 4 KiB window of a bank and writes back corrected words. -/
def execSramScrubWindow (b : Nat) (corr : Nat) (uncorr : Option Nat) (s : State) : Host.Outcome State Fault Refusal :=
  onUnit b 6 s (s.answer (s.sramScrub b corr uncorr))

/-- DRAM_SCRUB (R401): The DRAM controller scrubs DRAM words at its configured rate. -/
def execDramScrub (corr : Nat) (uncorr : Option Nat) (s : State) : Host.Outcome State Fault Refusal :=
  s.answer (s.dramScrub corr uncorr)

/-- BIST_WINDOW (R402): The BIST engine copies, march-tests and restores one 4 KiB window. -/
def execBistWindow (fail : Bool) (aborted : Bool) (at_ : Nat) (s : State) : Host.Outcome State Fault Refusal :=
  s.answer ((s.advTo at_).bistWindow fail aborted)

/-- MEM_BIST_GO (R410): A write of GO in MEM_BIST_CTL starts a memory BIST run. -/
def execMemBistGo (m : Master) (sel : Nat) (s : State) : Host.Outcome State Fault Refusal :=
  s.answer (s.writeReg m R.MEM_BIST_CTL (sel + 2 ^ F.MEM_BIST_CTL_GO.lo) true)

/-- MEM_BIST_ABORT (R410): A write of ABORT ends the run after restoring the borrowed window. -/
def execMemBistAbort (m : Master) (s : State) : Host.Outcome State Fault Refusal :=
  s.answer (s.strobeReg m R.MEM_BIST_CTL F.MEM_BIST_CTL_ABORT)

/-- RETENTION_ENTER (R396): Setting a retention bit in MEM_RET places a bank in retention. -/
def execRetentionEnter (m : Master) (banks : Nat) (s : State) : Host.Outcome State Fault Refusal :=
  s.answer (s.writeReg m R.MEM_RET (s.getN R.MEM_RET % 32 ||| banks % 16) true)

/-- RETENTION_WAKE (R397): Clearing a retention bit starts the bank's wake. -/
def execRetentionWake (m : Master) (banks : Nat) (s : State) : Host.Outcome State Fault Refusal :=
  s.answer (s.writeReg m R.MEM_RET (s.getN R.MEM_RET % 32 - (s.getN R.MEM_RET % 32 &&& banks % 16)) true)

/-- BANK_AWAKE (R397): 20 us after the wake the bank is accessible and AWAKE reads 1. -/
def execBankAwake (j : Nat) (s : State) : Host.Outcome State Fault Refusal :=
  s.answer (s.bankAwake j)

/-- L_OFF_SET (R398): Setting L_OFF powers Bank L off. -/
def execLOffSet (m : Master) (s : State) : Host.Outcome State Fault Refusal :=
  s.answer (s.writeReg m R.MEM_RET (s.getN R.MEM_RET % 16 + 16) true)

/-- L_OFF_CLEAR (R398): Clearing L_OFF powers Bank L up and starts its initialisation. -/
def execLOffClear (m : Master) (s : State) : Host.Outcome State Fault Refusal :=
  s.answer (s.writeReg m R.MEM_RET (s.getN R.MEM_RET % 16) true)

/-- L_INIT_DONE (R398): Bank L initialisation completes and L_INIT clears. -/
def execLInitDone (s : State) : Host.Outcome State Fault Refusal :=
  s.answer s.lInitDone

end Sys2Proof.Machine
end

