-- ==== Sys2Proof/Machine/PortRows.lean ====
section
/-! DEFINITION. Commands of the head ports. One meaning per row of the opcode table. -/
namespace Sys2Proof.Machine

/-- HEAD_DETECT (R257): In DETECT a Type S head acknowledges 0x50, or a Type L back-channel packet arrives. -/
def execHeadDetect (n : Nat) (s : State) : Host.Outcome State Fault Refusal :=
  onUnit n s.part.ports s (s.answer (s.headDetect n))

/-- DETECT_TIMEOUT (R257): Ten ms spent in DETECT count one failed DETECT attempt. -/
def execDetectTimeout (n : Nat) (s : State) : Host.Outcome State Fault Refusal :=
  onUnit n s.part.ports s (s.answer (s.detectTimeout n))

/-- LINK_TIMEOUT (R257): No lane lock within 10 ms in LINK, so LINK_FAIL increments and the port returns to DETECT after 100 ms. -/
def execLinkTimeout (n : Nat) (s : State) : Host.Outcome State Fault Refusal :=
  onUnit n s.part.ports s (s.answer (s.linkTimeout n))

/-- RECORD_READ_DONE (R329): The head record transfer ends and is checked and authenticated, or retried. -/
def execRecordReadDone (n : Nat) (data : Option RecordIn) (s : State) : Host.Outcome State Fault Refusal :=
  onUnit n s.part.ports s (s.answer (s.recordDone n data))

/-- HEAD_LOSS_TIMEOUT (R277): No valid back-channel packet for 1 ms, so the Type L head is LOST. -/
def execHeadLossTimeout (n : Nat) (s : State) : Host.Outcome State Fault Refusal :=
  onUnit n s.part.ports s (s.answer (s.headLossTimeout n))

/-- TYPE_S_POLL (R277): The 100 ms poll of address 0x50 runs, and three failures mark the head LOST. -/
def execTypeSPoll (n : Nat) (ack : Bool) (s : State) : Host.Outcome State Fault Refusal :=
  onUnit n s.part.ports s (s.answer (s.typeSPoll n ack))

/-- HP_RESTART (R286): A write of RESTART moves a LOST port to DETECT. -/
def execHpRestart (m : Master) (n : Nat) (s : State) : Host.Outcome State Fault Refusal :=
  onUnit n 32 s (s.answer (s.strobeReg m (R.HP_CFG n) F.HP_CFG_RESTART))

/-- BC_ACK (R272): An ACK packet is matched by PCNT to a line or a trim frame, or counted unmatched. -/
def execBcAck (n : Nat) (pkt : List Nat) (s : State) : Host.Outcome State Fault Refusal :=
  onUnit n s.part.ports s (s.answer (s.bcReceive n pkt))

/-- BC_NAK (R272): A NAK packet makes its line not delivered HEAD_NAK, or marks its trim frame for resend. -/
def execBcNak (n : Nat) (pkt : List Nat) (s : State) : Host.Outcome State Fault Refusal :=
  onUnit n s.part.ports s (s.answer (s.bcReceive n pkt))

/-- BC_TEMP (R275): A TEMP packet updates the port's zone readings. -/
def execBcTemp (n : Nat) (pkt : List Nat) (s : State) : Host.Outcome State Fault Refusal :=
  onUnit n s.part.ports s (s.answer (s.bcReceive n pkt))

/-- BC_MGMT (R328): A MGMT packet answers a management read or write. -/
def execBcMgmt (n : Nat) (pkt : List Nat) (s : State) : Host.Outcome State Fault Refusal :=
  onUnit n s.part.ports s (s.answer (s.bcReceive n pkt))

/-- BC_LINK (R270): A LINK packet reports lane lock, completing LINK or marking the head lost. -/
def execBcLink (n : Nat) (pkt : List Nat) (s : State) : Host.Outcome State Fault Refusal :=
  onUnit n s.part.ports s (s.answer (s.bcReceive n pkt))

/-- TYPE_S_TEMP_MEASURE (R276): Every 100 us a Type S zone's diode is measured and its reading is updated. -/
def execTypeSTempMeasure (n : Nat) (dv : Int) (s : State) : Host.Outcome State Fault Refusal :=
  onUnit n s.part.ports s (s.answer (s.typeSTemp n dv))

/-- TRIM_GO (R273): A write of GO in HP_TRIM_CTL starts sending a trim set to the head. -/
def execTrimGo (m : Master) (n : Nat) (s : State) : Host.Outcome State Fault Refusal :=
  onUnit n 32 s (s.answer (s.strobeReg m (R.HP_TRIM_CTL n) F.HP_TRIM_CTL_GO))

/-- TRIM_FRAME_TIMEOUT (R273): A trim frame has no ACK within 10 us and is resent, or the set fails. -/
def execTrimFrameTimeout (n : Nat) (lane : Nat) (sq : Nat) (s : State) : Host.Outcome State Fault Refusal :=
  onUnit n s.part.ports s (s.answer (s.trimTimeout n lane sq))

/-- HP_WDOG_CLEAR (R292): Clearing every trip bit after a passed self-test returns the port to ATTACHED. -/
def execHpWdogClear (m : Master) (n : Nat) (bits_ : Nat) (s : State) : Host.Outcome State Fault Refusal :=
  onUnit n 32 s (s.answer (s.writeReg m (R.HP_WDOG n) bits_ true))

/-- STROBE_SELF_TEST (R280): A write of SELFTEST runs the strobe self-test of the port. -/
def execStrobeSelfTest (m : Master) (n : Nat) (pass : Bool) (s : State) : Host.Outcome State Fault Refusal :=
  onUnit n 32 s (s.answer (s.byMaster m (R.HP_WDOG n) (fun s => s.selfTest n pass)))

/-- USAGE_WRITE_BACK (R335): Unwritten drops reach 2^24, so a usage trailer write-back starts. -/
def execUsageWriteBack (n : Nat) (trailer : Option (List Nat)) (s : State) : Host.Outcome State Fault Refusal :=
  onUnit n s.part.ports s (s.answer (s.usageWriteBack n trailer))

/-- WRITE_BACK_DONE (R336): A trailer write and read-back ends and is verified, repeated, or marked WB_FAIL. -/
def execWriteBackDone (n : Nat) (readBack : Option (List Nat)) (s : State) : Host.Outcome State Fault Refusal :=
  onUnit n s.part.ports s (s.answer (s.writeBackDone n readBack))

/-- DETECT_RETURN (R257): The 100 ms wait after a failed LINK or three failed RECORD reads ends and the port returns to DETECT. -/
def execDetectReturn (n : Nat) (s : State) : Host.Outcome State Fault Refusal :=
  onUnit n s.part.ports s (s.answer (s.detectReturn n))

end Sys2Proof.Machine
end

