-- ==== Sys2Proof/Machine/PowerRows.lean ====
section
/-! DEFINITION. Commands of the supplies, the resets, PARK and IDLE, and the fault stops. One meaning per row of the opcode table. -/
namespace Sys2Proof.Machine

/-- VMAIN_GOOD (R597): VMAIN has stayed above 10.8 V for 2 ms, so the start-up timeline begins. -/
def execVmainGood (s : State) : Host.Outcome State Fault Refusal :=
  s.answer s.vmainGood

/-- UNDER_VOLTAGE_LOCKOUT (R509): VMAIN, or VBKP while on backup, stays below its lockout level for 10 us, so the device resets and outputs take their reset states. -/
def execUnderVoltageLockout (s : State) : Host.Outcome State Fault Refusal :=
  s.answer (s.deviceReset false)

/-- SWITCHOVER (R512): VMAIN stays below 10.2 V for 2 us, so the rails move to VBKP, SWITCHOVER is raised and PARK is triggered. -/
def execSwitchover (vmain : Nat) (vbkp : Nat) (s : State) : Host.Outcome State Fault Refusal :=
  s.answer (s.switchover vmain vbkp)

/-- RETURN_MAIN (R514): VMAIN has stayed above 10.8 V for 50 ms while on VBKP, so the rails return to VMAIN and RETURN_MAIN is raised. -/
def execReturnMain (s : State) : Host.Outcome State Fault Refusal :=
  s.answer s.returnMain

/-- PARK_N_ASSERTED (R515): PARK_N has been held asserted for 10 us, so PARK is triggered. -/
def execParkNAsserted (s : State) : Host.Outcome State Fault Refusal :=
  s.answer (s.parkN true)

/-- SYS_RST_N (R602): SYS_RST_N held low for 1 us resets the device, cuts pulses and drives outputs to their reset states. -/
def execSysRstN (s : State) : Host.Outcome State Fault Refusal :=
  s.answer (s.deviceReset s.pw.good)

/-- OVER_TEMPERATURE_RESET (R608): The junction stays above 125 C for 1 ms, so the device resets. -/
def execOverTemperatureReset (s : State) : Host.Outcome State Fault Refusal :=
  s.answer (s.deviceReset s.pw.good)

/-- FUNCTION_LEVEL_RESET (R420): An FLR, conventional PCIe reset or link-down resets configuration space, queue pairs, the Z1 window, DIAG sessions and SYS_HOST_AP. -/
def execFunctionLevelReset (down : Bool) (s : State) : Host.Outcome State Fault Refusal :=
  s.answer (s.flr down)

/-- PARK_SEQUENCE_START (R516): At T_P the PARK sequence begins: admission stops, PRINT_PERMIT is withdrawn, waiting commands fail and the park marker is written. -/
def execParkSequenceStart (s : State) : Host.Outcome State Fault Refusal :=
  s.answer s.parkStart

/-- PARK_HORIZON (R126): At T_P + 24,000 DT the head drop counts close, FIRE_EN is driven inactive, CAP_REQ is asserted and the usage write-backs start. -/
def execParkHorizon (s : State) : Host.Outcome State Fault Refusal :=
  s.answer s.parkHorizon

/-- PARK_DONE (R516): After the Blotter flush and DRAM self-refresh, PARK_DONE is raised, the marker is cleared and the device enters the parked state. -/
def execParkDone (s : State) : Host.Outcome State Fault Refusal :=
  s.answer s.parkDone

/-- IDLE_DELAY_EXPIRY (R37): The POWER_POLICY idle delay passes with no command or no open job, so the device enters IDLE. -/
def execIdleDelayExpiry (s : State) : Host.Outcome State Fault Refusal :=
  s.answer s.idleDelay

/-- SERVICE_WORK_COMPLETE (R40): No spit or sweep has run for the idle delay, so SERVICE returns to CONFIG. -/
def execServiceWorkComplete (s : State) : Host.Outcome State Fault Refusal :=
  s.answer s.serviceComplete

/-- IDLE_SELECT (R526): Quill firmware selects the Idle sub-state on entry, on a change of known events and every 100 ms. -/
def execIdleSelect (service : Option Nat) (s : State) : Host.Outcome State Fault Refusal :=
  s.answer (s.idleSelect service)

/-- IDLE_WAKE_START (R527): At T_wake, or on a wake request, the wake of the present sub-state begins. -/
def execIdleWakeStart (s : State) : Host.Outcome State Fault Refusal :=
  s.answer s.idleWakeStart

/-- IDLE_WAKE_DONE (R37): The exit latency ends, heads are re-attached where needed, and the new mode is reported. -/
def execIdleWakeDone (s : State) : Host.Outcome State Fault Refusal :=
  s.answer s.idleWakeDone

/-- QUILL_WATCHDOG_EXPIRY (R33): The Quill watchdog expires and a fault stop follows. -/
def execQuillWatchdogExpiry (s : State) : Host.Outcome State Fault Refusal :=
  s.answer s.faultStop

/-- LOOP_PARITY_ERROR (R33): An internal parity error in the loop engine or the strobe generators causes a fault stop. -/
def execLoopParityError (s : State) : Host.Outcome State Fault Refusal :=
  s.answer s.faultStop

/-- PARK_N_RELEASE (R515): PARK_N is released, so PWR_STAT PARK_N clears and the PARK exit condition of R37 can be met. -/
def execParkNRelease (s : State) : Host.Outcome State Fault Refusal :=
  s.answer (s.parkN false)

/-- RET_QUAL (R514): While on VBKP, VMAIN rises above 10.8 V and starts the 50 ms return count, or falls to 10.8 V or below and restarts it. -/
def execRetQual (up : Bool) (s : State) : Host.Outcome State Fault Refusal :=
  s.answer (s.retQual up)

/-- BKP_OK_CHANGE (R511): VBKP crosses BKP_MIN, so BKP_OK in PWR_STAT sets or clears. -/
def execBkpOkChange (vbkp : Nat) (s : State) : Host.Outcome State Fault Refusal :=
  s.answer (s.bkpChange vbkp)

/-- PARK_EXIT (R518): Leaving PARK completes: DRAM is out of self-refresh, banks are awake, enumeration restarts, CONFIG is reported and CAP_REQ is released. -/
def execParkExit (s : State) : Host.Outcome State Fault Refusal :=
  s.answer s.parkExit

/-- PERST_RELEASE (R535): PERST# is released, so PCIe link training starts at the later of this instant and 20 ms. -/
def execPerstRelease (s : State) : Host.Outcome State Fault Refusal :=
  s.answer ({ s with perst := true })

/-- PCIE_LINK_UP (R413): PCIe link training completes and the Data Link Layer comes up. -/
def execPcieLinkUp (s : State) : Host.Outcome State Fault Refusal :=
  s.answer s.pcieUp

end Sys2Proof.Machine
end

