-- ==== Sys2Proof/Machine/StartRows.lean ====
section
/-! DEFINITION. Commands of start-up. One meaning per row of the opcode table. -/
namespace Sys2Proof.Machine

/-- CONTROLLER_RESET_RELEASE (R535): The internal rails are in tolerance and the controller die leaves reset (stage 1). -/
def execControllerResetRelease (s : State) : Host.Outcome State Fault Refusal :=
  s.answer s.ctlRelease

/-- OTP_START_READ (R549): At stage 2 every OTP word is read four times and resolved, repairs are applied, and policy, port map and trims are latched. -/
def execOtpStartRead (reads : List OtpRead) (s : State) : Host.Outcome State Fault Refusal :=
  s.answerOtp (s.otpStage reads) (if s.stage = 1 then otpRawRead s.otp.raw reads else s.otp.raw)

/-- OTP_DIGEST_CHECK (R555): At stage 3 the digest of each region is checked, setting LIMITED, untrusted keys or default policy on failure. -/
def execOtpDigestCheck (s : State) : Host.Outcome State Fault Refusal :=
  s.answer s.digestStage

/-- START_CALIBRATION_DONE (R544): The start-up calibration items complete, so encoder inputs are accepted and failing items hold units OFF. -/
def execStartCalibrationDone (found : CalIn) (s : State) : Host.Outcome State Fault Refusal :=
  s.answer (s.startCal found)

/-- FIRMWARE_VERIFY (R541): The boot ROM verifies the firmware slots, falls back or sets NO_FW, and starts Quill at ENTRY. -/
def execFirmwareVerify (s : State) : Host.Outcome State Fault Refusal :=
  s.answer s.fwVerify

/-- READY (R535): Quill firmware reports READY: mailbox service starts, latched doorbells are served and ports with TYPE set are enabled. -/
def execReady (s : State) : Host.Outcome State Fault Refusal :=
  s.answer s.readyNow

/-- ENUMERATION_COMPLETE (R536): Every enabled port has reached PRESENT or failed once, or 400 ms have passed, so the device enters CONFIG. -/
def execEnumerationComplete (s : State) : Host.Outcome State Fault Refusal :=
  s.answer s.enumDone

end Sys2Proof.Machine
end

