-- ==== Sys2Proof/Machine/TickRows.lean ====
section
/-! DEFINITION. Commands of the control tick and of admission. One meaning per row of the opcode table. -/
namespace Sys2Proof.Machine

/-- CONTROL_TICK (R25): At each tick boundary the loop engine runs its work list: observers, Ruling and Ductus, PI updates and supervision. -/
def execControlTick (t : TickIn) (s : State) : Host.Outcome State Fault Refusal :=
  s.answer ((s.controlTick t).goOn.tickDone t.done)

/-- TICK_OVERRUN (R29): The work list is not complete at 6,400 DT, so admission stops and TICK_OVERRUN is raised. -/
def execTickOverrun (s : State) : Host.Outcome State Fault Refusal :=
  s.answer s.tickOverrun

/-- SPEED_SQUASH (R229): At T_k + 6,400 the observed period differs from P_spec beyond SQ_TOL and the row is squashed. -/
def execSpeedSquash (i : Nat) (s : State) : Host.Outcome State Fault Refusal :=
  onUnit i s.nRows s (s.answer (s.speedTest i))

/-- SHARE_OK_SET (R112): The line period has stayed above the set threshold for SET_HOLD ticks, so SHARE_OK sets. -/
def execShareOkSet (i : Nat) (s : State) : Host.Outcome State Fault Refusal :=
  onUnit i s.nRows s (s.answer (s.shareSet i))

/-- ADMIT_STOP_CLEAR (R31): Quill firmware clears a cause bit of SYS_ADMIT_STOP, reopening admission when all are clear. -/
def execAdmitStopClear (causes : Nat) (s : State) : Host.Outcome State Fault Refusal :=
  s.answer (s.admitStopClear causes)

end Sys2Proof.Machine
end

