-- ==== Sys2Proof/Machine/ZieloRows.lean ====
section
/-! DEFINITION. The Zielo commands at the front of a queue pair (R447 to R452). One meaning per row of the opcode table. -/
namespace Sys2Proof.Machine

/-- GET_INFO (R453): Returns part, stepping, fuses and identity. -/
def execGetInfo (q : Nat) (s : State) : Host.Outcome State Fault Refusal :=
  onUnit q 32 s (s.answer (s.take q 0x01 (fun s c => s.gate q c modesAll 0 (fun s => s.getInfo q c))))

/-- SET_MODE (R454): Requests a mode change under R37. -/
def execSetMode (q : Nat) (s : State) : Host.Outcome State Fault Refusal :=
  onUnit q 32 s (s.answer (s.take q 0x02 (fun s c => s.setMode q c)))

/-- GET_STATUS (R455): Returns status of the device, a plane or a port. -/
def execGetStatus (q : Nat) (s : State) : Host.Outcome State Fault Refusal :=
  onUnit q 32 s (s.answer (s.take q 0x03 (fun s c => s.gate q c modesAll 20 (fun s => s.getStatus q c))))

/-- PLANE_DEFINE (R456): Defines, redefines or deletes a plane. -/
def execPlaneDefine (q : Nat) (s : State) : Host.Outcome State Fault Refusal :=
  onUnit q 32 s (s.answer (s.take q 0x10 (fun s c => s.gate q c [.config] 16 (fun s => s.planeDefine q c))))

/-- HEAD_ATTACH (R457): Attaches a head from its record, or detaches it with a final write-back. -/
def execHeadAttach (q : Nat) (s : State) : Host.Outcome State Fault Refusal :=
  onUnit q 32 s (s.answer (s.take q 0x11 (fun s c => s.gate q c [.config] 44 (fun s => s.headAttach q c))))

/-- RULING_SET (R458): Sets encoder, head-row ruling or TMIN parameters. -/
def execRulingSet (q : Nat) (s : State) : Host.Outcome State Fault Refusal :=
  onUnit q 32 s (s.answer (s.take q 0x12 (fun s c => s.gate q c modesCPSI 1 (fun s => s.rulingSet q c))))

/-- SCREEN_LOAD (R459): Loads a threshold array slot, or selects a plane's slot and offsets. -/
def execScreenLoad (q : Nat) (data : Option (List Nat)) (s : State) : Host.Outcome State Fault Refusal :=
  onUnit q 32 s (s.answer (s.take q 0x13 (fun s c => s.gate q c modesCPSI 1 (fun s => s.screenLoad q c data))))

/-- TRC_LOAD (R460): Loads tone curves into Bank S. -/
def execTrcLoad (q : Nat) (data : Option (List Nat)) (s : State) : Host.Outcome State Fault Refusal :=
  onUnit q 32 s (s.answer (s.take q 0x14 (fun s c => s.gate q c modesCPSI 16 (fun s => s.trcLoad q c data))))

/-- JOB_OPEN (R461): Opens a stream, stored or replay job on a plane. -/
def execJobOpen (q : Nat) (alloc : Option (Nat × Nat)) (s : State) : Host.Outcome State Fault Refusal :=
  onUnit q 32 s
    (s.answer (if s.mode = .idle ∧ s.cmdMode ≠ .park then s.wakeFor q 0x20
    else s.take q 0x20 (fun s c => s.gate q c [.config, .print, .idle] 36 (fun s => s.jobOpen q c alloc))))

/-- JOB_APPEND (R462): Appends a strip of image lines and completes on commit or failure. -/
def execJobAppend (q : Nat) (table : Option (List Nat)) (desc : Nat) (s : State) : Host.Outcome State Fault Refusal :=
  onUnit q 32 s (s.answer (s.take q 0x21 (fun s c => s.gate q c [.config, .print] 32 (fun s => s.jobAppend q c table desc))))

/-- JOB_CLOSE (R463): Closes a plane's job and reports END. -/
def execJobClose (q : Nat) (s : State) : Host.Outcome State Fault Refusal :=
  onUnit q 32 s (s.answer (s.take q 0x22 (fun s c => s.gate q c [.config, .print, .idle] 1 (fun s => s.jobClose q c))))

/-- JOB_ABORT (R463): Aborts a plane's job, or frees a stored job. -/
def execJobAbort (q : Nat) (s : State) : Host.Outcome State Fault Refusal :=
  onUnit q 32 s (s.answer (s.take q 0x23 (fun s c => s.gate q c modesCPSI 3 (fun s => s.jobAbortCmd q c))))

/-- MASK_SET (R464): Forces, unforces or releases nozzle masks and commits. -/
def execMaskSet (q : Nat) (s : State) : Host.Outcome State Fault Refusal :=
  onUnit q 32 s (s.answer (s.take q 0x30 (fun s c => s.gate q c modesCPSI 4 (fun s => s.maskSet q c))))

/-- TRIM_SET (R465): Writes trim classes, releases them, or sets strobe or class widths. -/
def execTrimSet (q : Nat) (s : State) : Host.Outcome State Fault Refusal :=
  onUnit q 32 s (s.answer (s.take q 0x31 (fun s c => s.gate q c [.config, .print, .service] 2 (fun s => s.trimSet q c))))

/-- SUBST_POLICY (R466): Sets a head's substitution policy and commits. -/
def execSubstPolicy (q : Nat) (s : State) : Host.Outcome State Fault Refusal :=
  onUnit q 32 s (s.answer (s.take q 0x32 (fun s c => s.gate q c modesCPSI 8 (fun s => s.substPolicy q c))))

/-- SERVICE_SPIT (R467): Spits the selected ports' nozzles COUNT times. -/
def execServiceSpit (q : Nat) (s : State) : Host.Outcome State Fault Refusal :=
  onUnit q 32 s (s.answer (s.take q 0x40 (fun s c => s.gate q c [.service] 10 (fun s => s.serviceSpit q c))))

/-- VERIFY_SWEEP (R468): Runs a sweep, clears MASK_DGV bits, writes gate policy or reports records. -/
def execVerifySweep (q : Nat) (s : State) : Host.Outcome State Fault Refusal :=
  onUnit q 32 s (s.answer (s.take q 0x41 (fun s c => s.gate q c modesCPSI 8 (fun s => s.verifySweep q c))))

/-- CAL_RUN (R469): Calibrates the selected idle units and defers the rest. -/
def execCalRun (q : Nat) (s : State) : Host.Outcome State Fault Refusal :=
  onUnit q 32 s (s.answer (s.take q 0x50 (fun s c => s.gate q c modesCPSI 5 (fun s => s.calRun q c))))

/-- BIST_RUN (R470): Reports, starts a memory BIST run, or runs logic BIST. -/
def execBistRun (q : Nat) (s : State) : Host.Outcome State Fault Refusal :=
  onUnit q 32 s (s.answer (s.take q 0x51 (fun s c => s.gate q c modesCPSI 2 (fun s => s.bistRun q c))))

/-- POWER_POLICY (R471): Sets the idle delay, sub-state limits and setpoints. -/
def execPowerPolicy (q : Nat) (s : State) : Host.Outcome State Fault Refusal :=
  onUnit q 32 s (s.answer (s.take q 0x60 (fun s c => s.gate q c modesCPSI 10 (fun s => s.powerPolicy q c))))

/-- NEXT_EVENT_HINT (R472): Sets or clears the time of the next known event. -/
def execNextEventHint (q : Nat) (service : Option Nat) (s : State) : Host.Outcome State Fault Refusal :=
  onUnit q 32 s (s.answer (s.take q 0x61 (fun s c => s.gate q c modesCPSI 8 (fun s => s.nextHint q c service))))

/-- BLOTTER_READ (R473): Copies a consistent range of Bank B to the host. -/
def execBlotterRead (q : Nat) (ecc : EccIn) (s : State) : Host.Outcome State Fault Refusal :=
  onUnit q 32 s (s.answer (s.take q 0x70 (fun s c => s.gate q c modesAll 16 (fun s => s.blotterRead q c ecc))))

/-- EVENT_READ (R474): Removes or peeks the oldest events into a host buffer. -/
def execEventRead (q : Nat) (s : State) : Host.Outcome State Fault Refusal :=
  onUnit q 32 s (s.answer (s.take q 0x71 (fun s c => s.gate q c modesAll 16 (fun s => s.eventRead q c))))

/-- OTP_READ (R475): Returns resolved OTP words with margin flags. -/
def execOtpRead (q : Nat) (s : State) : Host.Outcome State Fault Refusal :=
  onUnit q 32 s (s.answer (s.take q 0x80 (fun s c => s.gate q c modesAll 4 (fun s => s.otpReadCmd q c))))

/-- OTP_PROGRAM (R476): Burns and strictly verifies one OTP word. -/
def execOtpProgram (q : Nat) (s : State) : Host.Outcome State Fault Refusal :=
  onUnit q 32 s (s.answer (s.take q 0x81 (fun s c => s.gate q c [.config] 16 (fun s => s.otpProgram q c))))

/-- OTP_LOCK (R477): Seals an OTP region with its digest and lock words. -/
def execOtpLock (q : Nat) (s : State) : Host.Outcome State Fault Refusal :=
  onUnit q 32 s (s.answer (s.take q 0x82 (fun s c => s.gate q c [.config] 2 (fun s => s.otpLockCmd q c))))

/-- DIAG_UNLOCK (R478): Opens, renews or closes a diagnostic session. -/
def execDiagUnlock (q : Nat) (s : State) : Host.Outcome State Fault Refusal :=
  onUnit q 32 s (s.answer (s.take q 0x90 (fun s c => s.gate q c modesCPSI 4 (fun s => s.diagUnlock q c))))

/-- FAULT_INJECT (R479): Arms or disarms a fault-injection slot. -/
def execFaultInject (q : Nat) (s : State) : Host.Outcome State Fault Refusal :=
  onUnit q 32 s (s.answer (s.take q 0x91 (fun s c => s.gate q c modesCPSI 20 (fun s => s.faultInject q c))))

/-- CHAIN_CONFIG (R480): Joins or leaves the Mboca chain. -/
def execChainConfig (q : Nat) (s : State) : Host.Outcome State Fault Refusal :=
  onUnit q 32 s (s.answer (s.take q 0xA0 (fun s c => s.gate q c [.config] 6 (fun s => s.chainConfig q c))))

/-- FW_UPDATE (R481): Verifies a signed firmware image and writes it to the spare flash slot. -/
def execFwUpdate (q : Nat) (data : Option (List Nat)) (s : State) : Host.Outcome State Fault Refusal :=
  onUnit q 32 s
    (s.answerFlash (s.take q 0xF0 (fun s c => s.gate q c [.config, .idle] 12 (fun s => s.fwUpdate q c data))) (s.flashAfter q data))

end Sys2Proof.Machine
end

