-- ==== Sys2Proof/Machine/Dispatch.lean ====
section
/-! DEFINITION. The meaning of every command: one arm per constructor. -/

namespace Sys2Proof.Machine

/-- The effect of a command on everything but the queue. -/
def exec (i : Instr) (s : State) : Host.Outcome State Fault Refusal :=
  match i with
  | .vmainGood => Sys2Proof.Machine.execVmainGood s
  | .underVoltageLockout => Sys2Proof.Machine.execUnderVoltageLockout s
  | .switchover vmain vbkp => Sys2Proof.Machine.execSwitchover vmain vbkp s
  | .returnMain => Sys2Proof.Machine.execReturnMain s
  | .parkNAsserted => Sys2Proof.Machine.execParkNAsserted s
  | .sysRstN => Sys2Proof.Machine.execSysRstN s
  | .overTemperatureReset => Sys2Proof.Machine.execOverTemperatureReset s
  | .functionLevelReset down => Sys2Proof.Machine.execFunctionLevelReset down s
  | .parkSequenceStart => Sys2Proof.Machine.execParkSequenceStart s
  | .parkHorizon => Sys2Proof.Machine.execParkHorizon s
  | .parkDone => Sys2Proof.Machine.execParkDone s
  | .controllerResetRelease => Sys2Proof.Machine.execControllerResetRelease s
  | .otpStartRead reads => Sys2Proof.Machine.execOtpStartRead reads s
  | .otpDigestCheck => Sys2Proof.Machine.execOtpDigestCheck s
  | .startCalibrationDone found => Sys2Proof.Machine.execStartCalibrationDone found s
  | .firmwareVerify => Sys2Proof.Machine.execFirmwareVerify s
  | .ready => Sys2Proof.Machine.execReady s
  | .enumerationComplete => Sys2Proof.Machine.execEnumerationComplete s
  | .idleDelayExpiry => Sys2Proof.Machine.execIdleDelayExpiry s
  | .serviceWorkComplete => Sys2Proof.Machine.execServiceWorkComplete s
  | .idleSelect service => Sys2Proof.Machine.execIdleSelect service s
  | .idleWakeStart => Sys2Proof.Machine.execIdleWakeStart s
  | .idleWakeDone => Sys2Proof.Machine.execIdleWakeDone s
  | .quillWatchdogExpiry => Sys2Proof.Machine.execQuillWatchdogExpiry s
  | .loopParityError => Sys2Proof.Machine.execLoopParityError s
  | .controlTick t => Sys2Proof.Machine.execControlTick t s
  | .tickOverrun => Sys2Proof.Machine.execTickOverrun s
  | .speedSquash row => Sys2Proof.Machine.execSpeedSquash row s
  | .shareOkSet row => Sys2Proof.Machine.execShareOkSet row s
  | .encLoss k => Sys2Proof.Machine.execEncLoss k s
  | .encFreeze k => Sys2Proof.Machine.execEncFreeze k s
  | .encRecovery k => Sys2Proof.Machine.execEncRecovery k s
  | .trackFault k => Sys2Proof.Machine.execTrackFault k s
  | .encFaultRecovery k => Sys2Proof.Machine.execEncFaultRecovery k s
  | .encQualified k => Sys2Proof.Machine.execEncQualified k s
  | .encQualifyTimeout k => Sys2Proof.Machine.execEncQualifyTimeout k s
  | .absRead k r => Sys2Proof.Machine.execAbsRead k r s
  | .absTimeout k => Sys2Proof.Machine.execAbsTimeout k s
  | .absCheck k => Sys2Proof.Machine.execAbsCheck k s
  | .indexEdge k row => Sys2Proof.Machine.execIndexEdge k row s
  | .reversedClear k => Sys2Proof.Machine.execReversedClear k s
  | .encAcq m k => Sys2Proof.Machine.execEncAcq m k s
  | .encModeOff m k => Sys2Proof.Machine.execEncModeOff m k s
  | .lockPoint row ecc => Sys2Proof.Machine.execLockPoint row ecc s
  | .lineTransferStart row => Sys2Proof.Machine.execLineTransferStart row s
  | .typeSLatch row => Sys2Proof.Machine.execTypeSLatch row s
  | .strobeFire row => Sys2Proof.Machine.execStrobeFire row s
  | .ackDeadline row => Sys2Proof.Machine.execAckDeadline row s
  | .oneShotTrip n pin => Sys2Proof.Machine.execOneShotTrip n pin s
  | .cursorLineCompute row bad ecc => Sys2Proof.Machine.execCursorLineCompute row bad ecc s
  | .mapCommitAccept p => Sys2Proof.Machine.execMapCommitAccept p s
  | .probeWindowClose n g => Sys2Proof.Machine.execProbeWindowClose n g s
  | .headBarAtPageEnd n => Sys2Proof.Machine.execHeadBarAtPageEnd n s
  | .screenLine p corr bad => Sys2Proof.Machine.execScreenLine p corr bad s
  | .scrCommit m p => Sys2Proof.Machine.execScrCommit m p s
  | .scrPause m p on => Sys2Proof.Machine.execScrPause m p on s
  | .scrReset m p => Sys2Proof.Machine.execScrReset m p s
  | .scrStripPush m p count => Sys2Proof.Machine.execScrStripPush m p count s
  | .scrStallClear m p => Sys2Proof.Machine.execScrStallClear m p s
  | .jobRunning p => Sys2Proof.Machine.execJobRunning p s
  | .jobArmDelayExpiry p => Sys2Proof.Machine.execJobArmDelayExpiry p s
  | .jobEnd p => Sys2Proof.Machine.execJobEnd p s
  | .dctPlaneArm m p => Sys2Proof.Machine.execDctPlaneArm m p s
  | .dctPlaneHalt m p => Sys2Proof.Machine.execDctPlaneHalt m p s
  | .nzpCommit m p => Sys2Proof.Machine.execNzpCommit m p s
  | .dmaChStart m c => Sys2Proof.Machine.execDmaChStart m c s
  | .dmaDoorbell m c limit => Sys2Proof.Machine.execDmaDoorbell m c limit s
  | .dmaDescriptorFetch c host src dst req => Sys2Proof.Machine.execDmaDescriptorFetch c host src dst req s
  | .dmaDescriptorComplete c r => Sys2Proof.Machine.execDmaDescriptorComplete c r s
  | .dmaBusErr c cause addr => Sys2Proof.Machine.execDmaBusErr c cause addr s
  | .dmaReadTimeout c addr => Sys2Proof.Machine.execDmaReadTimeout c addr s
  | .dmaDisable m c => Sys2Proof.Machine.execDmaDisable m c s
  | .dmaDrainEnd c => Sys2Proof.Machine.execDmaDrainEnd c s
  | .dmaEnable m c => Sys2Proof.Machine.execDmaEnable m c s
  | .dmaGhaltClear m => Sys2Proof.Machine.execDmaGhaltClear m s
  | .aliasBitSet m a k data => Sys2Proof.Machine.execAliasBitSet m a k data s
  | .aliasBitClear m a k data => Sys2Proof.Machine.execAliasBitClear m a k data s
  | .bar2Access a k data ecc => Sys2Proof.Machine.execBar2Access a k data ecc s
  | .bar4Access off k data => Sys2Proof.Machine.execBar4Access off k data s
  | .sramScrubWindow b corr uncorr => Sys2Proof.Machine.execSramScrubWindow b corr uncorr s
  | .dramScrub corr uncorr => Sys2Proof.Machine.execDramScrub corr uncorr s
  | .bistWindow fail aborted at_ => Sys2Proof.Machine.execBistWindow fail aborted at_ s
  | .memBistGo m sel => Sys2Proof.Machine.execMemBistGo m sel s
  | .memBistAbort m => Sys2Proof.Machine.execMemBistAbort m s
  | .retentionEnter m banks => Sys2Proof.Machine.execRetentionEnter m banks s
  | .retentionWake m banks => Sys2Proof.Machine.execRetentionWake m banks s
  | .bankAwake j => Sys2Proof.Machine.execBankAwake j s
  | .lOffSet m => Sys2Proof.Machine.execLOffSet m s
  | .lOffClear m => Sys2Proof.Machine.execLOffClear m s
  | .lInitDone => Sys2Proof.Machine.execLInitDone s
  | .otpReread reads => Sys2Proof.Machine.execOtpReread reads s
  | .z1Go irq ind => Sys2Proof.Machine.execZ1Go irq ind s
  | .z2Push q v ind => Sys2Proof.Machine.execZ2Push q v ind s
  | .z2Pop q => Sys2Proof.Machine.execZ2Pop q s
  | .z3SqDoorbell q v => Sys2Proof.Machine.execZ3SqDoorbell q v s
  | .z3CqDoorbell q v => Sys2Proof.Machine.execZ3CqDoorbell q v s
  | .z3Fetch q msg ind => Sys2Proof.Machine.execZ3Fetch q msg ind s
  | .qpModeOff q => Sys2Proof.Machine.execQpModeOff q s
  | .qpDrainEnd q => Sys2Proof.Machine.execQpDrainEnd q s
  | .msixCoalesceExpiry v => Sys2Proof.Machine.execMsixCoalesceExpiry v s
  | .diagSessionTimeout => Sys2Proof.Machine.execDiagSessionTimeout s
  | .registerWrite m off v full => Sys2Proof.Machine.execRegisterWrite m off v full s
  | .latchingRead off => Sys2Proof.Machine.execLatchingRead off s
  | .rcRead off => Sys2Proof.Machine.execRcRead off s
  | .admitStopClear causes => Sys2Proof.Machine.execAdmitStopClear causes s
  | .headDetect n => Sys2Proof.Machine.execHeadDetect n s
  | .detectTimeout n => Sys2Proof.Machine.execDetectTimeout n s
  | .linkTimeout n => Sys2Proof.Machine.execLinkTimeout n s
  | .recordReadDone n data => Sys2Proof.Machine.execRecordReadDone n data s
  | .headLossTimeout n => Sys2Proof.Machine.execHeadLossTimeout n s
  | .typeSPoll n ack => Sys2Proof.Machine.execTypeSPoll n ack s
  | .hpRestart m n => Sys2Proof.Machine.execHpRestart m n s
  | .bcAck n pkt => Sys2Proof.Machine.execBcAck n pkt s
  | .bcNak n pkt => Sys2Proof.Machine.execBcNak n pkt s
  | .bcTemp n pkt => Sys2Proof.Machine.execBcTemp n pkt s
  | .bcMgmt n pkt => Sys2Proof.Machine.execBcMgmt n pkt s
  | .bcLink n pkt => Sys2Proof.Machine.execBcLink n pkt s
  | .typeSTempMeasure n dv => Sys2Proof.Machine.execTypeSTempMeasure n dv s
  | .trimGo m n => Sys2Proof.Machine.execTrimGo m n s
  | .trimFrameTimeout n lane sq => Sys2Proof.Machine.execTrimFrameTimeout n lane sq s
  | .hpWdogClear m n bits_ => Sys2Proof.Machine.execHpWdogClear m n bits_ s
  | .strobeSelfTest m n pass => Sys2Proof.Machine.execStrobeSelfTest m n pass s
  | .usageWriteBack n trailer => Sys2Proof.Machine.execUsageWriteBack n trailer s
  | .writeBackDone n readBack => Sys2Proof.Machine.execWriteBackDone n readBack s
  | .mbocaLinkSend pt => Sys2Proof.Machine.execMbocaLinkSend pt s
  | .mbocaLinkFrame pt f => Sys2Proof.Machine.execMbocaLinkFrame pt f s
  | .mbocaLinkDown pt timeout => Sys2Proof.Machine.execMbocaLinkDown pt timeout s
  | .mbocaRetry pt => Sys2Proof.Machine.execMbocaRetry pt s
  | .announceSend => Sys2Proof.Machine.execAnnounceSend s
  | .announce pt f => Sys2Proof.Machine.execAnnounce pt f s
  | .masterElection => Sys2Proof.Machine.execMasterElection s
  | .syncReqSend => Sys2Proof.Machine.execSyncReqSend s
  | .syncReq pt f t2 t3 => Sys2Proof.Machine.execSyncReq pt f t2 t3 s
  | .syncResp pt f t4 => Sys2Proof.Machine.execSyncResp pt f t4 s
  | .chainCoastTimeout => Sys2Proof.Machine.execChainCoastTimeout s
  | .obs pt f => Sys2Proof.Machine.execObs pt f s
  | .evt pt f => Sys2Proof.Machine.execEvt pt f s
  | .msg pt f => Sys2Proof.Machine.execMsg pt f s
  | .blotterFlush bad both => Sys2Proof.Machine.execBlotterFlush bad both s
  | .bltFlush m => Sys2Proof.Machine.execBltFlush m s
  | .flushDone => Sys2Proof.Machine.execFlushDone s
  | .eventQueueMove => Sys2Proof.Machine.execEventQueueMove s
  | .calTrack code => Sys2Proof.Machine.execCalTrack code s
  | .calGo m => Sys2Proof.Machine.execCalGo m s
  | .thermalFeExpiry n z => Sys2Proof.Machine.execThermalFeExpiry n z s
  | .thermBlkClear m ports => Sys2Proof.Machine.execThermBlkClear m ports s
  | .otpProgGo m => Sys2Proof.Machine.execOtpProgGo m s
  | .otpLockGo m => Sys2Proof.Machine.execOtpLockGo m s
  | .otpRdAddr m idx => Sys2Proof.Machine.execOtpRdAddr m idx s
  | .dgvSvcGo m n => Sys2Proof.Machine.execDgvSvcGo m n s
  | .getInfo q => Sys2Proof.Machine.execGetInfo q s
  | .setMode q => Sys2Proof.Machine.execSetMode q s
  | .getStatus q => Sys2Proof.Machine.execGetStatus q s
  | .planeDefine q => Sys2Proof.Machine.execPlaneDefine q s
  | .headAttach q => Sys2Proof.Machine.execHeadAttach q s
  | .rulingSet q => Sys2Proof.Machine.execRulingSet q s
  | .screenLoad q data => Sys2Proof.Machine.execScreenLoad q data s
  | .trcLoad q data => Sys2Proof.Machine.execTrcLoad q data s
  | .jobOpen q alloc => Sys2Proof.Machine.execJobOpen q alloc s
  | .jobAppend q table desc => Sys2Proof.Machine.execJobAppend q table desc s
  | .jobClose q => Sys2Proof.Machine.execJobClose q s
  | .jobAbort q => Sys2Proof.Machine.execJobAbort q s
  | .maskSet q => Sys2Proof.Machine.execMaskSet q s
  | .trimSet q => Sys2Proof.Machine.execTrimSet q s
  | .substPolicy q => Sys2Proof.Machine.execSubstPolicy q s
  | .serviceSpit q => Sys2Proof.Machine.execServiceSpit q s
  | .verifySweep q => Sys2Proof.Machine.execVerifySweep q s
  | .calRun q => Sys2Proof.Machine.execCalRun q s
  | .bistRun q => Sys2Proof.Machine.execBistRun q s
  | .powerPolicy q => Sys2Proof.Machine.execPowerPolicy q s
  | .nextEventHint q service => Sys2Proof.Machine.execNextEventHint q service s
  | .blotterRead q ecc => Sys2Proof.Machine.execBlotterRead q ecc s
  | .eventRead q => Sys2Proof.Machine.execEventRead q s
  | .otpRead q => Sys2Proof.Machine.execOtpRead q s
  | .otpProgram q => Sys2Proof.Machine.execOtpProgram q s
  | .otpLock q => Sys2Proof.Machine.execOtpLock q s
  | .diagUnlock q => Sys2Proof.Machine.execDiagUnlock q s
  | .faultInject q => Sys2Proof.Machine.execFaultInject q s
  | .chainConfig q => Sys2Proof.Machine.execChainConfig q s
  | .fwUpdate q data => Sys2Proof.Machine.execFwUpdate q data s
  | .blockLock pt => Sys2Proof.Machine.execBlockLock pt s
  | .parkNRelease => Sys2Proof.Machine.execParkNRelease s
  | .retQual up => Sys2Proof.Machine.execRetQual up s
  | .bkpOkChange vbkp => Sys2Proof.Machine.execBkpOkChange vbkp s
  | .parkExit => Sys2Proof.Machine.execParkExit s
  | .joinTimeout => Sys2Proof.Machine.execJoinTimeout s
  | .calDone found => Sys2Proof.Machine.execCalDone found s
  | .logicBistDone pass => Sys2Proof.Machine.execLogicBistDone pass s
  | .otpBurnDone readBack => Sys2Proof.Machine.execOtpBurnDone readBack s
  | .dtWrap => Sys2Proof.Machine.execDtWrap s
  | .secondAbsRead k => Sys2Proof.Machine.execSecondAbsRead k s
  | .absFailRequalify k => Sys2Proof.Machine.execAbsFailRequalify k s
  | .detectReturn n => Sys2Proof.Machine.execDetectReturn n s
  | .perstRelease => Sys2Proof.Machine.execPerstRelease s
  | .pcieLinkUp => Sys2Proof.Machine.execPcieLinkUp s

end Sys2Proof.Machine
end

