-- ==== Sys2Proof/WellFormed.lean ====
section
/-! DEFINITION. Which commands are well formed: the unit indices and field widths that the spec admits on the largest part. -/
namespace Sys2Proof

/-- Whether the operands lie in the ranges the spec gives the command (R1, R14, and the rule of each row). -/
def Instr.wellFormed : Instr → Bool
  | .vmainGood => true
  | .underVoltageLockout => true
  | .switchover _ _ => true
  | .returnMain => true
  | .parkNAsserted => true
  | .sysRstN => true
  | .overTemperatureReset => true
  | .functionLevelReset _ => true
  | .parkSequenceStart => true
  | .parkHorizon => true
  | .parkDone => true
  | .controllerResetRelease => true
  | .otpStartRead _ => true
  | .otpDigestCheck => true
  | .startCalibrationDone _ => true
  | .firmwareVerify => true
  | .ready => true
  | .enumerationComplete => true
  | .idleDelayExpiry => true
  | .serviceWorkComplete => true
  | .idleSelect _ => true
  | .idleWakeStart => true
  | .idleWakeDone => true
  | .quillWatchdogExpiry => true
  | .loopParityError => true
  | .controlTick _ => true
  | .tickOverrun => true
  | .speedSquash i => decide (i < 64)
  | .shareOkSet i => decide (i < 64)
  | .encLoss k => decide (k < 4)
  | .encFreeze k => decide (k < 4)
  | .encRecovery k => decide (k < 4)
  | .trackFault k => decide (k < 4)
  | .encFaultRecovery k => decide (k < 4)
  | .encQualified k => decide (k < 4)
  | .encQualifyTimeout k => decide (k < 4)
  | .absRead k _ => decide (k < 4)
  | .absTimeout k => decide (k < 4)
  | .absCheck k => decide (k < 4)
  | .indexEdge k _ => decide (k < 4)
  | .reversedClear k => decide (k < 4)
  | .encAcq _ k => decide (k < 4)
  | .encModeOff _ k => decide (k < 4)
  | .lockPoint i _ => decide (i < 64)
  | .lineTransferStart i => decide (i < 64)
  | .typeSLatch i => decide (i < 64)
  | .strobeFire i => decide (i < 64)
  | .ackDeadline i => decide (i < 64)
  | .oneShotTrip n pin => decide (n < 32) && decide (pin < 4)
  | .cursorLineCompute i _ _ => decide (i < 64)
  | .mapCommitAccept p => decide (p < 8)
  | .probeWindowClose n _ => decide (n < 32)
  | .headBarAtPageEnd n => decide (n < 32)
  | .screenLine p _ _ => decide (p < 8)
  | .scrCommit _ p => decide (p < 8)
  | .scrPause _ p _ => decide (p < 8)
  | .scrReset _ p => decide (p < 8)
  | .scrStripPush _ p count => decide (p < 8) && decide (count < 2 ^ 24)
  | .scrStallClear _ p => decide (p < 8)
  | .jobRunning p => decide (p < 8)
  | .jobArmDelayExpiry p => decide (p < 8)
  | .jobEnd p => decide (p < 8)
  | .dctPlaneArm _ p => decide (p < 8)
  | .dctPlaneHalt _ p => decide (p < 8)
  | .nzpCommit _ p => decide (p < 8)
  | .dmaChStart _ c => decide (c < 64)
  | .dmaDoorbell _ c limit => decide (c < 64) && decide (limit < 2 ^ 32)
  | .dmaDescriptorFetch c _ _ _ _ => decide (c < 64)
  | .dmaDescriptorComplete c _ => decide (c < 64)
  | .dmaBusErr c cause _ => decide (c < 64) && decide (cause < 16)
  | .dmaReadTimeout c _ => decide (c < 64)
  | .dmaDisable _ c => decide (c < 64)
  | .dmaDrainEnd c => decide (c < 64)
  | .dmaEnable _ c => decide (c < 64)
  | .dmaGhaltClear _ => true
  | .aliasBitSet m a k data => decide (m < 4) && decide (a < 0x1000000) && (k = 4 || k = 8) && decide (data < 2 ^ (8 * k))
  | .aliasBitClear m a k data => decide (m < 4) && decide (a < 0x1000000) && (k = 4 || k = 8) && decide (data < 2 ^ (8 * k))
  | .bar2Access a k _ _ => decide (a < 0x1000000) && decide (1 ≤ k) && decide (k ≤ 4096)
  | .bar4Access off k _ => decide (off < 2 ^ 32) && decide (1 ≤ k) && decide (k ≤ 4096)
  | .sramScrubWindow b _ _ => decide (b < 6)
  | .dramScrub _ _ => true
  | .bistWindow _ _ _ => true
  | .memBistGo _ sel => decide (sel < 64)
  | .memBistAbort _ => true
  | .retentionEnter _ banks => decide (banks < 16)
  | .retentionWake _ banks => decide (banks < 16)
  | .bankAwake j => decide (j < 4)
  | .lOffSet _ => true
  | .lOffClear _ => true
  | .lInitDone => true
  | .otpReread _ => true
  | .z1Go _ _ => true
  | .z2Push q v _ => decide (q < 32) && decide (v < 2 ^ 32)
  | .z2Pop q => decide (q < 32)
  | .z3SqDoorbell q v => decide (q < 32) && decide (v < 4096)
  | .z3CqDoorbell q v => decide (q < 32) && decide (v < 4096)
  | .z3Fetch q _ _ => decide (q < 32)
  | .qpModeOff q => decide (q < 32)
  | .qpDrainEnd q => decide (q < 32)
  | .msixCoalesceExpiry v => decide (v < 64)
  | .diagSessionTimeout => true
  | .registerWrite _ off v _ => decide (off < 0x4000000) && decide (off % 4 = 0) && decide (v < 2 ^ 32)
  | .latchingRead off => decide (off < 0x4000000) && decide (off % 4 = 0)
  | .rcRead off => decide (off < 0x4000000) && decide (off % 4 = 0)
  | .admitStopClear causes => decide (causes < 8)
  | .headDetect n => decide (n < 32)
  | .detectTimeout n => decide (n < 32)
  | .linkTimeout n => decide (n < 32)
  | .recordReadDone n _ => decide (n < 32)
  | .headLossTimeout n => decide (n < 32)
  | .typeSPoll n _ => decide (n < 32)
  | .hpRestart _ n => decide (n < 32)
  | .bcAck n _ => decide (n < 32)
  | .bcNak n _ => decide (n < 32)
  | .bcTemp n _ => decide (n < 32)
  | .bcMgmt n _ => decide (n < 32)
  | .bcLink n _ => decide (n < 32)
  | .typeSTempMeasure n _ => decide (n < 32)
  | .trimGo _ n => decide (n < 32)
  | .trimFrameTimeout n _ _ => decide (n < 32)
  | .hpWdogClear _ n bits_ => decide (n < 32) && decide (bits_ < 2 ^ 32)
  | .strobeSelfTest _ n _ => decide (n < 32)
  | .usageWriteBack n _ => decide (n < 32)
  | .writeBackDone n _ => decide (n < 32)
  | .mbocaLinkSend pt => decide (pt < 2)
  | .mbocaLinkFrame pt _ => decide (pt < 2)
  | .mbocaLinkDown pt _ => decide (pt < 2)
  | .mbocaRetry pt => decide (pt < 2)
  | .announceSend => true
  | .announce pt _ => decide (pt < 2)
  | .masterElection => true
  | .syncReqSend => true
  | .syncReq pt _ _ _ => decide (pt < 2)
  | .syncResp pt _ _ => decide (pt < 2)
  | .chainCoastTimeout => true
  | .obs pt _ => decide (pt < 2)
  | .evt pt _ => decide (pt < 2)
  | .msg pt _ => decide (pt < 2)
  | .blotterFlush _ _ => true
  | .bltFlush _ => true
  | .flushDone => true
  | .eventQueueMove => true
  | .calTrack _ => true
  | .calGo _ => true
  | .thermalFeExpiry n z => decide (n < 32) && decide (z < 8)
  | .thermBlkClear _ ports => decide (ports < 2 ^ 32)
  | .otpProgGo _ => true
  | .otpLockGo _ => true
  | .otpRdAddr _ idx => decide (idx < 512)
  | .dgvSvcGo _ n => decide (n < 32)
  | .getInfo q => decide (q < 32)
  | .setMode q => decide (q < 32)
  | .getStatus q => decide (q < 32)
  | .planeDefine q => decide (q < 32)
  | .headAttach q => decide (q < 32)
  | .rulingSet q => decide (q < 32)
  | .screenLoad q _ => decide (q < 32)
  | .trcLoad q _ => decide (q < 32)
  | .jobOpen q _ => decide (q < 32)
  | .jobAppend q _ _ => decide (q < 32)
  | .jobClose q => decide (q < 32)
  | .jobAbort q => decide (q < 32)
  | .maskSet q => decide (q < 32)
  | .trimSet q => decide (q < 32)
  | .substPolicy q => decide (q < 32)
  | .serviceSpit q => decide (q < 32)
  | .verifySweep q => decide (q < 32)
  | .calRun q => decide (q < 32)
  | .bistRun q => decide (q < 32)
  | .powerPolicy q => decide (q < 32)
  | .nextEventHint q _ => decide (q < 32)
  | .blotterRead q _ => decide (q < 32)
  | .eventRead q => decide (q < 32)
  | .otpRead q => decide (q < 32)
  | .otpProgram q => decide (q < 32)
  | .otpLock q => decide (q < 32)
  | .diagUnlock q => decide (q < 32)
  | .faultInject q => decide (q < 32)
  | .chainConfig q => decide (q < 32)
  | .fwUpdate q _ => decide (q < 32)
  | .blockLock pt => decide (pt < 2)
  | .parkNRelease => true
  | .retQual _ => true
  | .bkpOkChange _ => true
  | .parkExit => true
  | .joinTimeout => true
  | .calDone _ => true
  | .logicBistDone _ => true
  | .otpBurnDone _ => true
  | .dtWrap => true
  | .secondAbsRead k => decide (k < 4)
  | .absFailRequalify k => decide (k < 4)
  | .detectReturn n => decide (n < 32)
  | .perstRelease => true
  | .pcieLinkUp => true

end Sys2Proof
end

