-- ==== Sys2Proof/Safety.lean ====
section
/-! DEFINITION. The terms in which claims about the block are stated. -/
namespace Sys2Proof.Machine

/-- Command `c` in state `s` answers a next state, and `P` holds of it. -/
def Runs (c : Instr) (s : State) (P : State → Prop) : Prop := ∃ t, exec c s = .next t ∧ P t

/-- The state and the events that a command of one unit leaves as they are: the mode, DRAM and on-chip memory, the clock,
and the trace. -/
def Frame (s t : State) : Prop :=
  t.mode = s.mode ∧ t.dram = s.dram ∧ t.chip = s.chip ∧ t.dt = s.dt ∧ t.hostOut = s.hostOut ∧ t.out = s.out ∧
    t.evFifo = s.evFifo

/-- The flash slot that holds the firmware that runs (R540, R541). -/
def State.runSlot (s : State) : Nat := s.fld R.SYS_BOOT_STAT F.SYS_BOOT_STAT_SLOT

/-- What no step may leave broken: the flash in its canonical form. -/
def State.FlashInv (s : State) : Prop := Memory.wf s.flash = true

/-- Registers whose write does nothing but store what their access codes let it (R15), by the first of each array: one or two of
each block that has such registers. -/
def plainBases : List Nat :=
  [R.SYS_HOST_AP, R.OTP_PROG_DATA_LO, R.CAL_PORT_SEL, R.ENC_COAST_LEN 0, R.DCT_SHARE_CFG, R.DCT_LOOP_SAT 0 0, R.SCR_PLANE_WIDTH 0,
    R.NZP_SQ_CFG, R.NZP_TH_CFG 0, R.HP_TS_CFG 0, R.DGV_TH 0, R.DMA_DB_PTR_LO 0, R.MEM_SCRUB_CFG, R.MBX_EVT_VEC 1, R.CHN_COAST_LEN,
    R.FIJ_TAINT]

/-- The memories, the mode and device time are as before. -/
def StillMem (s t : State) : Prop :=
  t.mode = s.mode ∧ t.chip = s.chip ∧ t.dram = s.dram ∧ t.hostOut = s.hostOut ∧ t.dt = s.dt

/-- The memories are as before. -/
def MemKept (s t : State) : Prop := t.chip = s.chip ∧ t.dram = s.dram ∧ t.hostOut = s.hostOut

/-- Command `c`, of opcode `op`, is the only command of queue pair `q`, which runs generation Z2, may be taken now, and
waits for no command of another queue pair (R427, R430). -/
abbrev Front (s : State) (q op : Nat) (c : Cmd) : Prop :=
  q < 32 ∧ (s.qpAt q).sq = [c] ∧ (s.qpAt q).cur = none ∧ (s.qpAt q).st = 1 ∧ (s.qpAt q).mode = 1 ∧ (s.qpAt q).dead = false ∧
    (s.qpAt q).cq.length < 16 ∧ c.op = op ∧ c.pre = none ∧ s.ready = true ∧
    s.outranked q c = false

/-- Queue pair `q` has no command left, and the completion of `c` with `status` and result `res` is in its completion
FIFO (R422, R429). -/
def Answered (s t : State) (q : Nat) (c : Cmd) (status : Nat) (res : List Nat) : Prop :=
  (t.qpAt q).sq = [] ∧ (t.qpAt q).cur = none ∧
    (t.qpAt q).cq = (s.qpAt q).cq ++ [cplBytes c status false (s.bit R.SYS_MODE F.SYS_MODE_LIMITED) 0 res]

/-- Command `c` was taken from queue pair `q` and waits for what `w` says (R451). -/
def Waits (s t : State) (q : Nat) (c : Cmd) (w : Wait) : Prop :=
  (t.qpAt q).sq = [] ∧ (t.qpAt q).cur = some (c, w) ∧ (t.qpAt q).cq = (s.qpAt q).cq

/-- A frame `f` finds Mboca port `pt` UP with nothing injected or held, its CRC is good and the first after the link came up
(R485, R489, R576). -/
abbrev Arrives (s : State) (pt : Nat) (f : MFrame) : Prop :=
  s.chain.ports.length = 2 ∧ s.ready = true ∧ (s.mport pt).lock = true ∧ (s.mport pt).up = true ∧ (s.mport pt).due = [] ∧
    (s.mport pt).after = [] ∧ s.fijGate = false ∧ frameGood f.bytes = true ∧ (s.mport pt).expect = none

/-- A relayed frame of type `ty` for every device, from a source this device has taken none of that type from (R490). -/
abbrev New (s : State) (ty : Nat) (f : MFrame) : Prop :=
  f.ty = ty ∧ f.src ≠ s.myIdx ∧ f.dst = 0xFF ∧ s.chain.rxSeq.find? (fun x => x.1 = f.src ∧ x.2.1 = ty) = none

/-- A packet whose bytes read as `p` and whose CRC passes (R270). -/
abbrev Reads (pkt : List Nat) (p : BcIn) : Prop := bcParse pkt = some p ∧ p.crcOk = true

/-- Port `n` is a Type L port whose back-channel packets are taken as they come: none injected or held (R270, R576). -/
abbrev BcOpen (s : State) (n : Nat) : Prop :=
  n < s.part.ports ∧ s.portType n = 2 ∧ s.fijGate = false ∧ (s.portAt n).bcDue = [] ∧ (s.portAt n).bcAfter = []

end Sys2Proof.Machine
end

