-- ==== Sys2Proof/Certificates/Slice0/Obligations.lean ====
section
/-! DEFINITION. The statements for the provers. Where a statement has several clauses, each clause is about one row of the
opcode table or one case of it; `Runs c s P` says that the command answers a next state and that `P` holds of it. -/

open Sys2Proof Sys2Proof.Machine


/-- A step is the front command run on the rest of the queue. For every command c and state s, a step of s with c at
the front of its queue is exec c on s with the queue's rest. -/
def Obligations.StepTakesFront : Prop :=
  ∀ (c : Instr) (rest : List Instr) (s : State), step { s with pending := c :: rest } = exec c { s with pending := rest }

/-- An idle step advances device time by one (the model's choice, log entry 12) (R8). With no command waiting, a step
changes device time and nothing else, by one. That an empty queue advances device time is the model's choice, log
entry 12. -/
def Obligations.IdleStepCounts : Prop :=
  ∀ s : State, s.pending = [] → step s = .next { s with dt := s.dt + 1 }

/-- No command changes the part or the commands behind it (R1). Whatever command runs, a next state has the same part
and the same waiting commands. -/
def Obligations.PartAndQueueKept : Prop :=
  ∀ (c : Instr) (s t : State), exec c s = .next t → t.part = s.part ∧ t.pending = s.pending

/-- FW_UPDATE alone writes the flash (R481, R540). Every command but FW_UPDATE leaves the flash as it is. -/
def Obligations.FlashWrittenByUpdateOnly : Prop :=
  ∀ (c : Instr) (s t : State), (∀ q data, c ≠ .fwUpdate q data) → exec c s = .next t → t.flash = s.flash

/-- No step changes the flash slot of the firmware that runs (R481, R540, R541). For every state and every step that
answers a next state, each byte of the flash slot named by SLOT in SYS_BOOT_STAT reads as before. -/
def Obligations.RunningSlotNeverWritten : Prop :=
  ∀ (s t : State) (a : Nat), step s = .next t → slotBase s.runSlot ≤ a → a < slotBase s.runSlot + 0x800000 →
    cellGet byte0 t.flash a = cellGet byte0 s.flash a

/-- Every step keeps the canonical form of the flash (R481, R540). If the flash is in its canonical form (addresses
rising, no byte listed that an unlisted address reads as) and a step answers a next state, it is in that form there
too. -/
def Obligations.FlashStaysCanonical : Prop :=
  ∀ s t : State, s.FlashInv → step s = .next t → t.FlashInv

/-- The memories and the register file are canonical at reset (R566, R540). At reset the flash, on-chip memory, DRAM,
what went to host memory, and the register file are in the canonical form. That memory nothing has written reads 0 is
the model's choice, log entry 2. -/
def Obligations.ResetCanonical : Prop :=
  State.reset.FlashInv ∧ Memory.wf State.reset.chip = true ∧ Memory.wf State.reset.dram = true ∧
    Memory.wf State.reset.hostOut = true ∧ cellWf regReset State.reset.regs = true

/-- No command clears a burnt OTP bit (R548, R552, R549). Every command but the read of stage 2, which learns what the
array holds, leaves every OTP bit that was 1 at 1. -/
def Obligations.OtpBitsNeverCleared : Prop :=
  ∀ (c : Instr) (s t : State) (w : Nat), (∀ reads, c ≠ .otpStartRead reads) → exec c s = .next t →
    otpVal s.otp.raw w &&& otpVal t.otp.raw w = otpVal s.otp.raw w

/-- Every command answers a next state, and one that names an absent unit changes nothing (R1, R14, R259, R257, R79,
R149, R453, R369, R485). In every state every command answers a next state with the same part and the same waiting
commands: no data ends a run. A row, port, encoder channel, plane, queue pair, DMA channel or Mboca port that the part
does not have changes nothing, which is the model's choice, log entry 61. -/
def Obligations.WellFormedCompletes : Prop :=
  (∀ (c : Instr) (s : State), ∃ t, exec c s = .next t ∧ t.part = s.part ∧ t.pending = s.pending) ∧
  (∀ s i, s.nRows ≤ i → exec (.strobeFire i) s = .next s) ∧
  (∀ s n, s.part.ports ≤ n → exec (.headDetect n) s = .next s) ∧
  (∀ s k, 4 ≤ k → exec (.encLoss k) s = .next s) ∧
  (∀ s p, 8 ≤ p → exec (.jobEnd p) s = .next s) ∧
  (∀ s q, 32 ≤ q → exec (.getInfo q) s = .next s) ∧
  (∀ s c, 64 ≤ c → exec (.dmaDrainEnd c) s = .next s) ∧
  (∀ s pt, 2 ≤ pt → exec (.blockLock pt) s = .next s)

/-- Mboca frames and back-channel packets read back as they were written (R270, R484, R486, R488). A Mboca frame of 64
bytes built from its fields has a good CRC, is read back with every field at every value it admits, and goes out as a
start block and eight data blocks that carry its bytes in order; a back-channel packet built from its TYPE, ROW,
REASON, sequence number and body is read back with the same. -/
def Obligations.FramesReadBack : Prop :=
  (∀ (ty src hops seq dst oseq t2 t3 : Nat) (payload : List Nat), ty < 256 → src < 16 → hops < 16 → seq < 65536 → dst < 256 →
    oseq < 65536 → payload.length ≤ 52 → (∀ x ∈ payload, x < 256) →
    ∃ f : MFrame, f = ⟨frameBytes ty src hops seq dst oseq payload, t2, t3⟩ ∧ f.bytes.length = 64 ∧ frameGood f.bytes = true ∧
      f.ty = ty ∧ f.src = src ∧ f.hops = hops ∧ f.seq = seq ∧ f.dst = dst ∧ f.oseq = oseq ∧
      f.payload = payload ++ List.replicate (52 - payload.length) 0 ∧
      (frameBlocks f.bytes).length = 9 ∧ ((frameBlocks f.bytes).drop 1).flatMap (fun b => b.octets) = f.bytes) ∧
  (∀ (ty row reason seq : Nat) (body head : List Nat), ty < 16 → row < 2 → reason < 8 → seq < 256 →
    head = [ty + row * 16 + reason * 32, seq] →
    ∃ p, Reads ([0x5A, 0x3C] ++ head ++ body ++ leBytes 2 (crc16 (head ++ body))) p ∧ p.ty = ty ∧ p.row = row ∧
      p.reason = reason ∧ p.seq = seq ∧ p.pcnt = body.getD 0 0 ∧ p.lock = body.getD 0 0 ∧ p.data = body.drop 1 ∧
      (p.trim.isSome ↔ body.length = 2))

/-- Supplies: VMAIN good, switch-over, its return, and the voltages (R597, R512, R514, R511). VMAIN_GOOD notes when
the start-up timeline begins; SWITCHOVER loses VMAIN, sets SUPPLY and triggers PARK; RETURN_MAIN takes it back;
RET_QUAL sets and clears the return qualification; BKP_OK_CHANGE records VBKP. -/
def Obligations.SupplyRows : Prop :=
  (∀ s : State, s.pw.good = false → Runs .vmainGood s (fun t => StillMem s t ∧ t.pw.good = true ∧ t.pw.goodAt = s.now ∧ t.stage = 0)) ∧
  (∀ (s : State) (vm vb : Nat), s.pw.good = true → s.bit R.PWR_STAT F.PWR_STAT_SUPPLY = false → 9000 ≤ vb → s.mode ≠ .park →
    Runs (.switchover vm vb) s (fun t => MemKept s t ∧ t.mode = s.mode ∧ t.pw.mainLost = true ∧ t.pw.vminOpen = true ∧ t.pw.parkPend = true ∧
      t.bit R.PWR_STAT F.PWR_STAT_SUPPLY = true)) ∧
  (∀ s : State, s.bit R.PWR_STAT F.PWR_STAT_SUPPLY = true →
    Runs .returnMain s (fun t => MemKept s t ∧ t.mode = s.mode ∧ t.pw.mainLost = false ∧ t.pw.retAt = none ∧ t.bit R.PWR_STAT F.PWR_STAT_SUPPLY = false)) ∧
  (∀ (s : State) (up : Bool), s.bit R.PWR_STAT F.PWR_STAT_SUPPLY = true →
    Runs (.retQual up) s (fun t => StillMem s t ∧ t.bit R.PWR_STAT F.PWR_STAT_RET_QUAL = up ∧ t.pw.retAt = if up then some s.now else none)) ∧
  (∀ (s : State) (vb : Nat), Runs (.bkpOkChange vb) s (fun t => StillMem s t ∧ t.fld R.PWR_VOLT F.PWR_VOLT_VBKP = min 0xFFFF vb))

/-- Resets leave the state of reset but for what survives them (R509, R602, R608, R420). UNDER_VOLTAGE_LOCKOUT,
SYS_RST_N and OVER_TEMPERATURE_RESET leave BOOT, an empty register file and the flash as it was, and only the lockout
loses VMAIN good; FUNCTION_LEVEL_RESET clears the host aperture and the MSI-X vectors and, with the link down, the
link. -/
def Obligations.ResetRows : Prop :=
  (∀ s : State, Runs .underVoltageLockout s (fun t => t.mode = .boot ∧ t.regs = [] ∧ t.pw.good = false ∧ t.flash = s.flash)) ∧
  (∀ s : State, Runs .sysRstN s (fun t => t.mode = .boot ∧ t.regs = [] ∧ t.pw.good = s.pw.good ∧ t.flash = s.flash)) ∧
  (∀ s : State, Runs .overTemperatureReset s (fun t => t.mode = .boot ∧ t.regs = [] ∧ t.pw.good = s.pw.good ∧ t.flash = s.flash)) ∧
  (∀ (s : State) (down : Bool), Runs (.functionLevelReset down) s (fun t =>
    t.getN R.SYS_HOST_AP = 0 ∧ t.vecs = [] ∧ (down = true → t.linkUp = false)))

/-- PARK: trigger, start, horizon, end and exit (R515, R516, R126, R518). PARK_N sets its bit and triggers the
sequence; the sequence enters PARK with T_P at the first tick boundary strictly later than the trigger; the horizon
asserts CAP_REQ; PARK_DONE sets the last step and its bit; the exit leads to CONFIG. -/
def Obligations.ParkRows : Prop :=
  (∀ s : State, s.pw.good = true → s.mode ≠ .park → Runs .parkNAsserted s (fun t =>
StillMem s t ∧     t.bit R.PWR_STAT F.PWR_STAT_PARK_N = true ∧ t.pw.parkPend = true)) ∧
  (∀ s : State, s.pw.good = true → Runs .parkNRelease s (fun t => StillMem s t ∧ t.bit R.PWR_STAT F.PWR_STAT_PARK_N = false)) ∧
  (∀ s : State, s.pw.parkPend = true → Runs .parkSequenceStart s (fun t =>
    t.mode = .park ∧ t.pw.parkPend = false ∧ t.pw.parkAt = some ((s.pw.parkTrig / 8000 + 1) * 8000))) ∧
  (∀ (s : State) (tp : Nat), s.pw.parkAt = some tp → s.mode = .park → s.fld R.PWR_STAT F.PWR_STAT_PARK_STEP = 1 →
    Runs .parkHorizon s (fun t => t.bit R.PWR_STAT F.PWR_STAT_CAP_REQ = true)) ∧
  (∀ (s : State) (tp : Nat), s.pw.parkAt = some tp → s.mode = .park → s.fld R.PWR_STAT F.PWR_STAT_PARK_STEP = 6 →
    Runs .parkDone s (fun t => t.fld R.PWR_STAT F.PWR_STAT_PARK_STEP = 7 ∧ t.bit R.PWR_STAT F.PWR_STAT_PARK_DONE = true)) ∧
  (∀ s : State, s.pw.exiting = true → Runs .parkExit s (fun t => t.mode = .config ∧ t.pw.exiting = false ∧ t.pw.parkAt = none))

/-- IDLE and the end of SERVICE (R37, R40, R526, R527). IDLE_DELAY_EXPIRY enters IDLE; SERVICE_WORK_COMPLETE returns
to CONFIG; IDLE_SELECT leaves the selected sub-state in force; IDLE_WAKE_START starts the exit latency; IDLE_WAKE_DONE
enters the mode the wake leads to. -/
def Obligations.IdleRows : Prop :=
  (∀ s : State, s.pw.idleDelay ≠ 0 → s.pw.parkPend = false → s.mode = .config →
    Runs .idleDelayExpiry s (fun t => t.mode = .idle ∧ t.pw.sub = 0 ∧ t.pw.selected = false)) ∧
  (∀ s : State, s.mode = .service → s.pw.idleDelay ≠ 0 → s.ports.any (fun p => p.2.spit.isSome || p.2.sweep.isSome) = false →
    Runs .serviceWorkComplete s (fun t => t.mode = .config)) ∧
  (∀ (s : State) (ev : Option Nat), s.mode = .idle → s.pw.wake = none → s.pw.wakeAt = none → s.pw.entering = none →
    s.pw.logic = false → s.selectSub ((firstEvent (s.knownEvents ev)).map (·.1)) = s.pw.sub →
    Runs (.idleSelect ev) s (fun t => StillMem s t ∧ t.pw.selected = true ∧ t.pw.sub = s.pw.sub ∧ t.mode = .idle)) ∧
  (∀ (s : State) (m : Mode), s.mode = .idle → s.pw.entering = none → s.pw.logic = false → s.pw.wakeAt = none →
    s.pw.wake = some m → s.pw.sub < 2 →
    Runs .idleWakeStart s (fun t => StillMem s t ∧ t.pw.wake = some m ∧ t.pw.wakeAt = some (s.now + exitTime s.pw.sub * 2000))) ∧
  (∀ (s : State) (m : Mode) (w : Nat), s.pw.wakeAt = some w → s.pw.wake = some m → m ≠ .idle →
    Runs .idleWakeDone s (fun t => t.mode = m))

/-- A fault stop (R33). QUILL_WATCHDOG_EXPIRY and LOOP_PARITY_ERROR set FAULT_STOP, and from PRINT, SERVICE or CONFIG
the mode is CONFIG. -/
def Obligations.FaultStopRows : Prop :=
  ∀ (c : Instr) (s : State), c = .quillWatchdogExpiry ∨ c = .loopParityError →
    Runs c s (fun t => t.bit R.SYS_MODE F.SYS_MODE_FAULT_STOP = true ∧
      ((s.mode = .print ∨ s.mode = .service ∨ s.mode = .config) → t.mode = .config))

/-- The stages of start-up (R535, R549, R555, R544, R541, R536, R413). Each row of the start-up timeline moves
SYS_BOOT_STAT.STAGE on where the stage before it has been reached; a verified image of the newest slot starts; READY
waits for the start calibration; enumeration enters CONFIG; PERST_RELEASE and PCIE_LINK_UP record the link. -/
def Obligations.StartRows : Prop :=
  (∀ s : State, s.pw.good = true → s.stage = 0 → Runs .controllerResetRelease s (fun t => StillMem s t ∧ t.stage = 1)) ∧
  (∀ (s : State) (reads : List OtpRead), s.stage = 1 → Runs (.otpStartRead reads) s (fun t => MemKept s t ∧ t.mode = s.mode ∧ t.stage = 2)) ∧
  (∀ s : State, s.stage = 2 → Runs .otpDigestCheck s (fun t => MemKept s t ∧ t.mode = s.mode ∧ t.stage = 3)) ∧
  (∀ (s : State) (r : CalIn), 3 ≤ s.stage → s.bit R.CAL_STAT F.CAL_STAT_DONE = false →
    Runs (.startCalibrationDone r) s (fun t => t.bit R.CAL_STAT F.CAL_STAT_DONE = true)) ∧
  (∀ s : State, 3 ≤ s.stage → s.stage < 5 → s.bit R.SYS_BOOT_STAT F.SYS_BOOT_STAT_NO_FW = false →
    leAt (s.slotHead 1) 0x0C 4 ≤ leAt (s.slotHead 0) 0x0C 4 → s.imageOk (s.slotHead 0) (s.slotBody 0) = true →
    Runs .firmwareVerify s (fun t => t.stage = 5)) ∧
  (∀ s : State, s.stage = 5 → s.bit R.CAL_STAT F.CAL_STAT_DONE = true → Runs .ready s (fun t => t.stage = 6)) ∧
  (∀ s : State, s.stage = 6 → s.mode = .boot → s.pw.parkPend = false →
    Runs .enumerationComplete s (fun t => t.mode = .config ∧ t.stage = 7)) ∧
  (∀ s : State, Runs .perstRelease s (fun t => t.perst = true ∧ Frame s t)) ∧
  (∀ (s : State), s.perst = true → 1 ≤ s.stage →
    Runs .pcieLinkUp s (fun t => t.linkUp = true ∧ t.pcie = s.pcie ∧ t.regs = s.regs ∧ Frame s t))

/-- The control tick, admission and the share test (R25, R31, R112, R229). CONTROL_TICK records when the work list was
complete, whether it overran, and what host software configured of the PCIe function (that it comes with the tick is
the model's choice, log entry 77); ADMIT_STOP_CLEAR clears exactly the causes named that may be cleared; SHARE_OK_SET
sets SHARE_OK; SPEED_SQUASH notes the lowest row squashed. -/
def Obligations.TickRows : Prop :=
  (∀ (s : State) (i : TickIn), Runs (.controlTick i) s (fun t =>
    t.fld R.SYS_TICK_STAT F.SYS_TICK_STAT_LAST_DONE = (if 8000 ≤ i.done then 0x1FFF else i.done) ∧ t.overDue = decide (6400 < i.done) ∧
    ∀ c, i.pcie = some c → s.linkUp = true → t.pcie = pcieHeld c)) ∧
  (∀ (s : State) (causes : Nat), Runs (.admitStopClear causes) s (fun t =>
    t.getN R.SYS_ADMIT_STOP =
      s.getN R.SYS_ADMIT_STOP - (s.getN R.SYS_ADMIT_STOP &&& (causes % 8 &&& s.clearable)) ∧ Frame s t)) ∧
  (∀ (s : State) (i : Nat), i < s.nRows → max 1 (s.fld R.DCT_SHARE_CFG F.DCT_SHARE_CFG_SET_HOLD) ≤ (s.rowAt i).shareCnt →
    Runs (.shareOkSet i) s (fun t => (t.rowAt i).share = true ∧ t.regs = s.regs ∧ Frame s t)) ∧
  (∀ (s : State) (i : Nat), i < s.nRows → s.bit R.NZP_SQ_CFG F.NZP_SQ_CFG_SQ_EN = true → (s.rowAt i).period ≠ 0xFFFFFFFF →
    s.fld R.NZP_SQ_CFG F.NZP_SQ_CFG_SQ_TOL * (s.rowAt i).pspec < (((s.rowAt i).period : Int) - (s.rowAt i).pspec).natAbs * 10000 →
    s.tmEn (i / 2) = true →
    Runs (.speedSquash i) s (fun t => t.squashLow = some (min i (s.squashLow.getD i))))

/-- R29: an overrun raises its event, is counted and stops admission. Where the work list was not complete in time,
TICK_OVERRUN raises TICK_OVERRUN (0x1003) into the event FIFO if it has room, sets OVERRUN, increments
SYS_TICK_OVR_CNT, and stops admission. -/
def Obligations.OverrunStopsAdmission : Prop :=
  ∀ s : State, s.overDue = true → Runs .tickOverrun s (fun t =>
    (s.evFifo.length < 256 → ∃ e, t.evFifo = s.evFifo ++ [e] ∧ e.code = 0x1003 ∧ e.obj = 0) ∧
    t.bit R.SYS_TICK_STAT F.SYS_TICK_STAT_OVERRUN = true ∧
    t.fld R.SYS_TICK_OVR_CNT ⟨0, 32⟩ = min 0xFFFFFFFF (s.fld R.SYS_TICK_OVR_CNT ⟨0, 32⟩ + 1) ∧
    t.bit R.SYS_ADMIT_STOP F.SYS_ADMIT_STOP_TICK_OVR = true ∧ t.overDue = false ∧
    t.mode = s.mode ∧ t.chip = s.chip ∧ t.dram = s.dram ∧ t.out = s.out)

/-- Encoder channels move between their states (R79, R80, R83, R84, R68, R69, R76). Loss and freeze lead from TRACK to
COAST with the position kept and the acceleration cleared; recovery leads back with whole periods added; a following
error leads to FAULT; the channel leaves FAULT, QUALIFY and OFF as the rows say. -/
def Obligations.EncoderStateRows : Prop :=
  (∀ (s : State) (k c : Nat), k < 4 → (s.encAt k).st = .track → (s.encAt k).lossDue = some c →
    Runs (.encLoss k) s (fun t => MemKept s t ∧ t.mode = s.mode ∧ (t.encAt k).st = .coast ∧ (t.encAt k).a = 0 ∧ (t.encAt k).x = (s.encAt k).x ∧
      t.bit (R.ENC_STAT k) F.ENC_STAT_LOSS = true ∧ t.fld (R.ENC_STAT k) F.ENC_STAT_LOSS_CAUSE = c % 4)) ∧
  (∀ (s : State) (k : Nat), k < 4 → (s.encAt k).st = .track → (s.encAt k).lossDue = none → (s.encAt k).freezeDue = true →
    Runs (.encFreeze k) s (fun t => MemKept s t ∧ t.mode = s.mode ∧ (t.encAt k).st = .coast ∧ (t.encAt k).a = 0 ∧ (t.encAt k).x = (s.encAt k).x ∧
      t.bit (R.ENC_STAT k) F.ENC_STAT_FREEZE = true)) ∧
  (∀ (s : State) (k : Nat) (n : Int), k < 4 → (s.encAt k).st = .coast → (s.encAt k).recovDue = some n →
    Runs (.encRecovery k) s (fun t => (t.encAt k).st = .track ∧ (t.encAt k).m = (s.encAt k).m + n * 65536 ∧
      t.bit (R.ENC_STAT k) F.ENC_STAT_REBASED = true ∧ Frame s t)) ∧
  (∀ (s : State) (k : Nat), k < 4 → (s.encAt k).st = .track → (s.encAt k).lossDue = none → (s.encAt k).faultDue = true →
    Runs (.trackFault k) s (fun t => MemKept s t ∧ t.mode = s.mode ∧ (t.encAt k).st = .fault ∧ (t.encAt k).emit = false)) ∧
  (∀ (s : State) (k : Nat), k < 4 → (s.encAt k).st = .fault → 16 ≤ (s.encAt k).goodTicks →
    s.fld (R.ENC_FE k) F.ENC_FE_FE_TIME ≤ (s.encAt k).feGood → s.encAbs k = 0 →
    Runs (.encFaultRecovery k) s (fun t => (t.encAt k).st = .track ∧ (t.encAt k).x = (s.encAt k).x ∧ Frame s t)) ∧
  (∀ (s : State) (k : Nat), k < 4 → (s.encAt k).st = .qualify → 16 ≤ (s.encAt k).goodRun →
    Runs (.encQualified k) s (fun t => MemKept s t ∧ t.mode = s.mode ∧ (t.encAt k).st = if s.encAbs k = 0 then .track else .absRead)) ∧
  (∀ (s : State) (k : Nat), k < 4 → (s.encAt k).st = .qualify → (s.encAt k).goodRun < 16 →
    Runs (.encQualifyTimeout k) s (fun t => MemKept s t ∧ t.mode = s.mode ∧ (t.encAt k).st = .qualify ∧ t.bit (R.ENC_STAT k) F.ENC_STAT_ACQ_FAIL = true ∧
      t.bit (R.ENC_CFG k) F.ENC_CFG_ACQ = false)) ∧
  (∀ (s : State) (k : Nat), k < 4 → 64 ≤ (s.encAt k).revAge →
    Runs (.reversedClear k) s (fun t => (t.encAt k).reversed = false ∧ t.regs = s.regs ∧ Frame s t)) ∧
  (∀ (s : State) (m : Master) (k : Nat), k < 4 → s.mayWrite m (R.ENC_CFG k) = true → s.encMode k ≠ 0 →
    Runs (.encModeOff m k) s (fun t => MemKept s t ∧ t.mode = s.mode ∧ (t.encAt k).st = .off ∧ t.encMode k = 0)) ∧
  (∀ (s : State) (m : Master) (k : Nat), k < 4 → s.mayWrite m (R.ENC_CFG k) = true → s.encMode k ≠ 0 → (s.encAt k).st = .off →
    bits s.cal.enc k 1 = 1 → Runs (.encAcq m k) s (fun t => MemKept s t ∧ t.mode = s.mode ∧ (t.encAt k).st = .qualify))

/-- Absolute reads and the index (R69, R66, R70, R68, R72). A valid absolute read and a timed-out one end the read in
TRACK; the periodic check and the second read start one; three failed attempts lead to QUALIFY; an index edge latches
a position and sets IDX_NEW. -/
def Obligations.EncoderAbsoluteRows : Prop :=
  (∀ (s : State) (k : Nat) (r : AbsIn), k < 4 → (s.encAt k).st = .track → (s.encAt k).reading = true → s.absValid k r = true →
    s.absLate k r = false →
    Runs (.absRead k r) s (fun t => MemKept s t ∧ t.mode = s.mode ∧ (t.encAt k).reading = false ∧ (t.encAt k).absFails = 0 ∧ (t.encAt k).st = .track)) ∧
  (∀ (s : State) (k : Nat), k < 4 → (s.encAt k).st = .track → (s.encAt k).reading = true →
    Runs (.absTimeout k) s (fun t => MemKept s t ∧ t.mode = s.mode ∧ (t.encAt k).reading = false ∧ (t.encAt k).st = .track)) ∧
  (∀ (s : State) (k : Nat), k < 4 → (s.encAt k).st = .track → s.encAbs k ≠ 0 →
    s.fld (R.ENC_ABS_CHK k) F.ENC_ABS_CHK_INTERVAL ≠ 0 → (s.encAt k).reading = false →
    Runs (.absCheck k) s (fun t => MemKept s t ∧ t.mode = s.mode ∧ (t.encAt k).reading = true ∧ t.regs = s.regs)) ∧
  (∀ (s : State) (k : Nat) (c : AbsCap), k < 4 → (s.encAt k).st = .absRead → (s.encAt k).caps = [c] →
    (s.encAt k).reading = false → Runs (.secondAbsRead k) s (fun t => MemKept s t ∧ t.mode = s.mode ∧ (t.encAt k).reading = true ∧ (t.encAt k).caps = [c] ∧ t.regs = s.regs)) ∧
  (∀ (s : State) (k : Nat), k < 4 → (s.encAt k).st = .absRead → (s.encAt k).requal = true →
    Runs (.absFailRequalify k) s (fun t => MemKept s t ∧ t.mode = s.mode ∧ (t.encAt k).st = .qualify)) ∧
  (∀ (s : State) (k : Nat) (i : EdgeIn), k < 4 → bits s.cal.enc k 1 = 1 → s.bit (R.ENC_CFG k) F.ENC_CFG_IDX_EN = true →
    i.rising = !s.bit (R.ENC_IDX_CFG k) F.ENC_IDX_CFG_EDGE → 200 ≤ i.held →
    Runs (.indexEdge k i) s (fun t => MemKept s t ∧ t.mode = s.mode ∧ (t.encAt k).idxOut = false ∧ (t.encAt k).idxPos.isSome = true ∧
      t.bit (R.ENC_STAT k) F.ENC_STAT_IDX_NEW = true))

/-- A lock point locks a line with its codes or blanks it (R117, R120). A line that nothing blanks, whose codes are
not all 0 and which stays within the energy window is locked with its codes; a line with a cause to be blanked leaves
the queue. -/
def Obligations.LockPointRows : Prop :=
  (∀ (s : State) (i : Nat) (e : Entry) (codes : List Nat), i < s.nRows →
    (s.rowAt i).queue.find? (fun x => !x.locked) = some e → e.kind = .line →
    (s.portAt (i / 2)).plane ≠ none → (s.portAt (i / 2)).barred = false →
    (∀ x ∈ (s.rowAt (pairRow i)).queue, x.locked = true) →
    (s.advTo (e.ts - 16000)).blankCause (i / 2) e = none →
    (s.advTo (e.ts - 16000)).decideCodes i e = (some codes, false) → codes.all (fun c => decide (c = 0)) = false →
    (s.advTo (e.ts - 16000)).ewOver (i / 2) e.ts ((s.advTo (e.ts - 16000)).energyOf (i / 2) codes) = false →
    Runs (.lockPoint i {}) s (fun t =>
      (∃ x ∈ (t.rowAt i).queue, x.ts = e.ts ∧ x.line = e.line ∧ x.locked = true ∧ x.codes = codes) ∧ t.mode = s.mode ∧ t.out = s.out)) ∧
  (∀ (s : State) (i c : Nat) (e : Entry), i < s.nRows →
    (s.rowAt i).queue.find? (fun x => !x.locked) = some e → e.kind = .line →
    (∀ x ∈ (s.rowAt (pairRow i)).queue, x.locked = true) → (s.advTo (e.ts - 16000)).blankCause (i / 2) e = some c →
    Runs (.lockPoint i {}) s (fun t => (∀ x ∈ (t.rowAt i).queue, x.ts ≠ e.ts) ∧ t.mode = s.mode ∧ t.out = s.out))

/-- Transfers, latches, strobes and acknowledgements (R119, R262, R265, R259, R272, R278). LINE_TRANSFER_START marks
the first locked entry sent; TYPE_S_LATCH latches it; STROBE_FIRE fires the entry at the front, or withholds it where
the guard stops it; ACK_DEADLINE takes the oldest awaited line off; ONE_SHOT_TRIP sets the pin's trip bit, ends the
pulses, and the falling edge of a pin with no pulse scheduled is seen. -/
def Obligations.StrobeRows : Prop :=
  (∀ (s : State) (i : Nat) (e : Entry), i < s.nRows → (s.portAt (i / 2)).st ≠ .off →
    (s.rowAt i).queue.find? (fun x => x.locked && !x.sent) = some e →
    Runs (.lineTransferStart i) s (fun t =>
      (t.rowAt i).queue = (s.rowAt i).queue.map (fun x => if x.ts = e.ts then { x with sent := true } else x) ∧
      t.mode = s.mode ∧ t.chip = s.chip)) ∧
  (∀ (s : State) (i : Nat) (e : Entry), i < s.nRows → s.portType (i / 2) = 1 → (s.portAt (i / 2)).st ≠ .off →
    (s.rowAt i).queue.find? (fun x => x.locked && x.sent && !x.latched) = some e →
    Runs (.typeSLatch i) s (fun t =>
      (t.rowAt i).queue = (s.rowAt i).queue.map (fun x => if x.ts = e.ts then { x with latched := true } else x) ∧
      t.out = .latch (i / 2) (i % 2) (e.ts - 2000) (e.ts - 1800) :: s.out ∧ t.regs = s.regs ∧ t.chip = s.chip)) ∧
  (∀ (s : State) (i : Nat) (e : Entry) (rest : List Entry), i < s.nRows → (s.rowAt i).queue = e :: rest → e.locked = true →
    (s.portType (i / 2) = 1 → e.latched = true) → e.kind = .line → (s.portAt (i / 2)).plane ≠ none → (s.portAt (i / 2)).st ≠ .off →
    s.guardStops i e = false →
    Runs (.strobeFire i) s (fun t => (t.rowAt i).lastFired = some e.ts ∧
      t.out = .edge (i / 2) (2 * (i % 2) + 1) false (e.ts + e.lead + e.env) ::
        .edge (i / 2) (2 * (i % 2) + 1) true (e.ts + e.lead) :: .edge (i / 2) (2 * (i % 2)) false (e.ts + e.pre) ::
        .edge (i / 2) (2 * (i % 2)) true e.ts :: s.out ∧ t.mode = s.mode ∧ t.chip = s.chip)) ∧
  (∀ (s : State) (i : Nat) (e : Entry) (rest : List Entry), i < s.nRows → (s.rowAt i).queue = e :: rest → e.locked = true →
    (s.portType (i / 2) = 1 → e.latched = true) → e.kind = .line → (s.portAt (i / 2)).plane ≠ none → (s.portAt (i / 2)).st ≠ .off →
    s.guardStops i e = true →
    Runs (.strobeFire i) s (fun t => MemKept s t ∧ t.mode = s.mode ∧ t.bit (R.DCT_ROW_STAT i) F.DCT_ROW_STAT_GUARD = true ∧ t.out = s.out)) ∧
  (∀ (s : State) (i : Nat) (a : Await) (rest : List Await), i < s.nRows → (s.rowAt i).await = a :: rest →
    Runs (.ackDeadline i) s (fun t => (t.rowAt i).await = rest ∧ t.mode = s.mode ∧ t.chip = s.chip)) ∧
  (∀ (s : State) (n pin : Nat), n < s.part.ports →
    Runs (.oneShotTrip n pin) s (fun t => t.bit (R.HP_WDOG n) ⟨pin % 4, 1⟩ = true ∧ (t.portAt n).selfOk = false ∧
      (t.portAt n).firing = [] ∧ ((∀ k, k < 4 → s.edgesAhead n k true = [] ∧ s.edgesAhead n k false = []) →
        t.out = .edge n (pin % 4) false s.now :: s.out) ∧ t.mode = s.mode ∧ t.chip = s.chip))

/-- The cursor, maps, probes and bars (R220, R193, R306, R341, R314). CURSOR_LINE_COMPUTE decides the next line and
moves the cursor on; NZP_COMMIT and MAP_COMMIT_ACCEPT start a generation; PROBE_WINDOW_CLOSE with a weak base sets its
flag; HEAD_BAR_AT_PAGE_END bars the head; DGV_SVC_GO starts a sweep. Where the row is a register write, the write
carries the register's RW fields as they stand (the model's choice, log entry 62). -/
def Obligations.CursorMapRows : Prop :=
  (∀ (s : State) (i : Nat) (bad : Bool), i < s.nRows → (s.cursorSkip i).cursorMay i = true →
    (((s.cursorSkip i).probeAt (i / 2) ((s.cursorSkip i).rowPlane i) ((s.cursorSkip i).rowAt i).cursor).opuEval (i / 2)
      ((s.cursorSkip i).rowAt i).cursor).1 = false →
    Runs (.cursorLineCompute i bad {}) s (fun t => (t.rowAt i).cursor = ((s.cursorSkip i).rowAt i).cursor + 1 ∧
      t.mode = s.mode ∧ t.out = s.out)) ∧
  (∀ (s : State) (m : Master) (p : Nat), p < 8 → s.mayWrite m (R.NZP_PLANE_CTL p) = true → (s.planeAt p).pending = false →
    Runs (.nzpCommit m p) s (fun t => (t.planeAt p).pending = (s.planeAt p).oldLive ∧
      t.bit (R.NZP_PLANE_CTL p) F.NZP_PLANE_CTL_COMMIT = !(s.planeAt p).oldLive ∧ t.chip = s.chip ∧ t.mode = s.mode)) ∧
  (∀ (s : State) (p : Nat), p < 8 →
    s.bit (R.NZP_PLANE_CTL p) F.NZP_PLANE_CTL_COMMIT = true →
    Runs (.mapCommitAccept p) s (fun t => (t.planeAt p).gen = 1 - (s.planeAt p).gen ∧ (t.planeAt p).lp = s.effLine p ∧
      (t.planeAt p).pending = false ∧ t.mode = s.mode ∧ t.out = s.out)) ∧
  (∀ (s : State) (n : Nat) (q : Probe) (g : GateIn), n < s.part.ports →
    (s.portAt n).flying.find? (fun x => x.fired || x.void) = some q → q.fired = true → q.void = false → q.retry = false →
    q.line ≠ 2 ^ 48 - 2 → (s.portAt n).clsPend = false → g.base < 10 * s.fld (R.DGV_TH n) F.DGV_TH_BASE_MIN →
    Runs (.probeWindowClose n g) s (fun t => t.bit (R.DGV_STAT n) F.DGV_STAT_GATE_FAULT = true ∧
      (t.portAt n).flying = (s.portAt n).flying.erase q ∧ t.mode = s.mode ∧ t.chip = s.chip)) ∧
  (∀ (s : State) (n e : Nat), n < s.part.ports → (s.portAt n).barAfter = some e →
    (∀ i, i = 2 * n ∨ i = 2 * n + 1 → (s.rowAt i).live = false ∨ e < (s.rowAt i).undecided) →
    Runs (.headBarAtPageEnd n) s (fun t => (t.portAt n).barred = true ∧ (t.portAt n).barAfter = none ∧
      t.bit (R.DCT_ROW_CFG (2 * n)) F.DCT_ROW_CFG_EN = false ∧ t.bit (R.DCT_ROW_CFG (2 * n + 1)) F.DCT_ROW_CFG_EN = false ∧
      t.bit (R.NZP_TH_CFG n) F.NZP_TH_CFG_IW_EN = false ∧ Frame s t)) ∧
  (∀ (s : State) (m : Master) (n : Nat), n < s.part.ports → s.mayWrite m (R.DGV_SVC n) = true → s.mode = .service →
    (s.portAt n).st = .attached → s.bit (R.DGV_CFG n) F.DGV_CFG_EN = true → (s.portAt n).sweep = none →
    Runs (.dgvSvcGo m n) s (fun t => (t.portAt n).sweep.isSome = true ∧ t.mode = s.mode))

/-- Planes are armed and halted; thermal following errors (R103, R241). DCT_PLANE_ARM and DCT_PLANE_HALT set their
bits; THERMAL_FE_EXPIRY marks the zone and blocks the port; THERM_BLK_CLEAR clears the block of a port whose zones are
in band. Where the row is a register write, the write carries the register's RW fields as they stand (the model's
choice, log entry 62). -/
def Obligations.PlaneThermalRows : Prop :=
  (∀ (s : State) (m : Master) (p : Nat), p < 8 → s.mayWrite m (R.DCT_PLANE_CTL p) = true →
    Runs (.dctPlaneArm m p) s (fun t => t.bit (R.DCT_PLANE_CTL p) F.DCT_PLANE_CTL_ARM = true ∧
      t.bit (R.DCT_PLANE_CTL p) F.DCT_PLANE_CTL_HALT = s.bit (R.DCT_PLANE_CTL p) F.DCT_PLANE_CTL_HALT ∧ Frame s t)) ∧
  (∀ (s : State) (m : Master) (p : Nat), p < 8 → s.mayWrite m (R.DCT_PLANE_CTL p) = true →
    Runs (.dctPlaneHalt m p) s (fun t => t.bit (R.DCT_PLANE_CTL p) F.DCT_PLANE_CTL_HALT = true ∧
      t.bit (R.DCT_PLANE_CTL p) F.DCT_PLANE_CTL_ARM = s.bit (R.DCT_PLANE_CTL p) F.DCT_PLANE_CTL_ARM ∧ Frame s t)) ∧
  (∀ (s : State) (n z : Nat), n < s.part.ports → s.loopEn n z = true →
    s.tfeTime < s.fld (R.DCT_LOOP_SAT n z) F.DCT_LOOP_SAT_FE_CNT → (s.zoneAt n z).fe = false →
    Runs (.thermalFeExpiry n z) s (fun t => (t.zoneAt n z).fe = true ∧ t.bit R.DCT_THERM_BLK ⟨n, 1⟩ = true ∧
      t.mode = s.mode ∧ t.chip = s.chip ∧ t.out = s.out)) ∧
  (∀ (s : State) (m : Master) (n : Nat), n < s.part.ports → s.mayWrite m R.DCT_THERM_BLK = true → s.thermOk n = true →
    Runs (.thermBlkClear m (2 ^ n)) s (fun t => t.bit R.DCT_THERM_BLK ⟨n, 1⟩ = false ∧
      (∀ k, k < 32 → k ≠ n → t.bit R.DCT_THERM_BLK ⟨k, 1⟩ = s.bit R.DCT_THERM_BLK ⟨k, 1⟩) ∧ Frame s t))

/-- Screening and the strip FIFO (R164, R153, R181, R152, R182). SCREEN_LINE screens the next line; a commit pops the
oldest strip and adds its lines; PAUSE, RESET, a strip pushed and STALL cleared act as their registers say; where a
table failed, clearing STALL forgets the failure. Where the row is a register write, the write carries the register's
RW fields as they stand (the model's choice, log entry 62). -/
def Obligations.ScreeningRows : Prop :=
  (∀ (s : State) (p : Nat), p < 8 → s.screenMay p = true → s.dramBad = [] →
    Runs (.screenLine p [] none) s (fun t => (t.planeAt p).done = (s.planeAt p).done + 1 ∧ t.chip = s.chip ∧
      t.mode = s.mode ∧ t.out = s.out ∧ t.evFifo = s.evFifo)) ∧
  (∀ (s : State) (m : Master) (p : Nat) (x : Strip) (rest : List Strip), p < 8 → s.mayWrite m (R.SCR_PLANE_CTL p) = true →
    (s.planeAt p).strips = x :: rest → x.qp = none →
    Runs (.scrCommit m p) s (fun t => (t.planeAt p).strips = rest ∧
      (t.planeAt p).avail = ((s.planeAt p).avail + x.count) % 2 ^ 48 ∧ Frame s t)) ∧
  (∀ (s : State) (m : Master) (p : Nat), p < 8 → s.mayWrite m (R.SCR_PLANE_CTL p) = true → (s.planeAt p).strips = [] →
    Runs (.scrCommit m p) s (fun t => t.bit (R.SCR_PLANE_STAT p) F.SCR_PLANE_STAT_FIFO_OVF = true ∧
      (t.planeAt p).avail = (s.planeAt p).avail ∧ Frame s t)) ∧
  (∀ (s : State) (m : Master) (p : Nat) (on : Bool), p < 8 → s.mayWrite m (R.SCR_PLANE_CTL p) = true →
    Runs (.scrPause m p on) s (fun t => t.bit (R.SCR_PLANE_CTL p) F.SCR_PLANE_CTL_PAUSE = on ∧ Frame s t)) ∧
  (∀ (s : State) (m : Master) (p : Nat), p < 8 → s.mayWrite m (R.SCR_PLANE_CTL p) = true →
    ((s.planeAt p).job.map (fun j => j.st)) ≠ some .running → (∀ x ∈ (s.planeAt p).strips, x.qp = none) →
    Runs (.scrReset m p) s (fun t => (t.planeAt p).strips = [] ∧ (t.planeAt p).done = 0 ∧ (t.planeAt p).avail = 0 ∧
      (t.planeAt p).retired = 0 ∧ t.getN (R.SCR_PLANE_STAT p) = 0 ∧ Frame s t)) ∧
  (∀ (s : State) (m : Master) (p n : Nat), p < 8 → s.mayWrite m (R.SCR_STRIP_PUSH p) = true →
    (s.planeAt p).strips.length < 16 →
    Runs (.scrStripPush m p n) s (fun t =>
      (t.planeAt p).strips = (s.planeAt p).strips ++ [{ count := n % 2 ^ 24 }] ∧ t.regs = s.regs ∧ Frame s t)) ∧
  (∀ (s : State) (m : Master) (p : Nat), p < 8 → s.mayWrite m (R.SCR_PLANE_STAT p) = true →
    (m = .host ∨ (s.planeAt p).stallAt = none) →
    Runs (.scrStallClear m p) s (fun t => t.bit (R.SCR_PLANE_STAT p) F.SCR_PLANE_STAT_STALL = false ∧
      t.bit (R.SCR_PLANE_STAT p) F.SCR_PLANE_STAT_FIFO_OVF = s.bit (R.SCR_PLANE_STAT p) F.SCR_PLANE_STAT_FIFO_OVF ∧ Frame s t)) ∧
  (∀ (s : State) (p w : Nat), p < 8 → s.mayWrite .quill (R.SCR_PLANE_STAT p) = true → (s.planeAt p).stallAt = some w →
    Runs (.scrStallClear .quill p) s (fun t => t.bit (R.SCR_PLANE_STAT p) F.SCR_PLANE_STAT_STALL = false ∧
      (t.planeAt p).stallAt = none ∧ t.mode = s.mode ∧ t.dram = s.dram ∧ t.hostOut = s.hostOut))

/-- A job runs, is armed and ends (R149). JOB_RUNNING makes an opened job whose first lines are screened run;
JOB_ARM_DELAY_EXPIRY arms its plane; JOB_END ends it once its last line has retired. -/
def Obligations.JobRows : Prop :=
  (∀ (s : State) (p : Nat) (j : Job), p < 8 → s.jobReady p = true → (s.planeAt p).job = some j →
    Runs (.jobRunning p) s (fun t => (∃ j', (t.planeAt p).job = some j' ∧ j'.st = .running ∧ j'.start = j.start) ∧ Frame s t)) ∧
  (∀ (s : State) (p k : Nat) (j : Job), p < 8 → (s.planeAt p).job = some j → j.armWait = some k → s.mode = .print →
    Runs (.jobArmDelayExpiry p) s (fun t => t.bit (R.DCT_PLANE_CTL p) F.DCT_PLANE_CTL_ARM = true ∧
      (t.planeAt p).job = some { j with armed := true, armWait := none } ∧ t.chip = s.chip ∧ t.out = s.out)) ∧
  (∀ (s : State) (p : Nat) (j : Job), p < 8 → (s.planeAt p).job = some j → j.st = .running → j.armed = true →
    j.lastLine < s.retiredNow p → j.channel = none →
    Runs (.jobEnd p) s (fun t => (t.planeAt p).job = none ∧ t.regs = s.regs ∧ Frame s t))

/-- DMA channels start, halt, fail and stop (R343, R344, R363, R369, R364). A channel starts by GO, by an event or by
its doorbell; a bus error and a read timeout of the descriptor in hand record their cause; it is disabled, drains, is
DISABLED and is enabled again; GHALT is cleared. Where the row is a register write, the write carries the register's
RW fields as they stand (the model's choice, log entry 62). -/
def Obligations.DmaControlRows : Prop :=
  (∀ (s : State) (c : Nat), c < 64 → s.ghalt = false → s.chState c = 0 →
    Runs (.dmaChStart none c) s (fun t => t.chState c = 1 ∧
      t.chPtr c = ptrOf (s.get64 (R.DMA_CH_START_LO c) (R.DMA_CH_START_HI c)) ∧ Frame s t)) ∧
  (∀ (s : State) (m : Master) (c : Nat), c < 64 → s.mayWrite m (R.DMA_CH_CTL c) = true → s.ghalt = false → s.chState c = 0 →
    Runs (.dmaChStart (some m) c) s (fun t => t.chState c = 1 ∧ Frame s t)) ∧
  (∀ (s : State) (m : Master) (c v : Nat), c < 64 → s.mayWrite m (R.DMA_DB_LIMIT c) = true → s.ghalt = false → s.chState c = 0 →
    Runs (.dmaDoorbell m c v) s (fun t => t.chState c = 1 ∧
      t.chPtr c = ptrOf (s.get64 (R.DMA_DB_PTR_LO c) (R.DMA_DB_PTR_HI c)) ∧
      t.bit (R.DMA_CH_STAT c) F.DMA_CH_STAT_LIMITED = (v / 2 ^ 16 % 2 == 0) ∧
      t.fld (R.DMA_CH_SEQ c) F.DMA_CH_SEQ_LIMIT = (if v / 2 ^ 16 % 2 = 1 then 0 else v % 65536) ∧ Frame s t)) ∧
  (∀ (s : State) (c cause addr : Nat) (d : Desc), c < 64 → s.part = .sxv3200 → s.chState c = 1 → (s.chanAt c).desc = some d →
    d.srcSp = 0 → d.srcP ≠ [] → cause = 1 ∨ cause = 2 →
    Runs (.dmaBusErr c cause addr) s (fun t => t.bit (R.DMA_CH_STAT c) F.DMA_CH_STAT_BUS_ERR = true ∧
      t.fld (R.DMA_CH_STAT c) F.DMA_CH_STAT_CAUSE = cause ∧ t.mode = s.mode)) ∧
  (∀ (s : State) (c addr : Nat) (d : Desc), c < 64 → s.part = .sxv3200 → s.chState c = 1 → (s.chanAt c).desc = some d →
    d.srcP ≠ [] →
    Runs (.dmaReadTimeout c addr) s (fun t => t.bit (R.DMA_CH_STAT c) F.DMA_CH_STAT_BUS_ERR = true ∧
      t.fld (R.DMA_CH_STAT c) F.DMA_CH_STAT_CAUSE = 3 ∧ t.mode = s.mode)) ∧
  (∀ (s : State) (m : Master) (c : Nat), c < 64 → s.mayWrite m (R.DMA_CH_CTL c) = true →
    s.bit (R.DMA_CH_CTL c) F.DMA_CH_CTL_DISABLE = false → s.chState c < 4 →
    Runs (.dmaDisable m c) s (fun t => t.chState c = 4 ∧ t.bit (R.DMA_CH_CTL c) F.DMA_CH_CTL_DISABLE = true ∧
      (t.chanAt c).desc = none ∧ t.mode = s.mode)) ∧
  (∀ (s : State) (c : Nat), c < 64 → s.chState c = 4 → s.bit (R.DMA_CH_CTL c) F.DMA_CH_CTL_DISABLE = true →
    Runs (.dmaDrainEnd c) s (fun t => t.chState c = 5 ∧ t.fld (R.DMA_CH_STAT c) F.DMA_CH_STAT_BLK = 0 ∧ Frame s t)) ∧
  (∀ (s : State) (m : Master) (c : Nat), c < 64 → s.mayWrite m (R.DMA_CH_CTL c) = true →
    s.bit (R.DMA_CH_CTL c) F.DMA_CH_CTL_DISABLE = true → s.chState c = 5 →
    Runs (.dmaEnable m c) s (fun t => t.chState c = 0 ∧ t.bit (R.DMA_CH_CTL c) F.DMA_CH_CTL_DISABLE = false ∧ Frame s t)) ∧
  (∀ (s : State) (m : Master), s.mayWrite m R.DMA_GSTAT = true →
    Runs (.dmaGhaltClear m) s (fun t => t.ghalt = false ∧ Frame s t))

/-- DMA descriptors are fetched, checked and carried out (R349, R360). In its channel's turn a good descriptor is
taken as its bytes say; a copy within DRAM stores exactly its bytes; a copy from host memory does too, sends its read
requests, and stops at the sequence limit. -/
def Obligations.DmaDescriptorRows : Prop :=
  (∀ (s : State) (c a blk sp : Nat) (host src dst : Option (List Nat)) (b : List Nat) (ns : Bool), c < 64 → s.chState c = 1 →
    s.chTurn c = true → s.chPtr c = (sp, a) → sp ≠ 3 → s.beyond sp a 32 = false →
    ns = s.bit (R.DMA_CH_CFG c) F.DMA_CH_CFG_DESC_NS → (s.spRead sp a 32 host ns).1.toOption = some b →
    (s.chanAt c).reread = false →
    ((s.chanAt c).first = true ∨ (descOf b).seq = (s.fld (R.DMA_CH_SEQ c) F.DMA_CH_SEQ_SEQ + 1) % 65536) →
    s.descBad (descOf b) = false → (descOf b).srcSg = false → (descOf b).dstSg = false →
    Runs (.dmaDescriptorFetch c host src dst { blk := blk }) s (fun t => (t.chanAt c).desc = some { descOf b with
      srcP := if (descOf b).len = 0 then [] else [((descOf b).src, (descOf b).len)],
      dstP := if (descOf b).len = 0 then [] else [((descOf b).dst, (descOf b).len)] } ∧ t.chState c = 1 ∧
      Frame (s.hostReqs false sp a 32 ns) t)) ∧
  (∀ (s : State) (c k src dst : Nat) (d : Desc), c < 64 → s.chState c = 1 → (s.chanAt c).desc = some d →
    d.srcSp = 1 → d.dstSp = 1 → d.srcP = [(src, k)] → d.dstP = [(dst, k)] → d.swap = 0 → d.evt = 0 → s.dramBad = [] →
    s.chRoom c d = true → d.waitAck = false → d.last = true → s.bit (R.DMA_CH_STAT c) F.DMA_CH_STAT_PEND = false →
    Runs (.dmaDescriptorComplete c {}) s (fun t =>
      (∀ j, j < k → cellGet byte0 t.dram (dst + j) = cellGet byte0 s.dram (src + j)) ∧
      (∀ a, (a < dst ∨ dst + k ≤ a) → cellGet byte0 t.dram a = cellGet byte0 s.dram a) ∧
      t.chState c = 0 ∧ t.fld (R.DMA_CH_SEQ c) F.DMA_CH_SEQ_SEQ = d.seq % 65536 ∧ (t.chanAt c).desc = none ∧
      t.chip = s.chip ∧ t.mode = s.mode ∧ t.out = s.out ∧ t.evFifo = s.evFifo)) ∧
  (∀ (s : State) (c k src dst : Nat) (d : Desc) (data : List Nat), c < 64 → s.chState c = 1 → (s.chanAt c).desc = some d →
    d.srcSp = 0 → d.dstSp = 1 → d.srcP = [(src, k)] → d.dstP = [(dst, k)] → d.swap = 0 → d.evt = 0 →
    s.chRoom c d = true → d.waitAck = false → d.last = false → s.bit (R.DMA_CH_STAT c) F.DMA_CH_STAT_LIMITED = true →
    d.seq = s.fld (R.DMA_CH_SEQ c) F.DMA_CH_SEQ_LIMIT →
    Runs (.dmaDescriptorComplete c { data := data }) s (fun t =>
      (∀ j, j < k → cellGet byte0 t.dram (dst + j) = BitVec.ofNat 8 (data.getD j 0)) ∧
      (∀ a, (a < dst ∨ dst + k ≤ a) → cellGet byte0 t.dram a = cellGet byte0 s.dram a) ∧
      t.chState c = 2 ∧ (t.chanAt c).desc = none ∧ t.chip = s.chip ∧ t.mode = s.mode ∧
      t.out = (s.hostReqs false 0 src k d.ns).out))

/-- Accesses to on-chip memory and DRAM (R390, R416, R417). The alias windows set and clear exactly the bits written;
a BAR2 read returns the bytes or aborts across a 64-byte boundary; BAR4 reads and writes reach DRAM at the aperture's
base. -/
def Obligations.MemoryAccessRows : Prop :=
  (∀ (s : State) (a k data : Nat), a < 0x1000000 → s.refusal 0 (a % 0x1000000 + 0x1000000) k true = none →
    (k = 4 ∨ k = 8) →
    Runs (.aliasBitSet 0 a k data) s (fun t =>
      (∀ j, j < k → (cellGet byte0 t.chip (a + j)).toNat = (cellGet byte0 s.chip (a + j)).toNat ||| data / 256 ^ j % 256) ∧
      (∀ x, (x < a ∨ a + k ≤ x) → cellGet byte0 t.chip x = cellGet byte0 s.chip x) ∧ t.regs = s.regs ∧ t.dram = s.dram ∧
      t.mode = s.mode)) ∧
  (∀ (s : State) (a k data : Nat), a < 0x1000000 → s.refusal 0 (a % 0x1000000 + 0x2000000) k true = none →
    (k = 4 ∨ k = 8) →
    Runs (.aliasBitClear 0 a k data) s (fun t =>
      (∀ j, j < k → (cellGet byte0 t.chip (a + j)).toNat = (cellGet byte0 s.chip (a + j)).toNat -
        ((cellGet byte0 s.chip (a + j)).toNat &&& data / 256 ^ j % 256)) ∧
      (∀ x, (x < a ∨ a + k ≤ x) → cellGet byte0 t.chip x = cellGet byte0 s.chip x) ∧ t.regs = s.regs ∧ t.dram = s.dram ∧
      t.mode = s.mode)) ∧
  (∀ (s : State) (a k : Nat), 1 ≤ k → k ≤ 64 → a < 0x1000000 → a / 64 = (a + k - 1) / 64 → s.refusal 2 a k false = none →
    s.chipFaulty a k = none →
    Runs (.bar2Access a k none none) s (fun t => t.out = .read (ofLe (memRead s.chip a k)) :: s.out ∧ t.chip = s.chip ∧
      t.regs = s.regs ∧ t.mode = s.mode)) ∧
  (∀ (s : State) (a k : Nat), 1 ≤ k → k ≤ 64 → a < 0x1000000 → a / 64 ≠ (a + k - 1) / 64 →
    Runs (.bar2Access a k none none) s (fun t => t.out = .abort :: s.out ∧ t.chip = s.chip ∧ t.regs = s.regs)) ∧
  (∀ (s : State) (off k : Nat), off < 2 ^ 32 → s.dramSr = false →
    s.fld R.SYS_HOST_AP F.SYS_HOST_AP_BASE_GIB * 2 ^ 30 + off + k ≤ s.dramSize →
    s.dramFaulty (s.fld R.SYS_HOST_AP F.SYS_HOST_AP_BASE_GIB * 2 ^ 30 + off) k = none →
    Runs (.bar4Access off k none) s (fun t =>
      t.out = .read (memReadN s.dram (s.fld R.SYS_HOST_AP F.SYS_HOST_AP_BASE_GIB * 2 ^ 30 + off) k) :: s.out ∧
      t.dram = s.dram ∧ t.chip = s.chip ∧ t.regs = s.regs ∧ t.mode = s.mode)) ∧
  (∀ (s : State) (off : Nat) (bs : List Nat), off < 2 ^ 32 → s.dramSr = false →
    s.fld R.SYS_HOST_AP F.SYS_HOST_AP_BASE_GIB * 2 ^ 30 + off + bs.length ≤ s.dramSize →
    Runs (.bar4Access off bs.length (some bs)) s (fun t =>
      (∀ j, j < bs.length → cellGet byte0 t.dram (s.fld R.SYS_HOST_AP F.SYS_HOST_AP_BASE_GIB * 2 ^ 30 + off + j) =
        BitVec.ofNat 8 (bs.getD j 0)) ∧
      (∀ a, (a < s.fld R.SYS_HOST_AP F.SYS_HOST_AP_BASE_GIB * 2 ^ 30 + off ∨
          s.fld R.SYS_HOST_AP F.SYS_HOST_AP_BASE_GIB * 2 ^ 30 + off + bs.length ≤ a) →
        cellGet byte0 t.dram a = cellGet byte0 s.dram a) ∧
      t.chip = s.chip ∧ t.regs = s.regs ∧ t.mode = s.mode ∧ t.out = s.out))

/-- Scrubbing, BIST and retention (R400, R401, R410, R402, R396, R397, R398). Scrubbing records errors at the position
it has reached; BIST starts, moves on and ends; banks enter retention and wake; Bank L is switched off, cleared and
initialised. Where the row is a register write, the write carries the register's RW fields as they stand (the model's
choice, log entry 62). -/
def Obligations.MemoryCareRows : Prop :=
  (∀ (s : State) (b n : Nat), b < 6 → s.bit R.MEM_SCRUB_CFG F.MEM_SCRUB_CFG_EN = true →
    s.awake b ((bankSpan b).1 + (bankSpan b).2 - 1) = true → 0 < n →
    Runs (.sramScrubWindow b n none) s (fun t => t.bit R.MEM_STAT F.MEM_STAT_ECC_CORR = true ∧ t.chip = s.chip ∧ t.mode = s.mode)) ∧
  (∀ (s : State) (n w a : Nat), s.bit R.MEM_DRAM_SCRUB F.MEM_DRAM_SCRUB_EN = true → s.dramSr = false →
    a = (s.scrubAt 6).win * 512 + w % 512 →
    Runs (.dramScrub n (some w)) s (fun t => a ∈ t.dramBad ∧ t.bit R.MEM_STAT F.MEM_STAT_ECC_UNCORR = true ∧
      t.getN (R.MEM_ECC_ADDR 6) = a % 2 ^ 32 ∧ t.dram = s.dram ∧ t.chip = s.chip ∧ t.mode = s.mode)) ∧
  (∀ (s : State) (m : Master) (sel : Nat), s.mayWrite m R.MEM_BIST_CTL = true →
    s.bit R.MEM_BIST_STAT F.MEM_BIST_STAT_BUSY = false → sel < 64 → sel / 32 % 2 = 1 →
    Runs (.memBistGo m sel) s (fun t => t.bist = some (0, 0) ∧ t.bit R.MEM_BIST_STAT F.MEM_BIST_STAT_BUSY = true ∧ Frame s t)) ∧
  (∀ (s : State) (i w t0 : Nat), s.bist = some (i, w) → (s.advTo t0).bistMay (bistOrder.getD i 0) = true →
    w + 1 < bistWindows (bistOrder.getD i 0) →
    Runs (.bistWindow true false t0) s (fun t => t.bist = some (i, w + 1) ∧
      t.bit R.MEM_BIST_STAT ⟨bistOrder.getD i 0, 1⟩ = true ∧ Frame (s.advTo t0) t)) ∧
  (∀ (s : State) (m : Master), s.mayWrite m R.MEM_BIST_CTL = true →
    Runs (.memBistAbort m) s (fun t => t.bist = none ∧ t.bit R.MEM_BIST_STAT F.MEM_BIST_STAT_BUSY = false ∧ Frame s t)) ∧
  (∀ (s : State) (m : Master) (j : Nat), s.mayWrite m R.MEM_RET = true → j < 4 → bits (s.getN R.MEM_RET) j 1 = 0 →
    Runs (.retentionEnter m (2 ^ j)) s (fun t => bits (t.getN R.MEM_RET) j 1 = 1 ∧
      t.bit R.MEM_RET ⟨16 + j, 1⟩ = false ∧ Frame s t)) ∧
  (∀ (s : State) (m : Master) (j : Nat), s.mayWrite m R.MEM_RET = true → j < 4 → bits (s.getN R.MEM_RET) j 1 = 1 →
    Runs (.retentionWake m (2 ^ j)) s (fun t => bits (t.getN R.MEM_RET) j 1 = 0 ∧ (j, s.now + 40000) ∈ t.bankWake ∧ Frame s t)) ∧
  (∀ (s : State) (j : Nat), j < 4 → bits (s.getN R.MEM_RET) j 1 = 0 →
    Runs (.bankAwake j) s (fun t => t.bit R.MEM_RET ⟨16 + j, 1⟩ = true ∧ t.chip = s.chip ∧ t.mode = s.mode ∧ t.out = s.out)) ∧
  (∀ (s : State) (m : Master), s.mayWrite m R.MEM_RET = true → bits (s.getN R.MEM_RET) 4 1 = 0 →
    Runs (.lOffSet m) s (fun t => bits (t.getN R.MEM_RET) 4 1 = 1 ∧ t.bit R.MEM_RET ⟨20, 1⟩ = false ∧
      (∀ a, bankL ≤ a → a < bankL + 0x400000 → cellGet byte0 t.chip a = 0) ∧
      (∀ a, (a < bankL ∨ bankL + 0x400000 ≤ a) → cellGet byte0 t.chip a = cellGet byte0 s.chip a) ∧ t.dram = s.dram)) ∧
  (∀ (s : State) (m : Master), s.mayWrite m R.MEM_RET = true → bits (s.getN R.MEM_RET) 4 1 = 1 →
    Runs (.lOffClear m) s (fun t => bits (t.getN R.MEM_RET) 4 1 = 0 ∧ t.bit R.MEM_STAT F.MEM_STAT_L_INIT = true ∧ Frame s t)) ∧
  (∀ (s : State), bits (s.getN R.MEM_RET) 4 1 = 0 →
    Runs .lInitDone s (fun t => t.bit R.MEM_RET ⟨20, 1⟩ = true ∧ t.bit R.MEM_STAT F.MEM_STAT_L_INIT = false ∧ Frame s t))

/-- Head ports move between their states (R257, R329, R277, R286). Detection, the link, the record, the loss of a head
and a restart move a port between its states as the rows say. Where the row is a register write, the write carries the
register's RW fields as they stand (the model's choice, log entry 62). -/
def Obligations.PortStateRows : Prop :=
  (∀ (s : State) (n : Nat), n < s.part.ports → (s.portAt n).st = .detect → s.portType n = 1 →
    Runs (.headDetect n) s (fun t => (t.portAt n).st = .record ∧ (t.portAt n).since = s.now ∧ t.regs = s.regs ∧ MemKept s t ∧
      t.mode = s.mode ∧ t.out = .twoWireRead n 0x50 0 256 :: .twoWireRead n 0x50 0 256 :: s.out)) ∧
  (∀ (s : State) (n : Nat), n < s.part.ports → (s.portAt n).st = .detect → s.portType n = 2 →
    Runs (.headDetect n) s (fun t => MemKept s t ∧ t.mode = s.mode ∧ (t.portAt n).st = .link ∧ (t.portAt n).since = s.now)) ∧
  (∀ (s : State) (n : Nat), n < s.part.ports → (s.portAt n).st = .detect →
    Runs (.detectTimeout n) s (fun t => MemKept s t ∧ t.mode = s.mode ∧ (t.portAt n).st = .detect ∧ (t.portAt n).failed = true ∧ t.regs = s.regs ∧ t.out = s.out)) ∧
  (∀ (s : State) (n : Nat), n < s.part.ports → (s.portAt n).st = .link → (s.portAt n).waitDetect = false →
    Runs (.linkTimeout n) s (fun t => MemKept s t ∧ t.mode = s.mode ∧ (t.portAt n).waitDetect = true ∧ (t.portAt n).st = .link ∧
      t.fld (R.HP_STAT n) F.HP_STAT_LINK_FAIL =
        min (2 ^ F.HP_STAT_LINK_FAIL.w - 1) (s.fld (R.HP_STAT n) F.HP_STAT_LINK_FAIL + 1) ∧ t.out = s.out)) ∧
  (∀ (s : State) (n : Nat), n < s.part.ports → (s.portAt n).waitDetect = true →
    Runs (.detectReturn n) s (fun t => MemKept s t ∧ t.mode = s.mode ∧ (t.portAt n).st = .detect ∧ (t.portAt n).waitDetect = false ∧ t.regs = s.regs ∧ t.out = s.out)) ∧
  (∀ (s : State) (n : Nat) (d : RecordIn) (r : List Nat), n < s.part.ports → (s.portAt n).st = .record →
    (s.portAt n).waitDetect = false → s.portType n = 1 → recordRead d = some r →
    Runs (.recordReadDone n (some d)) s (fun t => (t.portAt n).st = .present ∧ (t.portAt n).record = r ∧
      t.mode = s.mode ∧ t.out = s.out)) ∧
  (∀ (s : State) (n : Nat), n < s.part.ports → s.portType n = 2 → s.portHasHead n = true → (s.portAt n).wb = none →
    Runs (.headLossTimeout n) s (fun t => (t.portAt n).st = .lost ∧ t.bit (R.HP_STAT n) F.HP_STAT_LOST = true ∧
      t.bit (R.DCT_ROW_CFG (2 * n)) F.DCT_ROW_CFG_EN = false ∧ t.bit (R.DCT_ROW_CFG (2 * n + 1)) F.DCT_ROW_CFG_EN = false ∧
      t.mode = s.mode ∧ t.out = s.out)) ∧
  (∀ (s : State) (n : Nat), n < s.part.ports → s.portType n = 1 → s.portHasHead n = true →
    Runs (.typeSPoll n true) s (fun t => (t.portAt n).pollFails = 0 ∧ (t.portAt n).st = (s.portAt n).st ∧ t.regs = s.regs ∧ Frame s t)) ∧
  (∀ (s : State) (n : Nat), n < s.part.ports → s.portType n = 1 → s.portHasHead n = true → 2 ≤ (s.portAt n).pollFails →
    (s.portAt n).wb = none →
    Runs (.typeSPoll n false) s (fun t => (t.portAt n).st = .lost ∧ t.bit (R.HP_STAT n) F.HP_STAT_LOST = true)) ∧
  (∀ (s : State) (m : Master) (n : Nat), n < s.part.ports → s.mayWrite m (R.HP_CFG n) = true → (s.portAt n).st = .lost →
    s.bit (R.HP_CFG n) F.HP_CFG_EN = true →
    Runs (.hpRestart m n) s (fun t => MemKept s t ∧ t.mode = s.mode ∧ (t.portAt n).st = .detect ∧ t.out = s.out))

/-- Back-channel packets (R272, R275, R328, R270). A packet whose CRC fails on its bytes is counted and has no other
effect stated here; the bytes of an ACK or NAK take the awaited line off; temperatures, management answers and link
status are recorded. -/
def Obligations.BackChannelRows : Prop :=
  (∀ (s : State) (n : Nat) (pkt : List Nat) (p : BcIn) (c : Instr), BcOpen s n → (s.portAt n).st ≠ .off → bcParse pkt = some p →
    p.crcOk = false → (c = .bcAck n pkt ∨ c = .bcNak n pkt ∨ c = .bcTemp n pkt ∨ c = .bcMgmt n pkt ∨ c = .bcLink n pkt) →
    Runs c s (fun t => t.fld (R.HP_CNT_BC n) F.HP_CNT_BC_BC_CRC =
      min (2 ^ F.HP_CNT_BC_BC_CRC.w - 1) (s.fld (R.HP_CNT_BC n) F.HP_CNT_BC_BC_CRC + 1) ∧
      (t.portAt n).lastBc = (s.portAt n).lastBc ∧ Frame s t)) ∧
  (∀ (s : State) (n : Nat) (pkt : List Nat) (p : BcIn) (a : Await), BcOpen s n → s.portHasHead n = true → Reads pkt p → p.ty = 1 →
    p.trim = none → (∀ x ∈ (s.rowAt (2 * n + p.row % 2)).await, s.now ≤ x.ts + 16000) →
    s.awaited (2 * n + p.row % 2) p.pcnt = some a →
    Runs (.bcAck n pkt) s (fun t => MemKept s t ∧ t.mode = s.mode ∧
      (t.rowAt (2 * n + p.row % 2)).await = (s.rowAt (2 * n + p.row % 2)).await.erase a ∧
      (t.rowAt (2 * n + p.row % 2)).nakArm = true ∧ (t.portAt n).lastBc = s.now ∧ t.out = s.out)) ∧
  (∀ (s : State) (n : Nat) (pkt : List Nat) (p : BcIn) (a : Await), BcOpen s n → s.portHasHead n = true → Reads pkt p → p.ty = 2 →
    p.trim = none → (∀ x ∈ (s.rowAt (2 * n + p.row % 2)).await, s.now ≤ x.ts + 16000) →
    s.awaited (2 * n + p.row % 2) p.pcnt = some a → a.kind = .line →
    Runs (.bcNak n pkt) s (fun t => MemKept s t ∧ t.mode = s.mode ∧
      (t.rowAt (2 * n + p.row % 2)).await = (s.rowAt (2 * n + p.row % 2)).await.erase a ∧
      (t.rowAt (2 * n + p.row % 2)).nakArm = false ∧ t.out = s.out)) ∧
  (∀ (s : State) (n : Nat) (pkt : List Nat) (p : BcIn) (x : Int) (l : List Int), BcOpen s n → s.portHasHead n = true →
    Reads pkt p → p.ty = 3 → p.temps = x :: l → l.length = 7 →
    Runs (.bcTemp n pkt) s (fun t => t.fld (R.HP_TEMP n 0) F.HP_TEMP_TEMP = uns 16 x ∧ Frame s t)) ∧
  (∀ (s : State) (n : Nat) (pkt : List Nat) (p : BcIn) (a : Nat) (l : List Nat), BcOpen s n → s.portHasHead n = true →
    Reads pkt p → p.ty = 4 → (s.portAt n).mgmtPend = a :: l → a < 0x100 → (s.portAt n).wb = none → p.status = 0 →
    Runs (.bcMgmt n pkt) s (fun t => (t.portAt n).mgmtPend = l ∧ (a, p.data) ∈ (t.portAt n).mgmt ∧ Frame s t)) ∧
  (∀ (s : State) (n : Nat) (pkt : List Nat) (p : BcIn), BcOpen s n → s.portHasHead n = true → Reads pkt p → p.ty = 5 →
    p.lock &&& s.lanesUsed n = s.lanesUsed n →
    Runs (.bcLink n pkt) s (fun t => t.fld (R.HP_STAT n) F.HP_STAT_LANE_LOCK = p.lock % 16 ∧
      (t.portAt n).st = (s.portAt n).st ∧ Frame s t)) ∧
  (∀ (s : State) (n : Nat) (pkt : List Nat) (p : BcIn), BcOpen s n → (s.portAt n).st = .link → (s.portAt n).waitDetect = false →
    Reads pkt p → p.ty = 5 → p.lock &&& s.lanesUsed n = s.lanesUsed n →
    Runs (.bcLink n pkt) s (fun t => MemKept s t ∧ t.mode = s.mode ∧ (t.portAt n).st = .record))

/-- Temperatures, trims, watchdogs and usage (R276, R273, R292, R280, R335, R336). A Type S temperature measurement is
converted or flagged out of range; a trim set starts and fails after its tries; the watchdog bits are cleared; a
self-test sends its eight edges, none in OFF, and is noted; a usage write-back starts and ends. Where the row is a
register write, the write carries the register's RW fields as they stand (the model's choice, log entry 62). -/
def Obligations.PortServiceRows : Prop :=
  (∀ (s : State) (n : Nat) (dv : Int), n < s.part.ports → s.portType n = 1 → s.portHasHead n = true →
    s.fld (R.HP_TS_CFG n) F.HP_TS_CFG_NF = 0 →
    Runs (.typeSTempMeasure n dv) s (fun t => (t.portAt n).tsZone = ((s.portAt n).tsZone + 1) % 4 ∧
      t.bit (R.HP_STAT n) F.HP_STAT_TS_RANGE = true ∧ Frame s t)) ∧
  (∀ (s : State) (n : Nat) (dv den num : Int), n < s.part.ports → s.portType n = 1 → s.portHasHead n = true →
    den = s.fld (R.HP_TS_CFG n) F.HP_TS_CFG_NF * 19842000 → num = dv * 1638400 - 27315 * (den / 100) → 0 < den →
    -20 * den ≤ num → num ≤ 150 * den → 16 * num % den = 0 →
    Runs (.typeSTempMeasure n dv) s (fun t => (t.portAt n).tsZone = ((s.portAt n).tsZone + 1) % 4 ∧
      t.fld (R.HP_TEMP n (s.portAt n).tsZone) F.HP_TEMP_TEMP = uns 16 (16 * num / den) ∧ Frame s t)) ∧
  (∀ (s : State) (m : Master) (n : Nat), n < s.part.ports → s.mayWrite m (R.HP_TRIM_CTL n) = true → (s.portAt n).trimOn = false →
    s.portType n = 2 → (s.portAt n).st ≠ .off → s.nprSet n ≠ 0 →
    Runs (.trimGo m n) s (fun t => MemKept s t ∧ t.mode = s.mode ∧ (t.portAt n).trimOn = true ∧
      t.bit (R.HP_TRIM_CTL n) F.HP_TRIM_CTL_GO = true)) ∧
  (∀ (s : State) (n lane sq : Nat) (f : TrimFrame), n < s.part.ports →
    (s.portAt n).trim.find? (fun x => x.lane = lane && x.seq = sq) = some f → 3 ≤ f.tries → (s.portAt n).trimAgain = false →
    s.qps = [] →
    Runs (.trimFrameTimeout n lane sq) s (fun t => (t.portAt n).trimOn = false ∧ t.bit (R.HP_TRIM_CTL n) F.HP_TRIM_CTL_FAIL = true ∧
      t.bit (R.HP_TRIM_CTL n) F.HP_TRIM_CTL_GO = false ∧ t.mode = s.mode ∧ t.out = s.out)) ∧
  (∀ (s : State) (m : Master) (n v : Nat), n < s.part.ports → s.mayWrite m (R.HP_WDOG n) = true → bits v 7 1 = 0 →
    Runs (.hpWdogClear m n v) s (fun t => t.getN (R.HP_WDOG n) = s.getN (R.HP_WDOG n) -
      (s.getN (R.HP_WDOG n) &&& (v &&& if (s.portAt n).selfOk then 0x5F else 0x50)) ∧ t.ports = s.ports ∧ Frame s t)) ∧
  (∀ (s : State) (m : Master) (n : Nat) (pass : Bool), n < s.part.ports → s.mayWrite m (R.HP_WDOG n) = true →
    Runs (.strobeSelfTest m n pass) s (fun t => (t.portAt n).selfOk = pass ∧
      t.out.length = s.out.length + (if (s.portAt n).st = .off then 0 else 8) ∧
      (pass = false → t.bit (R.HP_WDOG n) F.HP_WDOG_SELFTEST_FAIL = true) ∧ t.mode = s.mode ∧ t.chip = s.chip)) ∧
  (∀ (s : State) (n : Nat) (trailer : Option (List Nat)), n < s.part.ports → s.portType n = 2 → (s.portAt n).wb = none →
    2 ^ 24 ≤ (s.portAt n).d → (s.portAt n).st = .attached → (s.portAt n).untrusted = false → (s.portAt n).record ≠ [] →
    Runs (.usageWriteBack n trailer) s (fun t => (t.portAt n).wb = some { final := false, full := true } ∧
      0xE0 ∈ (t.portAt n).mgmtPend ∧ t.mode = s.mode)) ∧
  (∀ (s : State) (n : Nat) (w : WriteBack), n < s.part.ports → s.portType n = 1 → (s.portAt n).wb = some w → w.expect ≠ [] →
    w.newUsage ≠ usageMax → (s.portAt n).wbNext = none →
    Runs (.writeBackDone n (some w.expect)) s (fun t => (t.portAt n).wb = none ∧ (t.portAt n).wbFail = false ∧
      (t.portAt n).d = (s.portAt n).d - w.units * 1024 ∧ (t.portAt n).record = (s.portAt n).record.take 0xE0 ++ w.expect ∧
      t.mode = s.mode ∧ t.out = .twoWireRead n 0x50 0xE0 32 :: s.out))

/-- The queue pairs of generations Z1, Z2 and Z3 (R428, R429, R432, R434, R426, R436, R419). A Z1 GO, a Z2 push and a
Z3 fetch each submit the command in their window; doorbells within the ring are taken and others flagged; a queue pair
drains to OFF; after READY, MSI-X vectors are sent or left pending; a diagnostic session times out. -/
def Obligations.HostQueueRows : Prop :=
  (∀ (s : State) (irq : Bool) (ind : Option (List Nat)) (c : Cmd), s.qpMode 0 = 3 → (s.qpAt 0).st = 1 → (s.qpAt 0).sq = [] →
    s.bit R.MBX_Z1_CTL F.MBX_Z1_CTL_GO = false →
    s.cmdOf s.now ((List.range 16).flatMap (fun w => leBytes 4 (s.getN (R.MBX_Z1_WIN w)))) 56 ind = c → c.pre = none →
    Runs (.z1Go irq ind) s (fun t => (t.qpAt 0).sq = [c] ∧ t.bit R.MBX_Z1_CTL F.MBX_Z1_CTL_GO = true ∧
      t.bit R.MBX_Z1_CTL F.MBX_Z1_CTL_IRQ = irq ∧
      Frame (s.indFetch 0 c ((List.range 16).flatMap (fun w => leBytes 4 (s.getN (R.MBX_Z1_WIN w))))) t)) ∧
  (∀ (s : State) (q v : Nat) (ind : Option (List Nat)) (c : Cmd), q < 32 → s.qpMode q = 1 → (s.qpAt q).st = 1 →
    (s.qpAt q).sq = [] → s.ready = true →
    s.cmdOf s.now (((((s.qpAt q).asm ++ List.replicate 16 0).take 16).set 15 v).flatMap (leBytes 4)) 56 ind = c → c.pre = none →
    Runs (.z2Push q v ind) s (fun t => (t.qpAt q).sq = [c] ∧ (t.qpAt q).asm = [] ∧ t.regs = s.regs ∧
      Frame (s.indFetch q c (((((s.qpAt q).asm ++ List.replicate 16 0).take 16).set 15 v).flatMap (leBytes 4))) t)) ∧
  (∀ (s : State) (q v : Nat) (ind : Option (List Nat)), q < 32 → s.qpMode q = 1 → (s.qpAt q).st = 1 → s.ready = true →
    16 ≤ (s.qpAt q).sq.length →
    Runs (.z2Push q v ind) s (fun t => t.bit (R.MBX_QP_STAT q) F.MBX_QP_STAT_OVF = true ∧ (t.qpAt q).sq = (s.qpAt q).sq ∧
      t.mode = s.mode ∧ t.chip = s.chip ∧ t.out = s.out)) ∧
  (∀ (s : State) (q : Nat) (e : List Nat) (rest : List (List Nat)), q < 32 → s.qpMode q = 1 → (s.qpAt q).cq = e :: rest →
    (s.qpAt q).sq = [] → Runs (.z2Pop q) s (fun t => (t.qpAt q).cq = rest ∧ t.regs = s.regs ∧ Frame s t)) ∧
  (∀ (s : State) (q v : Nat), q < 32 → s.ready = true → v < s.ringSize q →
    Runs (.z3SqDoorbell q v) s (fun t => t.getN (R.MBX_Z3_SQ_TAIL q) = v ∧ (t.qpAt q).stop = false ∧ Frame s t)) ∧
  (∀ (s : State) (q v : Nat), q < 32 → s.ready = true → v < s.ringSize q →
    Runs (.z3CqDoorbell q v) s (fun t => t.getN (R.MBX_Z3_CQ_HEAD q) = v ∧ t.qpAt q = { s.qpAt q with stop := false } ∧ Frame s t)) ∧
  (∀ (s : State) (q v : Nat) (c : Instr), q < 32 → s.ready = true → s.ringSize q ≤ v →
    c = .z3SqDoorbell q v ∨ c = .z3CqDoorbell q v →
    Runs c s (fun t => t.bit (R.MBX_QP_STAT q) F.MBX_QP_STAT_DB_ERR = true ∧ t.qps = s.qps ∧ Frame s t)) ∧
  (∀ (s : State) (q : Nat) (m : List Nat) (ind : Option (List Nat)) (c : Cmd), q < 32 → s.qpMode q = 2 → (s.qpAt q).st = 1 →
    (s.qpAt q).stop = false → s.ready = true → (s.qpAt q).head ≠ s.getN (R.MBX_Z3_SQ_TAIL q) → s.z3Room q = true →
    (s.qpAt q).sq = [] → s.cmdOf (s.doorSeen q) ((m ++ List.replicate 256 0).take 256) 248 ind = c → c.pre = none →
    Runs (.z3Fetch q (some m) ind) s (fun t => (t.qpAt q).sq = [c] ∧
      (t.qpAt q).head = ((s.qpAt q).head + 1) % s.ringSize q ∧ t.regs = s.regs ∧
      Frame ((s.emit (.hostReq false (s.get64 (R.MBX_Z3_SQ_BASE_LO q) (R.MBX_Z3_SQ_BASE_HI q) / 4096 * 4096 +
        (s.qpAt q).head * 256) 256 (s.qpNs q))).indFetch q c ((m ++ List.replicate 256 0).take 256)) t)) ∧
  (∀ (s : State) (q : Nat), q < 32 → (s.qpAt q).st = 1 →
    Runs (.qpModeOff q) s (fun t => (t.qpAt q).st = 2 ∧ (t.qpAt q).sq = (s.qpAt q).sq ∧
      t.fld (R.MBX_QP_CFG q) F.MBX_QP_CFG_MODE = 0 ∧ Frame s t)) ∧
  (∀ (s : State) (q : Nat), q < 32 → (s.qpAt q).st = 2 → (s.qpAt q).sq = [] → (s.qpAt q).cur = none →
    Runs (.qpDrainEnd q) s (fun t => (t.qpAt q).st = 0 ∧ (t.qpAt q).mode = 0 ∧ t.regs = s.regs ∧ Frame s t)) ∧
  (∀ (s : State) (v d : Nat), v < 64 → (s.vecAt v).due = some d → s.ready = true → s.pcie.msixEn = true → s.pcie.msixMask = false →
    s.bit (R.MBX_MSIX_CTRL v) F.MBX_MSIX_CTRL_MASK = false →
    Runs (.msixCoalesceExpiry v) s (fun t => MemKept s t ∧ t.mode = s.mode ∧ t.out = .msix v :: s.out ∧ (t.vecAt v).due = none ∧ t.regs = s.regs)) ∧
  (∀ (s : State) (v d : Nat), v < 64 → (s.vecAt v).due = some d → s.ready = true → s.pcie.msixEn = true →
    (s.pcie.msixMask = true ∨ s.bit (R.MBX_MSIX_CTRL v) F.MBX_MSIX_CTRL_MASK = true) →
    Runs (.msixCoalesceExpiry v) s (fun t => MemKept s t ∧ t.mode = s.mode ∧ t.bit (R.MBX_MSIX_PBA (v / 32)) ⟨v % 32, 1⟩ = true ∧ t.out = s.out)) ∧
  (∀ (s : State) (d : Nat), s.diag = some d → Runs .diagSessionTimeout s (fun t => t.diag = none ∧ t.mode = s.mode ∧
    t.chip = s.chip ∧ t.dram = s.dram ∧ t.out = s.out))

/-- Where a completion goes in each generation (R422, R429, R434, R428). A completion goes to the completion FIFO in
Z2, to the completion ring in host memory at the tail in Z3, and clears GO in Z1. -/
def Obligations.CompletionPlaces : Prop :=
  ∀ (s : State) (q : Nat) (c : Cmd) (status : Nat) (res : List Nat), (s.qpAt q).dead = false →
    (s.qpMode q = 1 → ((s.deliverCpl q c status res).qpAt q).cq =
      (s.qpAt q).cq ++ [cplBytes c status false (s.bit R.SYS_MODE F.SYS_MODE_LIMITED) (s.qpAt q).sq.length res]) ∧
    (s.qpMode q = 2 → ∀ j, j < 32 →
      cellGet byte0 (s.deliverCpl q c status res).hostOut
        (s.get64 (R.MBX_Z3_CQ_BASE_LO q) (R.MBX_Z3_CQ_BASE_HI q) / 4096 * 4096 + (s.qpAt q).ctail * 32 + j) =
      BitVec.ofNat 8 ((cplBytes c status (s.qpAt q).phase (s.bit R.SYS_MODE F.SYS_MODE_LIMITED) (s.qpAt q).head res).getD j 0)) ∧
    (s.qpMode q = 3 → (s.deliverCpl q c status res).bit R.MBX_Z1_CTL F.MBX_Z1_CTL_GO = false)

/-- A denied host write has no effect but its record (R423, R17, R363, R15). A host write of a register that the host
may not write increments MBX_HOST_DENY, records the offset in MBX_DENY_ADDR, and leaves every other register, the
queue pairs and the memories as they are, and raises no event. Doorbells of DMA channels, whose denial R363 treats,
are outside this statement. -/
def Obligations.DeniedWrites : Prop :=
  ∀ (s : State) (off v : Nat) (full : Bool), s.mayWrite .host off = false → (off < 0x0B20000 ∨ 0x0B20400 ≤ off) →
    Runs (.registerWrite .host off v full) s (fun t => t.getN R.MBX_DENY_ADDR = off % 2 ^ 26 ∧
      t.getN R.MBX_HOST_DENY = min 0xFFFFFFFF (s.getN R.MBX_HOST_DENY + 1) ∧
      (∀ a, a ≠ R.MBX_DENY_ADDR → a ≠ R.MBX_HOST_DENY → t.get a = s.get a) ∧ t.qps = s.qps ∧ Frame s t)

/-- R46: reserved offsets read 0 and writes to them do nothing. No register lies from 0x1100000 to 0x3FFFFFF; a read
of an offset that has no register returns 0, and an allowed write of it has no effect. -/
def Obligations.ReservedOffsets : Prop :=
  (∀ (s : State) (off : Nat), 0x1100000 ≤ off → off ≤ 0x3FFFFFF → s.regOf off = none) ∧
  (∀ (s : State) (off : Nat), regFind off = none →
    Runs (.latchingRead off) s (fun t => t.out = .read 0 :: s.out ∧ t.regs = s.regs ∧ t.latch = s.latch ∧ t.mode = s.mode)) ∧
  (∀ (s : State) (m : Master) (off v : Nat), s.mayWrite m off = true → regFind off = none →
    Runs (.registerWrite m off v true) s (fun t => t.regs = s.regs ∧ t.qps = s.qps ∧ t.chans = s.chans ∧ t.ports = s.ports ∧
      t.planes = s.planes ∧ t.enc = s.enc ∧ t.rows = s.rows ∧ Frame s t))

/-- Register reads return values and clear what a read clears; a plain write stores (R15, R99). A read that no latch
holds returns the register's value; RC_READ clears the fields that a read clears and no others; an allowed write of a
register whose write does nothing else (those listed in plainBases) stores what the access codes of its fields let it,
and changes no other register. -/
def Obligations.RegisterReads : Prop :=
  (∀ (s : State) (off : Nat), s.latch.find? (fun x => x.1 = off) = none →
    Runs (.latchingRead off) s (fun t => t.out = .read (s.regValue off) :: s.out ∧
      (∀ a ∈ companions off, (a, s.regValue a) ∈ t.latch) ∧ t.regs = s.regs ∧ t.mode = s.mode ∧ t.chip = s.chip)) ∧
  (∀ (s : State) (off : Nat) (r : RegSpec) (i j : Nat), s.regOf off = some (r, i, j) →
    Runs (.rcRead off) s (fun t => t.getN off = s.getN off - (s.getN off &&& r.rc.toNat) ∧
      (∀ a, a ≠ off → t.get a = s.get a) ∧ t.mode = s.mode ∧ t.chip = s.chip)) ∧
  (∀ (s : State) (m : Master) (off v : Nat) (r : RegSpec) (i j : Nat), s.mayWrite m off = true → s.regOf off = some (r, i, j) →
    r.base ∈ plainBases →
    Runs (.registerWrite m off v true) s (fun t =>
      t.get off = regWritten { r with w1s := 0 } (s.get off) (BitVec.ofNat 32 v) ∧ (∀ a, a ≠ off → t.get a = s.get a) ∧ Frame s t))

/-- R47: SYS_ID by part. SYS_ID lies at offset 0 and reads as the part says. -/
def Obligations.SysIdByPart : Prop :=
  R.SYS_ID = 0 ∧ ∀ s : State, s.regValue R.SYS_ID = (match s.part with
    | .sxv3200 => 0x0008B020
    | .sxv1600 => 0x0008B010
    | .sxv0800 => 0x0008B008)

/-- Mboca links (R485, R480). A link gains block lock, sends LINK frames, comes up after good frames, goes down and is
retried; a join that times out completes with FAULT. -/
def Obligations.ChainLinkRows : Prop :=
  (∀ (s : State) (pt : Nat), pt < 2 → (s.mport pt).run = true → (s.mport pt).lock = false → s.chain.ports.length = 2 →
    Runs (.blockLock pt) s (fun t => (t.mport pt).lock = true ∧ (t.mport pt).good = 0 ∧ t.regs = s.regs ∧ Frame s t)) ∧
  (∀ (s : State) (pt : Nat), pt < 2 → (s.mport pt).lock = true →
    Runs (.mbocaLinkSend pt) s (fun t => StillMem s t ∧ t.out = .mboca pt (frameBlocks <| frameBytes 0x01 s.myIdx 0 (s.mport pt).txSeq 0xFF 0
      [s.myIdx, s.fld R.CHN_CFG F.CHN_CFG_COUNT]) s.now :: s.out ∧ t.regs = s.regs)) ∧
  (∀ (s : State) (pt : Nat) (f : MFrame), pt < 2 → s.chain.ports.length = 2 → s.ready = true → (s.mport pt).lock = true →
    (s.mport pt).up = false → (s.mport pt).due = [] → (s.mport pt).after = [] → s.fijGate = false → frameGood f.bytes = true →
    f.ty = 0x01 → (s.mport pt).expect = none → leAt f.payload 1 1 = s.fld R.CHN_CFG F.CHN_CFG_COUNT →
    Runs (.mbocaLinkFrame pt f) s (fun t => (t.mport pt).good = (s.mport pt).good + 1 ∧
      (t.mport pt).up = decide (2 ≤ (s.mport pt).good) ∧ (t.mport pt).lastRx = s.now ∧ Frame s t)) ∧
  (∀ (s : State) (pt : Nat), pt < 2 → s.chain.ports.length = 2 → (s.mport pt).run = true →
    Runs (.mbocaLinkDown pt false) s (fun t => StillMem s t ∧ (t.mport pt).run = false ∧ (t.mport pt).up = false ∧ (t.mport pt).lock = false ∧
      (t.mport pt).retryAt = some (s.now + (s.mport pt).wait * 2000000) ∧ t.out = s.out)) ∧
  (∀ (s : State) (pt a : Nat), pt < 2 → s.chain.ports.length = 2 → (s.mport pt).retryAt = some a →
    Runs (.mbocaRetry pt) s (fun t => MemKept s t ∧ t.mode = s.mode ∧ (t.mport pt).run = true ∧ (t.mport pt).retryAt = none ∧ t.regs = s.regs ∧ t.out = s.out)) ∧
  (∀ (s : State) (q : Nat) (c : Cmd), q < 32 → (s.qpAt q).cur = some (c, .join) →
    (∀ r, r < 32 → r ≠ q → s.waitOf r ≠ some .join) →
    s.qpMode q = 1 → (s.qpAt q).dead = false → (s.qpAt q).sq = [] → s.syncSt ≠ 2 →
    Runs .joinTimeout s (fun t => (t.qpAt q).cur = none ∧
      (t.qpAt q).cq = (s.qpAt q).cq ++ [cplBytes c stFault false (s.bit R.SYS_MODE F.SYS_MODE_LIMITED) 0 []]))

/-- ANNOUNCE, OBS, EVT and MSG frames (R491, R500, R502, R503). Announcements are sent and recorded; observer frames
are held; forwarded events enter the event FIFO; messages reach the inbox. -/
def Obligations.ChainFrameRows : Prop :=
  (∀ s : State, s.joined = true → (s.mport 0).up = true → (s.mport 1).up = false →
    Runs .announceSend s (fun t => MemKept s t ∧ t.mode = s.mode ∧ (∃ o, t.out = .mboca 0 (frameBlocks <| frameBytes 0x02 s.myIdx 0 (s.mport 0).txSeq 0xFF o
      (leBytes 8 s.chain.ident ++ [s.myPref] ++ leBytes 2 s.myHeads ++ [s.syncSt])) s.now :: s.out) ∧
      t.regs = s.regs ∧ t.dt = s.dt)) ∧
  (∀ (s : State) (pt : Nat) (f : MFrame), pt < 2 → Arrives s pt f → New s 0x02 f → s.joined = true →
    Runs (.announce pt f) s (fun t => MemKept s t ∧ t.mode = s.mode ∧ (∃ m ∈ t.chain.members, m.idx = f.src ∧ m.ident = leAt f.payload 0 8 ∧
      m.pref = leAt f.payload 8 1 ∧ m.at_ = s.now) ∧ t.dt = s.dt)) ∧
  (∀ (s : State) (pt : Nat) (f : MFrame), pt < 2 → Arrives s pt f → New s 0x20 f → s.joined = true →
    s.tick.getD 0 < leAt f.payload 0 8 + 2 → s.now ≤ (leAt f.payload 0 8 + 2) * 8000 →
    Runs (.obs pt f) s (fun t => MemKept s t ∧ t.mode = s.mode ∧ obsParse f.payload ∈ t.copy.held ∧ t.dt = s.dt)) ∧
  (∀ (s : State) (pt : Nat) (f : MFrame), pt < 2 → Arrives s pt f → New s 0x30 f → s.bit R.CHN_CFG F.CHN_CFG_EVT_FWD = true →
    s.evFifo.length < 256 →
    Runs (.evt pt f) s (fun t => MemKept s t ∧ t.mode = s.mode ∧ (∃ e, t.evFifo = s.evFifo ++ [e] ∧ e.code = leAt f.payload 0 2 ∧
      e.obj = leAt f.payload 2 4 ∧ e.at_ = leAt f.payload 6 8 ∧ e.remote = some f.src) ∧ t.dt = s.dt)) ∧
  (∀ (s : State) (pt : Nat) (f : MFrame), pt < 2 → Arrives s pt f → New s 0x40 f →
    Runs (.msg pt f) s (fun t => MemKept s t ∧ t.mode = s.mode ∧ t.chain.inbox = s.chain.inbox ++ [(f.src, f.payload.take 48)] ∧
      t.regs = s.regs ∧ t.dt = s.dt))

/-- The chain master and shared time (R492, R494, R495). An election takes the device as the master where it alone may
be; SYNC_REQ and SYNC_RESP carry the four time stamps; a measurement is taken from them; the coast timer expires. -/
def Obligations.SharedTimeRows : Prop :=
  (∀ s : State, s.joined = true → s.alive = [] → s.myPref ≠ 0 → 1 ≤ s.fld R.CHN_CFG F.CHN_CFG_COUNT →
    s.myHeads ≤ s.chain.heads → s.chain.conflictAt = none →
    Runs .masterElection s (fun t => t.chain.next = some (some s.myIdx, none, 0) ∧ Frame s t)) ∧
  (∀ (s : State) (pt : Nat), s.joined = true → s.isMaster = false → s.syncSt ≠ 0 → s.chain.asked = false →
    s.chain.syncPort = some pt →
    Runs .syncReqSend s (fun t => MemKept s t ∧ t.mode = s.mode ∧ t.chain.meas = some { t1 := s.now * 16, seq := (s.mport pt).txSeq, pt := pt } ∧
      t.chain.asked = true ∧ t.out = .mboca pt (frameBlocks <| frameBytes 0x10 s.myIdx 0 (s.mport pt).txSeq 0xFF 0 (stampBytes (s.now * 16))) s.now :: s.out ∧
      t.regs = s.regs ∧ t.dt = s.dt)) ∧
  (∀ (s : State) (pt : Nat) (f : MFrame), pt < 2 → Arrives s pt f → f.ty = 0x10 →
    Runs (.syncReq pt f f.t2 f.t3) s (fun t => MemKept s t ∧ t.mode = s.mode ∧ t.out = .mboca pt (frameBlocks <| frameBytes 0x11 s.myIdx 0 (s.mport pt).txSeq 0xFF 0
      (leBytes 2 f.seq ++ stampBytes (stampAt f.payload 0) ++ stampBytes f.t2 ++ stampBytes f.t3 ++ [s.syncSt])) s.now :: s.out ∧ t.regs = s.regs ∧ t.dt = s.dt)) ∧
  (∀ (s : State) (pt : Nat) (f : MFrame) (m : Meas) (x y : Int), pt < 2 → Arrives s pt f → f.ty = 0x11 → s.joined = true →
    s.isMaster = false → s.chain.meas = some m → m.pt = pt → m.t1 ≤ f.t2 → f.t2 ≤ m.t1 + 1600000 → leAt f.payload 0 2 = m.seq →
    (leAt f.payload 29 1 = 2 ∨ s.chain.master = some f.src) → ((stampAt f.payload 11 : Int) - m.t1) - ((f.t2 : Int) - stampAt f.payload 20) = 2 * x →
    ((stampAt f.payload 11 : Int) - m.t1) + ((f.t2 : Int) - stampAt f.payload 20) = 2 * y → 0 ≤ y → y ≤ 64000 →
    Runs (.syncResp pt f f.t2) s (fun t => t.chip = s.chip ∧ t.dram = s.dram ∧ t.mode = s.mode ∧ t.chain.meas = none ∧ t.chain.asked = false ∧ t.chain.miss = 0 ∧
      t.getN R.CHN_OFS = uns 32 (satS 32 (x + sgn 32 (s.getN (R.CHN_ASYM pt)))) ∧ t.getN R.CHN_DELAY = uns 32 y ∧ t.dt = s.dt)) ∧
  (∀ (s : State) (a : Nat), s.chain.coastAt = some a → s.syncSt = 3 → s.bit R.CHN_STAT F.CHN_STAT_COAST_EXP = false →
    Runs .chainCoastTimeout s (fun t => t.bit R.CHN_STAT F.CHN_STAT_COAST_EXP = true ∧
      t.bit R.SYS_ADMIT_STOP F.SYS_ADMIT_STOP_SYNC = true ∧ t.mode = s.mode ∧ t.chip = s.chip ∧ t.out = s.out))

/-- Blotter, events, calibration and time (R567, R583, R574, R546, R564, R469, R470, R572). A flush of the Blotter
begins, and at its end ACTIVE names the other image with the generation one higher; events move to their queue; a
timebase code is noted for the next tick boundary; a calibration starts and ends; a logic BIST ends; device time wraps
to 0 with its event. Where the row is a register write, the write carries the register's RW fields as they stand (the
model's choice, log entry 62). -/
def Obligations.CareRows : Prop :=
  (∀ (s : State) (bad both : List Nat), 3 ≤ s.fld R.SYS_BOOT_STAT F.SYS_BOOT_STAT_STAGE → s.flush = none →
    Runs (.blotterFlush bad both) s (fun t => t.flush = some s.now ∧ t.bit R.BLT_STAT F.BLT_STAT_FLUSHING = true ∧
      t.mode = s.mode ∧ t.out = s.out)) ∧
  (∀ (s : State) (m : Master), s.mayWrite m R.BLT_CTL = true → s.flush = none →
    Runs (.bltFlush m) s (fun t => t.flush = some s.now ∧ t.bit R.BLT_STAT F.BLT_STAT_FLUSHING = true ∧
      t.bit R.BLT_CTL F.BLT_CTL_FLUSH = true ∧ t.mode = s.mode ∧ t.out = s.out)) ∧
  (∀ (s : State) (a : Nat), s.flush = some a → s.flushAgain = false →
    Runs .flushDone s (fun t => t.flush = none ∧ t.bit R.BLT_STAT F.BLT_STAT_FLUSHING = false ∧
      t.bit R.BLT_CTL F.BLT_CTL_FLUSH = false ∧
      t.getN R.BLT_FLUSH_CNT = min 0xFFFFFFFF (s.getN R.BLT_FLUSH_CNT + 1) ∧ t.chip = (s.setBWord 8 s.nextActive).chip ∧
      t.mode = s.mode ∧ t.dram = s.dram ∧ t.dt = s.dt ∧ t.out = s.out)) ∧
  (∀ (s : State) (e : Ev), s.evFifo = [e] → s.evQueue.length < 4096 →
    Runs .eventQueueMove s (fun t => t.evFifo = [] ∧ t.evQueue = s.evQueue ++ [e] ∧ t.mode = s.mode ∧ t.chip = s.chip)) ∧
  (∀ (s : State) (code : Nat), s.bit R.CAL_STAT F.CAL_STAT_DONE = true →
    Runs (.calTrack code) s (fun t => { what := 4, vals := [code % 4096], atTick := true } ∈ t.cal.due ∧ t.regs = s.regs ∧ Frame s t)) ∧
  (∀ (s : State) (m : Master), s.mayWrite m R.CAL_CTL = true → s.bit R.CAL_STAT F.CAL_STAT_BUSY = false →
    Runs (.calGo m) s (fun t => t.bit R.CAL_STAT F.CAL_STAT_BUSY = true ∧
      t.cal.run = some (s.fld R.CAL_CTL F.CAL_CTL_SCOPE, s.fld R.CAL_CTL F.CAL_CTL_ENC_SEL, s.getN R.CAL_PORT_SEL) ∧ Frame s t)) ∧
  (∀ (s : State) (r : CalIn) (a b c : Nat), s.cal.run = some (a, b, c) →
    Runs (.calDone r) s (fun t => t.cal.run = none ∧ t.bit R.CAL_STAT F.CAL_STAT_BUSY = false ∧ t.mode = s.mode)) ∧
  (∀ (s : State) (pass : Bool), s.pw.logic = true → Runs (.logicBistDone pass) s (fun t => t.chip = s.chip ∧ t.dram = s.dram ∧ t.mode = s.mode ∧ t.pw.logic = false)) ∧
  (∀ s : State, 2 ^ 63 ≤ s.now → Runs .dtWrap s (fun t => t.dt = 0 ∧ t.tick = none ∧
    (s.evFifo.length < 256 → ∃ e, t.evFifo = s.evFifo ++ [e] ∧ e.code = 0x1006) ∧ t.regs = s.regs ∧ t.mode = s.mode))

/-- OTP reads, burns and locks (R551, R562, R561, R552). A re-read marks words that differ from the reads at start-up;
RD_ADDR shows a word, and 0 for a key word; a burn and a lock start; a burn that reads back right leaves its value in
the array. Where the row is a register write, the write carries the register's RW fields as they stand (the model's
choice, log entry 62). -/
def Obligations.OtpRows : Prop :=
  (∀ (s : State) (w n st : Nat), w < 512 → s.otp.startReads = [] → s.otp.raw = s.otp.startRaw → s.otp.differs w n st = true →
    Runs (.otpReread [(w, n, st)]) s (fun t => MemKept s t ∧ t.mode = s.mode ∧ t.bit R.OTP_STAT F.OTP_STAT_MARGINAL = true ∧
    t.fld R.OTP_STAT F.OTP_STAT_MARG_WORD = w ∧
    (s.evFifo.length < 256 → ∃ e, t.evFifo = s.evFifo ++ [e] ∧ e.code = 0x6002 ∧ e.obj = w) ∧ t.otp = s.otp)) ∧
  (∀ (s : State) (m : Master) (idx : Nat), s.mayWrite m R.OTP_RD_ADDR = true → idx < 512 → (idx < 128 ∨ 136 ≤ idx) →
    Runs (.otpRdAddr m idx) s (fun t => t.getN R.OTP_RD_DATA_LO = otpVal s.otp.vals idx % 2 ^ 32 ∧
      t.getN R.OTP_RD_DATA_HI = otpVal s.otp.vals idx / 2 ^ 32 % 2 ^ 32 ∧ Frame s t)) ∧
  (∀ (s : State) (m : Master) (idx : Nat), s.mayWrite m R.OTP_RD_ADDR = true → 128 ≤ idx → idx < 136 →
    Runs (.otpRdAddr m idx) s (fun t => t.getN R.OTP_RD_DATA_LO = 0 ∧ t.getN R.OTP_RD_DATA_HI = 0 ∧ Frame s t)) ∧
  (∀ (s : State) (m : Master), s.mayWrite m R.OTP_PROG_CTL = true → s.otp.burn = none →
    otpIsData (s.fld R.OTP_PROG_CTL F.OTP_PROG_CTL_WORD) = true →
    s.otpRegionState (otpRegionOf (s.fld R.OTP_PROG_CTL F.OTP_PROG_CTL_WORD)) = 0 →
    s.otp.refused.contains (s.fld R.OTP_PROG_CTL F.OTP_PROG_CTL_WORD) = false →
    (s.otp.failed.contains (s.fld R.OTP_PROG_CTL F.OTP_PROG_CTL_WORD) = false ∨
      s.bit R.OTP_PROG_CTL F.OTP_PROG_CTL_RETRY = true) →
    s.otpClash (s.fld R.OTP_PROG_CTL F.OTP_PROG_CTL_WORD) (s.get64 R.OTP_PROG_DATA_LO R.OTP_PROG_DATA_HI) = false →
    Runs (.otpProgGo m) s (fun t => t.bit R.OTP_PROG_CTL F.OTP_PROG_CTL_BUSY = true ∧
      t.otp.burn = some { word := s.fld R.OTP_PROG_CTL F.OTP_PROG_CTL_WORD,
                          value := s.get64 R.OTP_PROG_DATA_LO R.OTP_PROG_DATA_HI } ∧ t.otp.raw = s.otp.raw ∧ Frame s t)) ∧
  (∀ (s : State) (m : Master) (r : Nat), s.mayWrite m R.OTP_PROG_CTL = true → s.otp.burn = none →
    s.fld R.OTP_PROG_CTL F.OTP_PROG_CTL_REGION = r → r < 3 → s.otpRegionState r ≠ 2 →
    Runs (.otpLockGo m) s (fun t => t.bit R.OTP_PROG_CTL F.OTP_PROG_CTL_BUSY = true ∧
      (∃ b, t.otp.burn = some b ∧ b.lock = true) ∧ t.otp.raw = s.otp.raw ∧ Frame s t)) ∧
  (∀ (s : State) (b : Burn), s.otp.burn = some b → b.rest = [] → b.value < 2 ^ 64 →
    Runs (.otpBurnDone b.value) s (fun t => t.otp.burn = none ∧ otpVal t.otp.vals b.word = b.value ∧
      otpVal t.otp.raw b.word = otpVal s.otp.raw b.word ||| otpRaw b.value ∧
      t.bit R.OTP_PROG_CTL F.OTP_PROG_CTL_BUSY = false ∧ t.bit R.OTP_PROG_CTL F.OTP_PROG_CTL_DONE = true ∧ t.mode = s.mode))

/-- GET_INFO, GET_STATUS, SET_MODE, POWER_POLICY and NEXT_EVENT_HINT (R453, R455, R454, R471, R472). Each command
answers as its row says, in the modes and with the arguments stated. -/
def Obligations.DeviceCommands : Prop :=
  (∀ (s : State) (q : Nat) (c : Cmd), Front s q 0x01 c → Runs (.getInfo q) s (fun t =>
    (∃ res, Answered s t q c stOk res ∧ res.length = 24 ∧ leAt res 3 1 = s.part.ports ∧ leAt res 4 1 = s.part.dramGib) ∧ StillMem s t)) ∧
  (∀ (s : State) (q : Nat) (c : Cmd), Front s q 0x03 c → 20 ≤ c.args.length → c.arg 0 1 = 1 → c.arg 1 1 < 8 →
    Runs (.getStatus q) s (fun t => Answered s t q c stOk (s.statusOf 1 (c.arg 1 1)) ∧ StillMem s t)) ∧
  (∀ (s : State) (q : Nat) (c : Cmd), Front s q 0x02 c → c.args ≠ [] → c.arg 0 1 = 3 → s.mode = .config → s.limited = false →
    s.pw.parkPend = false → s.pw.wake = none → s.pw.exiting = false →
    Runs (.setMode q) s (fun t => t.mode = .service ∧ Answered s t q c stOk [3, 0] ∧
      t.bit R.SYS_MODE F.SYS_MODE_FAULT_STOP = false)) ∧
  (∀ (s : State) (q : Nat) (c : Cmd), Front s q 0x02 c → c.args ≠ [] → c.arg 0 1 = 2 → s.mode = .config → s.limited = false →
    s.pw.parkPend = false → s.pw.wake = none → s.pw.exiting = false → s.mayPrint = true →
    Runs (.setMode q) s (fun t => t.mode = .print ∧ Waits s t q c (.mode .print))) ∧
  (∀ (s : State) (q : Nat) (c : Cmd), Front s q 0x02 c → s.mode = .boot →
    Runs (.setMode q) s (fun t => Answered s t q c stNotReady [] ∧ StillMem s t)) ∧
  (∀ (s : State) (q : Nat) (c : Cmd), Front s q 0x60 c → s.cmdMode = .config → s.mode = .config → 10 ≤ c.args.length →
    c.arg 4 1 ≤ 3 → c.arg 5 1 ≤ 3 →
    Runs (.powerPolicy q) s (fun t => Answered s t q c stOk [] ∧ t.pw.idleDelay = c.arg 0 4 ∧ t.pw.maxSub = c.arg 4 1 ∧
      t.pw.defSub = min (c.arg 5 1) (c.arg 4 1) ∧ t.pw.spPrint = c.arg 6 2 ∧ t.pw.spWarm = c.arg 8 2 ∧ StillMem s t)) ∧
  (∀ (s : State) (q : Nat) (c : Cmd) (service : Option Nat), Front s q 0x61 c → s.cmdMode ∈ modesCPSI → 8 ≤ c.args.length →
    Runs (.nextEventHint q service) s (fun t => (∃ k, Answered s t q c stOk [k]) ∧ StillMem s t ∧
      t.pw.hint = if c.arg 0 8 = 0 then none else some (c.seen + 2000 * c.arg 0 8)))

/-- A command of CONFIG in another mode is refused (R425, R456, R457, R476, R477, R480). PLANE_DEFINE, HEAD_ATTACH,
OTP_PROGRAM, OTP_LOCK and CHAIN_CONFIG outside CONFIG complete with NOT_READY in BOOT and IDLE, else DENIED, and have
no other effect on the memories, the mode or device time. -/
def Obligations.ModeRefuses : Prop :=
  ∀ (s : State) (q op : Nat) (i : Instr) (c : Cmd), Front s q op c → s.cmdMode ≠ .config →
    (op = 0x10 ∧ i = .planeDefine q ∨ op = 0x11 ∧ i = .headAttach q ∨ op = 0x81 ∧ i = .otpProgram q ∨
      op = 0x82 ∧ i = .otpLock q ∨ op = 0xA0 ∧ i = .chainConfig q) →
    Runs i s (fun t => StillMem s t ∧
      Answered s t q c (if s.cmdMode = .boot ∨ s.cmdMode = .idle then stNotReady else stDenied) [])

/-- PLANE_DEFINE, SCREEN_LOAD and TRC_LOAD (R456, R459, R460). A plane is defined with its width and curves; a screen
and curves are loaded where the arguments allow, into exactly their bytes. -/
def Obligations.PlaneCommands : Prop :=
  (∀ (s : State) (q : Nat) (c : Cmd), Front s q 0x10 c → s.cmdMode = .config → 16 ≤ c.args.length → c.arg 0 1 < 8 →
    c.arg 1 1 = 1 → c.arg 2 2 = 0 → c.arg 10 2 = 0 → s.planeBad (c.arg 0 1) (c.arg 4 4) (c.arg 8 2) = false →
    (s.planeAt (c.arg 0 1)).job = none →
    Runs (.planeDefine q) s (fun t => Answered s t q c stOk [] ∧ (t.planeAt (c.arg 0 1)).defined = true ∧
      t.getN (R.SCR_PLANE_WIDTH (c.arg 0 1)) = c.arg 4 4 ∧ t.getN (R.SCR_PLANE_TRC (c.arg 0 1)) = c.arg 8 2 ∧
      t.getN (R.DCT_PLANE_THROW (c.arg 0 1)) = c.arg 12 4 ∧ StillMem s t)) ∧
  (∀ (s : State) (q : Nat) (c : Cmd) (d : List Nat), Front s q 0x13 c → s.cmdMode ∈ modesCPSI → 24 ≤ c.args.length →
    c.arg 0 1 = 1 → c.arg 1 1 < 8 → c.arg 2 2 = 0 → c.arg 4 2 ≠ 0 → c.arg 4 2 ≤ 512 → c.arg 6 2 ≠ 0 → c.arg 6 2 ≤ 512 →
    c.arg 4 2 * c.arg 6 2 * 4 + c.arg 8 4 ≤ 0x100000 → c.arg 8 4 % 64 = 0 → c.arg 12 4 = 0 →
    (∀ p, p < 8 → s.slotOf p ≠ c.arg 1 1 ∨ (s.planeAt p).job = none) → d.length = c.arg 4 2 * c.arg 6 2 * 4 →
    s.refusal 1 (bankS + (0x100000 + c.arg 8 4)) d.length true = none →
    Runs (.screenLoad q (some d)) s (fun t => Answered s t q c stOk [] ∧
      t.getN (R.SCR_ARR_SIZE (c.arg 1 1)) = c.arg 4 2 + c.arg 6 2 * 65536 ∧
      (∀ j, j < d.length → cellGet byte0 t.chip (bankS + 0x100000 + c.arg 8 4 + j) = BitVec.ofNat 8 (d.getD j 0)) ∧
      (∀ a, (a < bankS + 0x100000 + c.arg 8 4 ∨ bankS + 0x100000 + c.arg 8 4 + d.length ≤ a) →
        cellGet byte0 t.chip a = cellGet byte0 s.chip a) ∧ t.mode = s.mode ∧ t.dram = s.dram ∧ t.hostOut = s.hostOut)) ∧
  (∀ (s : State) (q : Nat) (c : Cmd) (d : List Nat), Front s q 0x14 c → s.cmdMode ∈ modesCPSI → 16 ≤ c.args.length →
    c.arg 2 2 ≠ 0 → c.arg 0 2 + c.arg 2 2 ≤ 4096 → c.arg 4 4 = 0 → (∀ p, p < 8 → (s.planeAt p).defined = false) →
    d.length = c.arg 2 2 * 256 → s.refusal 1 (bankS + c.arg 0 2 * 256) d.length true = none →
    Runs (.trcLoad q (some d)) s (fun t => Answered s t q c stOk [] ∧
      (∀ j, j < d.length → cellGet byte0 t.chip (bankS + c.arg 0 2 * 256 + j) = BitVec.ofNat 8 (d.getD j 0)) ∧
      (∀ a, (a < bankS + c.arg 0 2 * 256 ∨ bankS + c.arg 0 2 * 256 + d.length ≤ a) →
        cellGet byte0 t.chip a = cellGet byte0 s.chip a) ∧ t.mode = s.mode ∧ t.dram = s.dram ∧ t.hostOut = s.hostOut))

/-- JOB_OPEN, JOB_APPEND, JOB_CLOSE and JOB_ABORT (R461, R462, R463). A job is opened with its layout; a strip is
appended; a job is closed at the line its last image line lies on; a job is aborted. -/
def Obligations.JobCommands : Prop :=
  (∀ (s : State) (q a b : Nat) (c : Cmd) (l : StoredJob), Front s q 0x20 c → s.mode ≠ .idle →
    (s.cmdMode = .config ∨ s.cmdMode = .print) →
    36 ≤ c.args.length → s.openBad c = false → s.openLayout c = some l → bits (c.arg 1 1) 0 1 = 0 → bits (c.arg 1 1) 4 1 = 0 →
    s.span (c.arg 0 1) + 320 ≤ 65536 → (s.planeAt (c.arg 0 1)).job = none → (s.planeAt (c.arg 0 1)).strips = [] →
    s.dramFree s.dramHeld a (l.imgLines * imgStride l.fmt l.width) = true →
    s.dramFree ((a, l.imgLines * imgStride l.fmt l.width) :: s.dramHeld) b
      (2 ^ depthFor (s.span (c.arg 0 1) + 320) 6 (c.arg 4 1) * lineSize l.width) = true →
    Runs (.jobOpen q (some (a, b))) s (fun t =>
      (∃ j, (t.planeAt (c.arg 0 1)).job = some j ∧ j.st = .opened ∧ j.stored = false ∧ j.start = c.arg 8 8) ∧
      (t.planeAt (c.arg 0 1)).done = 0 ∧ StillMem s t ∧
      (∃ res, Answered s t q c stOk res ∧ leAt res 0 8 = a % 2 ^ 64))) ∧
  (∀ (s : State) (q desc : Nat) (c : Cmd) (table : Option (List Nat)) (j : Job), Front s q 0x21 c →
    (s.cmdMode = .config ∨ s.cmdMode = .print) → 32 ≤ c.args.length → c.arg 0 1 < 8 → c.arg 1 1 = 1 → c.arg 2 2 = 0 →
    c.arg 4 4 = 0 → (s.planeAt (c.arg 0 1)).job = some j → j.closed = none → j.replay = false → j.stored = false →
    (s.planeAt (c.arg 0 1)).strips = [] → c.arg 8 8 = (s.planeAt (c.arg 0 1)).avail → c.arg 16 4 ≠ 0 →
    c.arg 16 4 ≤ s.imgLines (c.arg 0 1) → c.arg 8 8 + c.arg 16 4 ≤ s.imgLines (c.arg 0 1) + s.screened (c.arg 0 1) →
    Runs (.jobAppend q table desc) s (fun t =>
      (t.planeAt (c.arg 0 1)).avail = ((s.planeAt (c.arg 0 1)).avail + c.arg 16 4) % 2 ^ 48 ∧
      (t.planeAt (c.arg 0 1)).strips = [] ∧ StillMem s t ∧
      Answered s t q c stOk (leBytes 8 (((s.planeAt (c.arg 0 1)).avail + c.arg 16 4) % 2 ^ 48)))) ∧
  (∀ (s : State) (q : Nat) (c : Cmd) (j : Job), Front s q 0x22 c → (s.cmdMode = .config ∨ s.cmdMode = .print) →
    c.args ≠ [] → c.arg 0 1 < 8 → (s.planeAt (c.arg 0 1)).job = some j → j.closed = none → j.stored = false →
    s.nextLine (c.arg 0 1) ≠ 0 →
    Runs (.jobClose q) s (fun t => ∃ e, e = min (2 ^ 48 - 17)
        (s.gridOf (c.arg 0 1) (s.nextLine (c.arg 0 1) - 1) + s.gapLines (c.arg 0 1)) ∧
      (t.planeAt (c.arg 0 1)).job = some { j with
        closed := some (s.gridOf (c.arg 0 1) (s.nextLine (c.arg 0 1) - 1)), lastLine := e } ∧
      t.get64 (R.DCT_PLANE_END_LO (c.arg 0 1)) (R.DCT_PLANE_END_HI (c.arg 0 1)) = e ∧
      Answered s t q c stOk (leBytes 8 e) ∧ StillMem s t)) ∧
  (∀ (s : State) (q : Nat) (c : Cmd) (j : Job), Front s q 0x23 c → s.cmdMode ∈ modesCPSI → 3 ≤ c.args.length →
    c.arg 0 1 < 8 → c.arg 1 1 ≤ 1 → (s.planeAt (c.arg 0 1)).job = some j → j.channel = none →
    (s.planeAt (c.arg 0 1)).strips = [] →
    Runs (.jobAbort q) s (fun t => (t.planeAt (c.arg 0 1)).job = none ∧ Answered s t q c stOk [] ∧
      t.bit (R.DCT_PLANE_CTL (c.arg 0 1)) F.DCT_PLANE_CTL_HALT = true ∧ StillMem s t))

/-- HEAD_ATTACH to VERIFY_SWEEP (R457, R458, R464, R465, R466, R467, R468). A head is attached, ruled, masked,
trimmed, given a policy, spat and swept where the arguments allow. -/
def Obligations.HeadCommands : Prop :=
  (∀ (s : State) (q : Nat) (c : Cmd), Front s q 0x11 c → s.cmdMode = .config → 44 ≤ c.args.length → c.arg 1 1 = 1 →
    s.attachArgsBad c.args = false → (s.portAt (c.arg 0 1)).st = .present → (s.portAt (c.arg 0 1)).recOk = true →
    s.attachRecBad (c.arg 0 1) c.args = false →
    s.widthsHeld (c.arg 0 1) (s.attachWidth (c.arg 0 1) c.args 16 0x1C 2047) (s.attachWidth (c.arg 0 1) c.args 18 0x1E 2047)
      (s.attachWidth (c.arg 0 1) c.args 22 0x22 4095) = false →
    Runs (.headAttach q) s (fun t => (t.portAt (c.arg 0 1)).st = .attached ∧ (t.portAt (c.arg 0 1)).plane = some (c.arg 2 1) ∧
      Waits s t q c (.attach (c.arg 0 1) true (decide (s.portType (c.arg 0 1) = 2))) ∧ t.mode = s.mode)) ∧
  (∀ (s : State) (q : Nat) (c : Cmd), Front s q 0x12 c → s.cmdMode ∈ modesCPSI → 8 ≤ c.args.length → c.arg 0 1 = 3 →
    s.headOn (c.arg 1 1) = true → (s.portAt (c.arg 1 1)).recN 0x18 4 % 2 ^ 24 ≤ c.arg 4 4 → c.arg 4 4 < 2 ^ 24 →
    Runs (.rulingSet q) s (fun t => Answered s t q c stOk [] ∧ t.getN (R.DCT_ROW_TMIN (2 * c.arg 1 1)) = c.arg 4 4 ∧
      t.getN (R.DCT_ROW_TMIN (2 * c.arg 1 1 + 1)) = c.arg 4 4 ∧ StillMem s t)) ∧
  (∀ (s : State) (q : Nat) (c : Cmd), Front s q 0x30 c → s.cmdMode ∈ modesCPSI → 6 ≤ c.args.length →
    c.arg 0 1 < s.part.ports → (s.portAt (c.arg 0 1)).st = .attached → c.arg 1 1 = 1 → c.arg 2 2 = 1 →
    c.arg 4 2 < 2 * s.nprSet (c.arg 0 1) → s.refusal 0 (maskHset + c.arg 0 1 * 512 + c.arg 4 2 / 8) 1 true = none →
    s.refusal 0 (maskHclr + c.arg 0 1 * 512 + c.arg 4 2 / 8) 1 true = none →
    Runs (.maskSet q) s (fun t => Waits s t q c (.commits (s.planesOf [c.arg 0 1]) 0) ∧
      t.chipBit (maskHset + c.arg 0 1 * 512 + c.arg 4 2 / 8) (c.arg 4 2 % 8) = true ∧
      t.chipBit (maskHclr + c.arg 0 1 * 512 + c.arg 4 2 / 8) (c.arg 4 2 % 8) = false ∧ t.mode = s.mode ∧ t.dram = s.dram)) ∧
  (∀ (s : State) (q : Nat) (c : Cmd), Front s q 0x31 c → (s.cmdMode = .config ∨ s.cmdMode = .print ∨ s.cmdMode = .service) →
    36 ≤ c.args.length → s.headOn (c.arg 0 1) = true → c.arg 1 1 = 4 → s.portType (c.arg 0 1) ≠ 1 →
    Runs (.trimSet q) s (fun t => Waits s t q c (.trim (c.arg 0 1) (s.portAt (c.arg 0 1)).trimOn none) ∧
      t.getN (R.HP_TRIM_W (c.arg 0 1) 0) = clampN 500 3000 (c.arg 4 2 % 4096) + clampN 500 3000 (c.arg 20 2 % 4096) * 65536 ∧
      t.mode = s.mode ∧ t.chip = s.chip ∧ t.dram = s.dram)) ∧
  (∀ (s : State) (q : Nat) (c : Cmd), Front s q 0x32 c → s.cmdMode ∈ modesCPSI → 8 ≤ c.args.length → c.arg 0 1 ≠ 0xFF →
    s.headOn (c.arg 0 1) = true → c.arg 1 1 ≤ 2 → c.arg 2 1 = 0 →
    Runs (.substPolicy q) s (fun t => Waits s t q c (.commits (s.planesOf [c.arg 0 1]) 0) ∧
      t.fld (R.NZP_MAP_CFG (c.arg 0 1)) F.NZP_MAP_CFG_POLICY = c.arg 1 1 ∧ StillMem s t)) ∧
  (∀ (s : State) (q : Nat) (c : Cmd), Front s q 0x40 c → s.cmdMode = .service → 10 ≤ c.args.length →
    s.maskOk (c.arg 0 4) = true → (c.arg 4 1 = 2 ∨ c.arg 4 1 = 3) → c.arg 5 1 ≤ 3 → c.arg 5 1 ≠ 0 → c.arg 6 2 ≠ 0 →
    s.serviceBusy (portsIn (c.arg 0 4)) = false →
    Runs (.serviceSpit q) s (fun t => Waits s t q c (.spit (portsIn (c.arg 0 4)) 0) ∧ StillMem s t ∧
      ∀ n ∈ portsIn (c.arg 0 4), (t.portAt n).spit.isSome = true ∧ t.bit (R.NZP_TH_CFG n) F.NZP_TH_CFG_IW_EN = false)) ∧
  (∀ (s : State) (q : Nat) (c : Cmd), Front s q 0x41 c → s.cmdMode = .service → s.mode = .service → 8 ≤ c.args.length →
    c.arg 0 1 = 1 → c.arg 1 1 = 0 → s.maskOk (c.arg 4 4) = true → s.serviceBusy (portsIn (c.arg 4 4)) = false →
    Runs (.verifySweep q) s (fun t => Waits s t q c (.sweep (portsIn (c.arg 4 4)) 0 0) ∧ StillMem s t ∧
      ∀ n ∈ portsIn (c.arg 4 4), (t.portAt n).sweep.isSome = true ∧ t.bit (R.NZP_TH_CFG n) F.NZP_TH_CFG_IW_EN = false))

/-- CAL_RUN, BIST_RUN, BLOTTER_READ and EVENT_READ (R469, R470, R473, R474). A calibration and a BIST start; the
blotter is read into host memory, or FAULT is answered; events are read and, without the peek flag, removed. -/
def Obligations.RecordCommands : Prop :=
  (∀ (s : State) (q : Nat) (c : Cmd), Front s q 0x50 c → s.cmdMode ∈ modesCPSI → 5 ≤ c.args.length →
    s.maskOk (c.arg 0 4) = true → c.arg 4 1 ≤ 31 → s.bit R.CAL_STAT F.CAL_STAT_BUSY = false →
    Runs (.calRun q) s (fun t => t.bit R.CAL_STAT F.CAL_STAT_BUSY = true ∧ t.cal.run.isSome = true ∧
      (∃ a b d, Waits s t q c (.cal a b d)) ∧ StillMem s t)) ∧
  (∀ (s : State) (q : Nat) (c : Cmd), Front s q 0x51 c → s.cmdMode ∈ modesCPSI → 2 ≤ c.args.length → c.arg 0 1 = 1 →
    c.arg 1 1 ≤ 63 → c.arg 1 1 / 32 = 1 → s.bit R.MEM_BIST_STAT F.MEM_BIST_STAT_BUSY = false →
    Runs (.bistRun q) s (fun t => t.bist = some (0, 0) ∧ t.bit R.MEM_BIST_STAT F.MEM_BIST_STAT_BUSY = true ∧
      Answered s t q c stOk [] ∧ StillMem s t)) ∧
  (∀ (s : State) (q : Nat) (c : Cmd), Front s q 0x51 c → s.cmdMode = .idle → 2 ≤ c.args.length → c.arg 0 1 = 2 →
    Runs (.bistRun q) s (fun t => t.pw.logic = true ∧ Waits s t q c .logic ∧ StillMem s t)) ∧
  (∀ (s : State) (q : Nat) (c : Cmd), Front s q 0x70 c → 16 ≤ c.args.length → c.arg 0 4 % 8 = 0 → c.arg 4 4 % 8 = 0 →
    c.arg 0 4 + c.arg 4 4 ≤ 0x100000 → s.chipFaulty (bankB + c.arg 0 4) (c.arg 4 4) = none →
    s.refusal 1 (bankB + c.arg 0 4) (c.arg 4 4) false = none →
    Runs (.blotterRead q {}) s (fun t => Answered s t q c stOk [] ∧
      (∀ j, j < c.arg 4 4 → cellGet byte0 t.hostOut (c.arg 8 8 + j) = cellGet byte0 s.chip (bankB + c.arg 0 4 + j)) ∧
      (∀ a, (a < c.arg 8 8 ∨ c.arg 8 8 + c.arg 4 4 ≤ a) → cellGet byte0 t.hostOut a = cellGet byte0 s.hostOut a) ∧
      t.mode = s.mode ∧ t.chip = s.chip ∧ t.dram = s.dram)) ∧
  (∀ (s : State) (q a : Nat) (c : Cmd), Front s q 0x70 c → 16 ≤ c.args.length → c.arg 0 4 % 8 = 0 → c.arg 4 4 % 8 = 0 →
    c.arg 0 4 + c.arg 4 4 ≤ 0x100000 → c.arg 0 4 / 8 ≤ a → a < (c.arg 0 4 + c.arg 4 4) / 8 →
    Runs (.blotterRead q { bad := some (5, a) }) s (fun t => Answered s t q c stFault [] ∧ StillMem s t)) ∧
  (∀ (s : State) (q : Nat) (c : Cmd), Front s q 0x71 c → 16 ≤ c.args.length → c.arg 0 2 ≠ 0 → c.arg 0 2 ≤ 256 →
    c.arg 2 1 ≤ 1 →
    Runs (.eventRead q) s (fun t => t.evLost = 0 ∧
      t.evQueue = (if c.arg 2 1 = 1 then s.evQueue else s.evQueue.drop (c.arg 0 2)) ∧
      (∃ res, Answered s t q c stOk res ∧ leAt res 0 2 = min (c.arg 0 2) s.evQueue.length) ∧
      t.mode = s.mode ∧ t.chip = s.chip ∧ t.dram = s.dram))

/-- OTP commands, diagnostics, the chain and FW_UPDATE (R475, R476, R477, R478, R479, R480, R481). OTP words are read,
burnt and locked; a diagnostic session opens; an injection slot is set; the device joins and leaves a chain; an image
that verifies is written to the other flash slot and to no other byte. -/
def Obligations.SecurityCommands : Prop :=
  (∀ (s : State) (q : Nat) (c : Cmd), Front s q 0x80 c → 4 ≤ c.args.length → c.arg 0 2 < 512 → c.arg 2 2 = 1 →
    (c.arg 0 2 < 128 ∨ 136 ≤ c.arg 0 2) →
    Runs (.otpRead q) s (fun t => StillMem s t ∧ (∃ res, Answered s t q c stOk res ∧
      leAt res 0 8 = otpVal s.otp.vals (c.arg 0 2) % 2 ^ 64 ∧
      leAt res 16 1 = if s.otp.marg.contains (c.arg 0 2) then 1 else 0))) ∧
  (∀ (s : State) (q : Nat) (c : Cmd), Front s q 0x80 c → 4 ≤ c.args.length → 128 ≤ c.arg 0 2 → c.arg 0 2 < 136 →
    c.arg 2 2 = 1 → Runs (.otpRead q) s (fun t => StillMem s t ∧ Answered s t q c stDenied [])) ∧
  (∀ (s : State) (q : Nat) (c : Cmd), Front s q 0x81 c → s.cmdMode = .config → 16 ≤ c.args.length → c.arg 0 2 < 512 →
    c.arg 2 1 ≤ 1 → s.bit R.PWR_STAT F.PWR_STAT_SUPPLY = false → s.otpRegionState (otpRegionOf (c.arg 0 2)) = 0 →
    s.otpClash (c.arg 0 2) (c.arg 8 8) = false → s.otp.refused.contains (c.arg 0 2) = false →
    (s.otp.failed.contains (c.arg 0 2) = false ∨ c.arg 2 1 = 1) → s.otp.burn = none →
    Runs (.otpProgram q) s (fun t => Waits s t q c .otp ∧ t.otp.burn = some { word := c.arg 0 2, value := c.arg 8 8 } ∧
      t.otp.raw = s.otp.raw ∧ StillMem s t)) ∧
  (∀ (s : State) (q : Nat) (c : Cmd), Front s q 0x82 c → s.cmdMode = .config → 2 ≤ c.args.length → c.arg 0 1 ≤ 2 →
    c.arg 1 1 = 0xA5 → s.bit R.PWR_STAT F.PWR_STAT_SUPPLY = false → s.otpRegionState (c.arg 0 1) ≠ 2 → s.otp.burn = none →
    Runs (.otpLock q) s (fun t => Waits s t q c .otp ∧ (∃ b, t.otp.burn = some b ∧ b.lock = true) ∧
      t.otp.raw = s.otp.raw ∧ StillMem s t)) ∧
  (∀ (s : State) (q : Nat) (c : Cmd), Front s q 0x90 c → s.cmdMode ∈ modesCPSI → 4 ≤ c.args.length → c.arg 0 1 = 1 →
    s.bit R.OTP_POLICY F.OTP_POLICY_DIAG_ENABLE = true → c.arg 2 2 ≤ 3600 →
    Runs (.diagUnlock q) s (fun t => StillMem s t ∧
      t.diag = some (s.now + (if c.arg 2 2 = 0 then 600 else c.arg 2 2) * 2000000000) ∧
      Answered s t q c stOk (leBytes 4 (if c.arg 2 2 = 0 then 600 else c.arg 2 2)))) ∧
  (∀ (s : State) (q : Nat) (c : Cmd), Front s q 0x91 c → s.cmdMode ∈ modesCPSI → 20 ≤ c.args.length → s.fijGate = true →
    c.arg 0 1 ≤ 7 → c.arg 1 1 = 1 → c.arg 7 1 = 0 → (c.arg 2 1 = 3 ∨ c.arg 2 1 = 4) → 1 ≤ c.arg 4 1 → c.arg 4 1 ≤ 4 →
    c.arg 5 1 < 256 → c.arg 6 1 < 256 → c.arg 8 4 ≠ 0 →
    Runs (.faultInject q) s (fun t => StillMem s t ∧ Answered s t q c stOk [] ∧
      t.bit (R.FIJ_SLOT_CFG (c.arg 0 1)) F.FIJ_SLOT_CFG_ARM = true ∧
      t.fld (R.FIJ_SLOT_CFG (c.arg 0 1)) F.FIJ_SLOT_CFG_TARGET = c.arg 2 1 ∧
      t.getN (R.FIJ_SLOT_RATE (c.arg 0 1)) = c.arg 8 4 ∧ t.getN (R.FIJ_SLOT_COUNT (c.arg 0 1)) = c.arg 12 4)) ∧
  (∀ (s : State) (q : Nat) (c : Cmd), Front s q 0xA0 c → s.cmdMode = .config → 6 ≤ c.args.length → c.arg 0 1 = 1 →
    c.arg 1 1 ≤ 15 → c.arg 2 1 ≠ 0 → c.arg 2 1 ≤ 16 → c.arg 4 2 ≤ 512 → s.joined = false →
    Runs (.chainConfig q) s (fun t => StillMem s t ∧ Waits s t q c .join ∧ t.joined = true ∧ t.myIdx = c.arg 1 1 ∧
      t.syncSt = 1 ∧ t.chain.heads = c.arg 4 2)) ∧
  (∀ (s : State) (q : Nat) (c : Cmd), Front s q 0xA0 c → s.cmdMode = .config → 6 ≤ c.args.length → c.arg 0 1 = 0 →
    (∀ i, i < s.nRows → s.rowSrc i ≠ 4) →
    Runs (.chainConfig q) s (fun t => StillMem s t ∧ Answered s t q c stOk [] ∧ t.joined = false)) ∧
  (∀ (s : State) (q : Nat) (c : Cmd) (d img : List Nat), Front s q 0xF0 c → (s.cmdMode = .config ∨ s.cmdMode = .idle) →
    12 ≤ c.args.length → c.arg 8 4 ≤ 0x800000 → s.fwImage c (some d) = some img →
    Runs (.fwUpdate q (some d)) s (fun t => StillMem s t ∧ Answered s t q c stOk (leBytes 4 (leAt img 4 4)) ∧
      (∀ j, j < img.length → cellGet byte0 t.flash (slotBase (1 - s.runSlot) + j) = BitVec.ofNat 8 (img.getD j 0)) ∧
      (∀ a, (a < slotBase (1 - s.runSlot) ∨ slotBase (1 - s.runSlot) + img.length ≤ a) →
        cellGet byte0 t.flash a = cellGet byte0 s.flash a)))

/-- R119: the guard withholds an entry within T_min of the last one fired (R119, R113, R259). A locked line entry at
the front whose TS lies less than T_min after the TS of the row's last fired event is not fired: it leaves the queue
not delivered with reason OVERSPEED, GUARD is set, and nothing leaves the device. -/
def Obligations.GuardWithholds : Prop :=
  ∀ (s : State) (i t0 : Nat) (e : Entry) (rest : List Entry), i < s.nRows → (s.rowAt i).queue = e :: rest → e.locked = true →
    (s.portType (i / 2) = 1 → e.latched = true) → e.kind = .line → (s.portAt (i / 2)).plane ≠ none → (s.portAt (i / 2)).st ≠ .off →
    (s.rowAt i).lastFired = some t0 → e.ts < t0 + s.tMin i →
    Runs (.strobeFire i) s (fun t => MemKept s t ∧ t.mode = s.mode ∧ t.out = s.out ∧ (t.rowAt i).lastFired = some t0 ∧
      t.bit (R.DCT_ROW_STAT i) F.DCT_ROW_STAT_GUARD = true ∧ (∀ x ∈ (t.rowAt i).queue, x.ts ≠ e.ts) ∧
      t.getN (R.DCT_ROW_ND i reasonOverspeed) = min 0xFFFFFFFF (s.getN (R.DCT_ROW_ND i reasonOverspeed) + 1))

/-- R118: an empty event is delivered at its lock point and sends nothing. At its lock point a line that holds no
non-zero code leaves its queue section, is counted as delivered, emits nothing and does not change the time of the
row's last fired event. -/
def Obligations.EmptyEventDelivered : Prop :=
  ∀ (s : State) (i : Nat) (e : Entry) (codes : List Nat), i < s.nRows →
    (s.rowAt i).queue.find? (fun x => !x.locked) = some e → e.kind = .line →
    (s.portAt (i / 2)).plane ≠ none → (s.portAt (i / 2)).barred = false →
    (∀ x ∈ (s.rowAt (pairRow i)).queue, x.locked = true) →
    (s.advTo (e.ts - 16000)).blankCause (i / 2) e = none →
    (s.advTo (e.ts - 16000)).decideCodes i e = (some codes, false) → codes.all (fun c => decide (c = 0)) = true →
    (s.advTo (e.ts - 16000)).ewOver (i / 2) e.ts ((s.advTo (e.ts - 16000)).energyOf (i / 2) codes) = false →
    Runs (.lockPoint i {}) s (fun t => t.out = s.out ∧ (∀ x ∈ (t.rowAt i).queue, x.ts ≠ e.ts) ∧
      (t.rowAt i).lastFired = (s.rowAt i).lastFired ∧
      t.get64 (R.DCT_ROW_DLV_LO i) (R.DCT_ROW_DLV_HI i) =
        min (2 ^ 64 - 1) (s.get64 (R.DCT_ROW_DLV_LO i) (R.DCT_ROW_DLV_HI i) + 1))

/-- R153: a commit makes the oldest strip available. A commit pops the oldest strip and adds its lines to AVAIL; with
the FIFO empty it sets FIFO_OVF and changes no plane; the event pulse of the DMA engine has the same effect. -/
def Obligations.CommitMakesAvailable : Prop :=
  (∀ (s : State) (m : Master) (p : Nat) (x : Strip) (rest : List Strip), p < 8 → s.mayWrite m (R.SCR_PLANE_CTL p) = true →
    (s.planeAt p).strips = x :: rest →
    Runs (.scrCommit m p) s (fun t => t.chip = s.chip ∧ t.dram = s.dram ∧ t.mode = s.mode ∧ (t.planeAt p).strips = rest ∧
      (t.planeAt p).avail = ((s.planeAt p).avail + x.count) % 2 ^ 48)) ∧
  (∀ (s : State) (m : Master) (p : Nat), p < 8 → s.mayWrite m (R.SCR_PLANE_CTL p) = true → (s.planeAt p).strips = [] →
    Runs (.scrCommit m p) s (fun t => MemKept s t ∧ t.mode = s.mode ∧ t.bit (R.SCR_PLANE_STAT p) F.SCR_PLANE_STAT_FIFO_OVF = true ∧ t.planes = s.planes)) ∧
  (∀ (s : State) (p : Nat), p < 8 → s.chPulse (0x10 + p) = s.stripCommit p)

/-- R430: the FIFOs of generation Z2. A push into a full submission FIFO is dropped with OVF and MBX_OVERFLOW; one
before READY is dropped, counted, and raises MBX_EARLY once per queue pair; no command is taken while the completion
FIFO is full; a POP of an empty FIFO has no effect. -/
def Obligations.FifoRules : Prop :=
  (∀ (s : State) (q v : Nat) (ind : Option (List Nat)), q < 32 → s.qpMode q = 1 → (s.qpAt q).st = 1 → s.ready = true →
    16 ≤ (s.qpAt q).sq.length → s.evFifo.length < 256 →
    Runs (.z2Push q v ind) s (fun t => StillMem s t ∧ (t.qpAt q).sq = (s.qpAt q).sq ∧
      t.bit (R.MBX_QP_STAT q) F.MBX_QP_STAT_OVF = true ∧
      ∃ e, t.evFifo = s.evFifo ++ [e] ∧ e.code = 0x7001 ∧ e.obj = q)) ∧
  (∀ (s : State) (q v : Nat) (ind : Option (List Nat)), q < 32 → s.qpMode q = 1 → (s.qpAt q).st = 1 → s.ready = false →
    s.evFifo.length < 256 →
    Runs (.z2Push q v ind) s (fun t => StillMem s t ∧ (t.qpAt q).sq = (s.qpAt q).sq ∧ (t.qpAt q).early = true ∧
      t.getN R.MBX_EARLY_CNT = min 0xFFFFFFFF (s.getN R.MBX_EARLY_CNT + 1) ∧
      ((s.qpAt q).early = true → t.evFifo = s.evFifo) ∧
      ((s.qpAt q).early = false → ∃ e, t.evFifo = s.evFifo ++ [e] ∧ e.code = 0x7002 ∧ e.obj = q))) ∧
  (∀ (s : State) (q op : Nat) (f : State → Cmd → State), s.qpMode q = 1 → 16 ≤ (s.qpAt q).cq.length → s.take q op f = s) ∧
  (∀ (s : State) (q : Nat), q < 32 → (s.qpAt q).cq = [] → (s.qpAt q).sq = [] →
    Runs (.z2Pop q) s (fun t => t.qpAt q = s.qpAt q ∧ t.regs = s.regs ∧ Frame s t))

/-- What a command of one encoder channel leaves as it is (R79, R80, R83, R68, R66, R70, R76). The rows named change
no other channel, no row, port, plane, queue pair or DMA channel, no memory, not the mode, and no register but the
channel's CFG, STAT and EVT_CNT. -/
def Obligations.EncoderFrame : Prop :=
  ∀ (c : Instr) (s t : State) (k : Nat), (c = .encLoss k ∨ c = .encFreeze k ∨ c = .encRecovery k ∨ c = .encFaultRecovery k ∨
      c = .encQualified k ∨ c = .encQualifyTimeout k ∨ c = .absTimeout k ∨ c = .absCheck k ∨ c = .secondAbsRead k ∨
      c = .absFailRequalify k ∨ c = .reversedClear k) → exec c s = .next t →
    (∀ j, j ≠ k → t.encAt j = s.encAt j) ∧ t.rows = s.rows ∧ t.ports = s.ports ∧ t.planes = s.planes ∧ t.qps = s.qps ∧
    t.chans = s.chans ∧ t.mode = s.mode ∧ t.chip = s.chip ∧ t.dram = s.dram ∧ t.hostOut = s.hostOut ∧ t.out = s.out ∧
    (∀ a, a ≠ R.ENC_CFG k → a ≠ R.ENC_STAT k → a ≠ R.ENC_EVT_CNT k → t.get a = s.get a)

/-- What a command of one head port leaves as it is (R257, R277, R292, R280, R276). The rows named change no other
port, no row but the pulse counter of the port's own rows in a strobe self-test, no channel, plane or queue pair, no
memory, not the mode, no event, and no register outside the head port block. -/
def Obligations.PortFrame : Prop :=
  ∀ (c : Instr) (s t : State) (n : Nat), (c = .detectTimeout n ∨ c = .linkTimeout n ∨ c = .detectReturn n ∨
      c = .typeSPoll n true ∨ (∃ v, c = .hpWdogClear .quill n v) ∨ (∃ p, c = .strobeSelfTest .quill n p) ∨
      (∃ dv, c = .typeSTempMeasure n dv)) → exec c s = .next t →
    (∀ j, j ≠ n → t.portAt j = s.portAt j) ∧
    (∀ j, { t.rowAt j with pcnt := (s.rowAt j).pcnt } = s.rowAt j) ∧
    (((∃ p, c = .strobeSelfTest .quill n p) ∨ (∃ v, c = .hpWdogClear .quill n v)) ∧ (s.portAt n).st ≠ .off ∨ t.rows = s.rows) ∧
    (∀ j, j / 2 ≠ n → t.rowAt j = s.rowAt j) ∧ t.enc = s.enc ∧ t.planes = s.planes ∧ t.qps = s.qps ∧
    t.chans = s.chans ∧ t.mode = s.mode ∧ t.chip = s.chip ∧ t.dram = s.dram ∧ t.hostOut = s.hostOut ∧ t.evFifo = s.evFifo ∧
    (∀ a, a / 0x100000 ≠ 8 → a / 0x100000 ≠ 9 → t.get a = s.get a)

/-- What a command of one DMA channel leaves as it is (R343, R344, R369, R364). The rows named change no other
channel, no encoder, row, port, plane or queue pair, no memory, not the mode, nothing sent, and no register outside
the DMA block. -/
def Obligations.DmaFrame : Prop :=
  ∀ (i : Instr) (s t : State) (c : Nat), (i = .dmaChStart none c ∨ i = .dmaChStart (some .quill) c ∨
      (∃ v, i = .dmaDoorbell .quill c v) ∨ i = .dmaEnable .quill c ∨ i = .dmaGhaltClear .quill ∨ i = .dmaDrainEnd c) →
    exec i s = .next t →
    (∀ j, j ≠ c → t.chanAt j = s.chanAt j) ∧ t.enc = s.enc ∧ t.rows = s.rows ∧ t.ports = s.ports ∧ t.planes = s.planes ∧
    t.qps = s.qps ∧ t.mode = s.mode ∧ t.chip = s.chip ∧ t.dram = s.dram ∧ t.hostOut = s.hostOut ∧ t.out = s.out ∧
    (∀ a, a / 0x100000 ≠ 11 → t.get a = s.get a)

/-- What a host access to one queue pair leaves as it is (R429, R432, R434, R426). The rows named change no other
queue pair, no encoder, row, port, plane or DMA channel, no memory of the device, not the mode or device time, and no
register outside the mailbox block. -/
def Obligations.MailboxFrame : Prop :=
  ∀ (c : Instr) (s t : State) (q : Nat), ((∃ v ind, c = .z2Push q v ind) ∨ c = .z2Pop q ∨ (∃ v, c = .z3SqDoorbell q v) ∨
      (∃ v, c = .z3CqDoorbell q v) ∨ (∃ m ind, c = .z3Fetch q m ind) ∨ c = .qpModeOff q ∨ c = .qpDrainEnd q) →
    exec c s = .next t →
    (∀ r, r ≠ q → t.qpAt r = s.qpAt r) ∧ t.enc = s.enc ∧ t.rows = s.rows ∧ t.ports = s.ports ∧ t.planes = s.planes ∧
    t.chans = s.chans ∧ t.mode = s.mode ∧ t.chip = s.chip ∧ t.dram = s.dram ∧ t.dt = s.dt ∧
    (∀ a, a / 0x100000 ≠ 13 → t.get a = s.get a)

/-- Screening a line writes that line's codes and no other byte (R164). Where no DRAM word is faulty, screening the
next line of a plane writes only the bytes of that line's codes in DRAM, and leaves on-chip memory, the other planes,
the rows, ports and queue pairs, the mode, and every register but that plane's P2W_CNT and STAT. -/
def Obligations.ScreenLineFrame : Prop :=
  ∀ (s t : State) (p : Nat), p < 8 → s.dramBad = [] → exec (.screenLine p [] none) s = .next t →
    (∀ a, (a < s.codeAddr p (s.planeAt p).done ∨ s.codeAddr p (s.planeAt p).done + lineSize (s.width p) ≤ a) →
      cellGet byte0 t.dram a = cellGet byte0 s.dram a) ∧
    t.chip = s.chip ∧ t.hostOut = s.hostOut ∧ (∀ j, j ≠ p → t.planeAt j = s.planeAt j) ∧ t.mode = s.mode ∧ t.rows = s.rows ∧
    t.ports = s.ports ∧ t.qps = s.qps ∧
    (∀ a, a ≠ R.SCR_PLANE_P2W_CNT p → a ≠ R.SCR_PLANE_STAT p → t.get a = s.get a)
end

