-- ==== Sys2Proof/Laws/Cells.lean ====
section
/-! SUPPORT. Laws of sparse data: a read after a write, and the canonical form. -/
namespace Sys2Proof.Machine

variable {α : Type} (d : Nat → α)

/-- A list without a cell at `a` reads there as the unlisted address does. -/
theorem cellGet_of_not_mem (m : List (Nat × α)) (a : Nat) (h : ∀ c ∈ m, c.1 ≠ a) : cellGet d m a = d a := by
  induction m with
  | nil => rfl
  | cons c m ih =>
    have hc : c.1 ≠ a := h c (by simp)
    simp only [cellGet, hc, if_false]
    exact ih (fun x hx => h x (by simp [hx]))

/-- Cells that do not lie at `a` may be left out of a read of `a`. -/
theorem cellGet_filter (p : Nat × α → Bool) (m : List (Nat × α)) (a : Nat) (h : ∀ c ∈ m, c.1 = a → p c = true) :
    cellGet d (m.filter p) a = cellGet d m a := by
  induction m with
  | nil => rfl
  | cons c m ih =>
    have ih := ih (fun x hx => h x (by simp [hx]))
    by_cases hc : c.1 = a
    · have hp := h c (by simp) hc
      simp [hp, cellGet, hc]
    · by_cases hp : p c = true
      · simp [hp, cellGet, hc, ih]
      · simp [hp, cellGet, hc, ih]

/-- A read of an address that the first of two lists does not hold. -/
theorem cellGet_append (m n : List (Nat × α)) (a : Nat) (h : ∀ c ∈ m, c.1 ≠ a) :
    cellGet d (m ++ n) a = cellGet d n a := by
  induction m with
  | nil => rfl
  | cons c m ih =>
    have hc : c.1 ≠ a := h c (by simp)
    simp only [List.cons_append, cellGet, hc, if_false]
    exact ih (fun x hx => h x (by simp [hx]))

variable [DecidableEq α]

/-- The cells of a run lie within it. -/
theorem cellRun_mem (vs : List α) (a : Nat) (c : Nat × α) (h : c ∈ cellRun d a vs) : a ≤ c.1 ∧ c.1 < a + vs.length ∧ c.2 ≠ d c.1 := by
  induction vs generalizing a with
  | nil => simp [cellRun] at h
  | cons v vs ih =>
    simp only [cellRun] at h
    split at h
    · have := ih (a + 1) h
      simp only [List.length_cons]
      exact ⟨by omega, by omega, this.2.2⟩
    · rename_i hv
      simp only [List.mem_cons] at h
      rcases h with rfl | h
      · exact ⟨Nat.le_refl _, by simp, hv⟩
      · have := ih (a + 1) h
        simp only [List.length_cons]
        exact ⟨by omega, by omega, this.2.2⟩

/-- A run reads as its values. -/
theorem cellGet_run (vs : List α) (a b : Nat) (n : List (Nat × α)) (h1 : a ≤ b) (h2 : b < a + vs.length)
    (hn : ∀ c ∈ n, c.1 ≠ b) : cellGet d (cellRun d a vs ++ n) b = vs[b - a]'(by omega) := by
  induction vs generalizing a with
  | nil => simp at h2; omega
  | cons v vs ih =>
    simp only [List.length_cons] at h2
    by_cases hb : b = a
    · subst hb
      simp only [cellRun]
      split
      · rename_i hv
        rw [cellGet_append d _ _ _ ?_, cellGet_of_not_mem d _ _ hn]
        · simp [hv]
        · intro c hc
          have := (cellRun_mem d vs (b + 1) c hc).1
          omega
      · simp [cellGet]
    · have hstep := ih (a + 1) (by omega) (by omega)
      have e : (v :: vs)[b - a]'(by simp; omega) = vs[b - (a + 1)]'(by omega) := by
        rw [List.getElem_cons]
        have : b - a ≠ 0 := by omega
        simp only [this, dif_neg, not_false_eq_true]
        congr 1
      rw [e, ← hstep]
      simp only [cellRun]
      split
      · rfl
      · have : a ≠ b := fun h => hb h.symm
        simp [cellGet, this]

/-- A read of an address that was written gives the value written. -/
theorem cellGet_put_in (m : List (Nat × α)) (vs : List α) (a b : Nat) (h1 : a ≤ b) (h2 : b < a + vs.length) :
    cellGet d (cellPut d m a vs) b = vs[b - a]'(by omega) := by
  unfold cellPut
  rw [List.append_assoc, cellGet_append, cellGet_run d vs a b _ h1 h2]
  · intro c hc; simp at hc; omega
  · intro c hc; simp at hc; omega

/-- A read of an address that was not written is as before. -/
theorem cellGet_put_out (m : List (Nat × α)) (vs : List α) (a b : Nat) (h : b < a ∨ a + vs.length ≤ b) :
    cellGet d (cellPut d m a vs) b = cellGet d m b := by
  unfold cellPut
  have run : ∀ c ∈ cellRun d a vs, c.1 ≠ b := by
    intro c hc
    have := cellRun_mem d vs a c hc
    omega
  rcases h with h | h
  · have : cellGet d (m.filter (fun c => decide (c.1 < a)) ++ cellRun d a vs ++ m.filter (fun c => decide (a + vs.length ≤ c.1))) b
        = cellGet d (m.filter (fun c => decide (c.1 < a))) b := by
      induction m.filter (fun c => decide (c.1 < a)) with
      | nil =>
        rw [List.nil_append, cellGet_append d _ _ _ run, cellGet_of_not_mem]; rfl
        intro c hc; simp at hc; omega
      | cons c l ih => simp only [List.cons_append, cellGet]; split <;> simp_all
    rw [this]
    exact cellGet_filter d _ m b (by intro c _ hc; simp; omega)
  · rw [List.append_assoc, cellGet_append d _ _ _ (by intro c hc; simp at hc; omega), cellGet_append d _ _ _ run]
    exact cellGet_filter d _ m b (by intro c _ hc; simp; omega)

/-- The value at an address whose value is changed. -/
theorem cellGet_mod (m : List (Nat × α)) (a : Nat) (f : α → α) : cellGet d (cellMod d m a f) a = f (cellGet d m a) := by
  have h := cellGet_put_in d m [f (cellGet d m a)] a a (Nat.le_refl a) (by simp)
  simpa [cellMod] using h

/-- The value at another address. -/
theorem cellGet_mod_ne (m : List (Nat × α)) (a b : Nat) (f : α → α) (h : a ≠ b) :
    cellGet d (cellMod d m a f) b = cellGet d m b :=
  cellGet_put_out d m _ a b (by simp; omega)

/-- A run is in the canonical form. -/
theorem cellRun_pairwise (vs : List α) (a : Nat) : (cellRun d a vs).Pairwise (fun x y => x.1 < y.1) := by
  induction vs generalizing a with
  | nil => simp [cellRun]
  | cons v vs ih =>
    simp only [cellRun]
    split
    · exact ih _
    · rw [List.pairwise_cons]
      refine ⟨?_, ih _⟩
      intro c hc
      have := (cellRun_mem d vs (a + 1) c hc).1
      simp; omega

/-- Every write keeps the canonical form. -/
theorem cellPut_wf (m : List (Nat × α)) (a : Nat) (vs : List α) (h : cellWf d m = true) :
    cellWf d (cellPut d m a vs) = true := by
  simp only [cellWf, Bool.and_eq_true, decide_eq_true_eq, List.all_eq_true] at h ⊢
  obtain ⟨hp, hv⟩ := h
  refine ⟨?_, ?_⟩
  · unfold cellPut
    rw [List.append_assoc, List.pairwise_append, List.pairwise_append]
    refine ⟨hp.filter _, ⟨cellRun_pairwise d vs a, hp.filter _, ?_⟩, ?_⟩
    · intro x hx y hy
      have := cellRun_mem d vs a x hx
      simp at hy; omega
    · intro x hx y hy
      simp only [List.mem_append] at hy
      rcases hy with hy | hy
      · have := cellRun_mem d vs a y hy
        simp at hx; omega
      · simp at hx hy; omega
  · intro c hc
    unfold cellPut at hc
    simp only [List.mem_append] at hc
    rcases hc with (hc | hc) | hc
    · exact hv c ((List.mem_filter.mp hc).1)
    · simpa using (cellRun_mem d vs a c hc).2.2
    · exact hv c ((List.mem_filter.mp hc).1)

/-- A selection of the cells keeps the canonical form. -/
theorem cellWf_filter (m : List (Nat × α)) (p : Nat × α → Bool) (h : cellWf d m = true) : cellWf d (m.filter p) = true := by
  simp only [cellWf, Bool.and_eq_true, decide_eq_true_eq, List.all_eq_true] at h ⊢
  exact ⟨h.1.filter _, fun c hc => h.2 c ((List.mem_filter.mp hc).1)⟩

/-- A write of a memory keeps its canonical form. -/
theorem memWrite_wf (m : List Host.Cell) (a : Nat) (bs : List Nat) (h : Memory.wf m = true) :
    Memory.wf (memWrite m a bs) = true := cellPut_wf _ _ _ _ h

end Sys2Proof.Machine
end

