-- ==== Sys2Proof/Laws/Exec.lean ====
section
/-! SUPPORT. What every command's answer has in common. -/
namespace Sys2Proof.Machine

/-- What a command answers where it answers a next state: its effect sealed, but that FW_UPDATE may write the flash and that
the read of stage 2 and a burn may write the OTP array. -/
def Sealed (c : Instr) (s t : State) : Prop :=
  match c with
  | .fwUpdate q data => ∃ u, t = s.seal u ∨ t = { s.seal u with flash := s.flashAfter q data }
  | .otpStartRead reads => ∃ u : State,
      t = { s.seal u with otp := { u.otp with raw := if s.stage = 1 then otpRawRead s.otp.raw reads else s.otp.raw } }
  | .otpBurnDone rb => ∃ u : State, t = { s.seal u with otp := { u.otp with raw := s.otp.rawBurnt rb } }
  | _ => ∃ u, t = s.seal u

/-- A command of one unit answers what it answers of that unit where the part has it, and the state as it is where it has
not. -/
theorem onUnit_eq_next {i b : Nat} {s t : State} {o : Host.Outcome State Fault Refusal}
    (h : onUnit i b s o = .next t) : o = .next t ∨ t = s.seal s := by
  unfold onUnit at h
  split at h
  · exact .inl h
  · unfold State.answer at h; cases h; exact .inr rfl

/-- A command of one unit answers what it answers of that unit, where the part has it. -/
theorem onUnit_of_lt {i b : Nat} {s : State} {o : Host.Outcome State Fault Refusal} (h : i < b) : onUnit i b s o = o := by
  unfold onUnit; rw [if_pos h]

/-- What a sealed answer is. -/
theorem answer_eq_next {s u t : State} (h : s.answer u = .next t) : t = s.seal u := by
  unfold State.answer at h; cases h; rfl

/-- Every command's next state is sealed. -/
theorem exec_sealed (c : Instr) (s t : State) (h : exec c s = .next t) : Sealed c s t := by
  cases c
  case fwUpdate q data =>
    obtain h | h := onUnit_eq_next h
    · exact ⟨_, .inr (by cases h; rfl)⟩
    · exact ⟨_, .inl h⟩
  case otpStartRead reads => exact ⟨_, by cases h; rfl⟩
  case otpBurnDone rb => exact ⟨_, by cases h; rfl⟩
  all_goals first
    | exact ⟨_, answer_eq_next h⟩
    | exact (onUnit_eq_next h).elim (fun h => ⟨_, answer_eq_next h⟩) (fun h => ⟨_, h⟩)

end Sys2Proof.Machine
end

