-- ==== Sys2Proof/Laws/Memory.lean ====
section
/-! SUPPORT. Every operation that changes a memory keeps its canonical form, and what a write leaves of the rest. -/
namespace Sys2Proof.Machine

variable (s : State)

/-- On-chip memory keeps its form under a write. -/
theorem chipWrite_wf (a : Nat) (bs : List Nat) (h : Memory.wf s.chip = true) : Memory.wf (s.chipWrite a bs).chip = true :=
  memWrite_wf _ a bs h

/-- DRAM keeps its form under a write. -/
theorem dramWrite_wf (a : Nat) (bs : List Nat) (h : Memory.wf s.dram = true) : Memory.wf (s.dramWrite a bs).dram = true :=
  memWrite_wf _ a bs h

/-- What went to host memory keeps its form under a write. -/
theorem hostWrite_wf (a : Nat) (bs : List Nat) (h : Memory.wf s.hostOut = true) :
    Memory.wf (s.hostWrite a bs).hostOut = true := memWrite_wf _ a bs h

/-- Taking the cells of an interval away keeps the form (the clear of Bank L, a reset). -/
theorem memDrop_wf (m : List Host.Cell) (p : Host.Cell → Bool) (h : Memory.wf m = true) : Memory.wf (m.filter p) = true :=
  cellWf_filter _ m p h

/-- Moving one bit of on-chip memory keeps the form. -/
theorem setChipBit_wf (a b : Nat) (v : Bool) (h : Memory.wf s.chip = true) :
    Memory.wf (s.setChipBit a b v).chip = true := memWrite_wf _ _ _ h

/-- A copy within a memory keeps the form. -/
theorem memCopy_wf (m : List Host.Cell) (src dst len : Nat) (h : Memory.wf m = true) :
    Memory.wf (memCopy m src dst len) = true := by
  simp only [Memory.wf, cellWf, Bool.and_eq_true, decide_eq_true_eq, List.all_eq_true] at h ⊢
  obtain ⟨hp, hv⟩ := h
  have hmid : ((m.filter (fun c => decide (src ≤ c.1) && decide (c.1 < src + len))).map
      (fun c => (c.1 - src + dst, c.2))).Pairwise (fun x y => x.1 < y.1) := by
    rw [List.pairwise_map]
    refine (hp.filter _).imp_of_mem ?_
    intro x y hx hy hxy
    simp only [List.mem_filter, Bool.and_eq_true, decide_eq_true_eq] at hx hy
    simp only []
    omega
  refine ⟨?_, ?_⟩
  · unfold memCopy
    rw [List.append_assoc, List.pairwise_append, List.pairwise_append]
    refine ⟨hp.filter _, ⟨hmid, hp.filter _, ?_⟩, ?_⟩
    · intro x hx y hy
      simp only [List.mem_map, List.mem_filter, Bool.and_eq_true, decide_eq_true_eq] at hx hy
      obtain ⟨c, ⟨_, hc1, hc2⟩, rfl⟩ := hx
      simp only []
      omega
    · intro x hx y hy
      simp only [List.mem_append, List.mem_map, List.mem_filter, Bool.and_eq_true, decide_eq_true_eq] at hx hy
      rcases hy with ⟨c, ⟨_, hc1, hc2⟩, rfl⟩ | hy
      · simp only []; omega
      · omega
  · intro c hc
    unfold memCopy at hc
    simp only [List.mem_append, List.mem_map, List.mem_filter] at hc
    rcases hc with (hc | ⟨x, hx, rfl⟩) | hc
    · exact hv c hc.1
    · exact hv x hx.1
    · exact hv c hc.1

/-- A byte that a write stores reads back. -/
theorem memWrite_in (m : List Host.Cell) (a b : Nat) (bs : List Nat) (h1 : a ≤ b) (h2 : b < a + bs.length) :
    cellGet byte0 (memWrite m a bs) b = BitVec.ofNat 8 (bs.getD (b - a) 0) := by
  have hl : b < a + (bs.map (BitVec.ofNat 8)).length := by rw [List.length_map]; exact h2
  have := cellGet_put_in byte0 m (bs.map (BitVec.ofNat 8)) a b h1 hl
  unfold memWrite
  rw [this]
  simp [List.getD_eq_getElem?_getD, show b - a < bs.length by omega]

/-- A byte outside what a write stores is as before. -/
theorem memWrite_out (m : List Host.Cell) (a b : Nat) (bs : List Nat) (h : b < a ∨ a + bs.length ≤ b) :
    cellGet byte0 (memWrite m a bs) b = cellGet byte0 m b := by
  have : b < a ∨ a + (bs.map (BitVec.ofNat 8)).length ≤ b := by rw [List.length_map]; exact h
  exact cellGet_put_out byte0 m (bs.map (BitVec.ofNat 8)) a b this

end Sys2Proof.Machine
end

