-- ==== Sys2Proof/Laws/State.lean ====
section
/-! SUPPORT. What each update of the state leaves as it is, one lemma per field and update, and reads of a written register. -/
namespace Sys2Proof.Machine

variable (s : State)

/-! `State.set` changes nothing but `regs`. -/
@[simp] theorem State.set_part (a : Nat) (v : BitVec 32) : (s.set a v).part = s.part := rfl
@[simp] theorem State.set_dt (a : Nat) (v : BitVec 32) : (s.set a v).dt = s.dt := rfl
@[simp] theorem State.set_mode (a : Nat) (v : BitVec 32) : (s.set a v).mode = s.mode := rfl
@[simp] theorem State.set_chip (a : Nat) (v : BitVec 32) : (s.set a v).chip = s.chip := rfl
@[simp] theorem State.set_dram (a : Nat) (v : BitVec 32) : (s.set a v).dram = s.dram := rfl
@[simp] theorem State.set_hostOut (a : Nat) (v : BitVec 32) : (s.set a v).hostOut = s.hostOut := rfl
@[simp] theorem State.set_flash (a : Nat) (v : BitVec 32) : (s.set a v).flash = s.flash := rfl
@[simp] theorem State.set_enc (a : Nat) (v : BitVec 32) : (s.set a v).enc = s.enc := rfl
@[simp] theorem State.set_rows (a : Nat) (v : BitVec 32) : (s.set a v).rows = s.rows := rfl
@[simp] theorem State.set_ports (a : Nat) (v : BitVec 32) : (s.set a v).ports = s.ports := rfl
@[simp] theorem State.set_planes (a : Nat) (v : BitVec 32) : (s.set a v).planes = s.planes := rfl
@[simp] theorem State.set_zones (a : Nat) (v : BitVec 32) : (s.set a v).zones = s.zones := rfl
@[simp] theorem State.set_evFifo (a : Nat) (v : BitVec 32) : (s.set a v).evFifo = s.evFifo := rfl
@[simp] theorem State.set_out (a : Nat) (v : BitVec 32) : (s.set a v).out = s.out := rfl
@[simp] theorem State.set_tick (a : Nat) (v : BitVec 32) : (s.set a v).tick = s.tick := rfl
@[simp] theorem State.set_qps (a : Nat) (v : BitVec 32) : (s.set a v).qps = s.qps := rfl
@[simp] theorem State.set_vecs (a : Nat) (v : BitVec 32) : (s.set a v).vecs = s.vecs := rfl
@[simp] theorem State.set_pw (a : Nat) (v : BitVec 32) : (s.set a v).pw = s.pw := rfl
@[simp] theorem State.set_diag (a : Nat) (v : BitVec 32) : (s.set a v).diag = s.diag := rfl
@[simp] theorem State.set_otp (a : Nat) (v : BitVec 32) : (s.set a v).otp = s.otp := rfl
@[simp] theorem State.set_copy (a : Nat) (v : BitVec 32) : (s.set a v).copy = s.copy := rfl
@[simp] theorem State.set_chain (a : Nat) (v : BitVec 32) : (s.set a v).chain = s.chain := rfl
@[simp] theorem State.set_chans (a : Nat) (v : BitVec 32) : (s.set a v).chans = s.chans := rfl
@[simp] theorem State.set_bist (a : Nat) (v : BitVec 32) : (s.set a v).bist = s.bist := rfl
@[simp] theorem State.set_overDue (a : Nat) (v : BitVec 32) : (s.set a v).overDue = s.overDue := rfl
@[simp] theorem State.set_linkUp (a : Nat) (v : BitVec 32) : (s.set a v).linkUp = s.linkUp := rfl
@[simp] theorem State.set_pcie (a : Nat) (v : BitVec 32) : (s.set a v).pcie = s.pcie := rfl
@[simp] theorem State.set_heads (a : Nat) (v : BitVec 32) : (s.set a v).heads = s.heads := rfl
@[simp] theorem State.set_bankBad (a : Nat) (v : BitVec 32) : (s.set a v).bankBad = s.bankBad := rfl
@[simp] theorem State.set_dramBad (a : Nat) (v : BitVec 32) : (s.set a v).dramBad = s.dramBad := rfl
@[simp] theorem State.set_tabCopy (a : Nat) (v : BitVec 32) : (s.set a v).tabCopy = s.tabCopy := rfl
@[simp] theorem State.set_screenTurn (a : Nat) (v : BitVec 32) : (s.set a v).screenTurn = s.screenTurn := rfl
@[simp] theorem State.set_dmaTurn (a : Nat) (v : BitVec 32) : (s.set a v).dmaTurn = s.dmaTurn := rfl
@[simp] theorem State.set_scrub (a : Nat) (v : BitVec 32) : (s.set a v).scrub = s.scrub := rfl
@[simp] theorem State.set_dramSr (a : Nat) (v : BitVec 32) : (s.set a v).dramSr = s.dramSr := rfl
@[simp] theorem State.set_flush (a : Nat) (v : BitVec 32) : (s.set a v).flush = s.flush := rfl
@[simp] theorem State.set_goodTick (a : Nat) (v : BitVec 32) : (s.set a v).goodTick = s.goodTick := rfl
@[simp] theorem State.set_scan (a : Nat) (v : BitVec 32) : (s.set a v).scan = s.scan := rfl
@[simp] theorem State.set_pending (a : Nat) (v : BitVec 32) : (s.set a v).pending = s.pending := rfl

/-! `State.setN` changes nothing but `regs`. -/
@[simp] theorem State.setN_part (a v : Nat) : (s.setN a v).part = s.part := rfl
@[simp] theorem State.setN_dt (a v : Nat) : (s.setN a v).dt = s.dt := rfl
@[simp] theorem State.setN_mode (a v : Nat) : (s.setN a v).mode = s.mode := rfl
@[simp] theorem State.setN_chip (a v : Nat) : (s.setN a v).chip = s.chip := rfl
@[simp] theorem State.setN_dram (a v : Nat) : (s.setN a v).dram = s.dram := rfl
@[simp] theorem State.setN_hostOut (a v : Nat) : (s.setN a v).hostOut = s.hostOut := rfl
@[simp] theorem State.setN_flash (a v : Nat) : (s.setN a v).flash = s.flash := rfl
@[simp] theorem State.setN_enc (a v : Nat) : (s.setN a v).enc = s.enc := rfl
@[simp] theorem State.setN_rows (a v : Nat) : (s.setN a v).rows = s.rows := rfl
@[simp] theorem State.setN_ports (a v : Nat) : (s.setN a v).ports = s.ports := rfl
@[simp] theorem State.setN_planes (a v : Nat) : (s.setN a v).planes = s.planes := rfl
@[simp] theorem State.setN_zones (a v : Nat) : (s.setN a v).zones = s.zones := rfl
@[simp] theorem State.setN_evFifo (a v : Nat) : (s.setN a v).evFifo = s.evFifo := rfl
@[simp] theorem State.setN_out (a v : Nat) : (s.setN a v).out = s.out := rfl
@[simp] theorem State.setN_tick (a v : Nat) : (s.setN a v).tick = s.tick := rfl
@[simp] theorem State.setN_qps (a v : Nat) : (s.setN a v).qps = s.qps := rfl
@[simp] theorem State.setN_vecs (a v : Nat) : (s.setN a v).vecs = s.vecs := rfl
@[simp] theorem State.setN_pw (a v : Nat) : (s.setN a v).pw = s.pw := rfl
@[simp] theorem State.setN_diag (a v : Nat) : (s.setN a v).diag = s.diag := rfl
@[simp] theorem State.setN_otp (a v : Nat) : (s.setN a v).otp = s.otp := rfl
@[simp] theorem State.setN_copy (a v : Nat) : (s.setN a v).copy = s.copy := rfl
@[simp] theorem State.setN_chain (a v : Nat) : (s.setN a v).chain = s.chain := rfl
@[simp] theorem State.setN_chans (a v : Nat) : (s.setN a v).chans = s.chans := rfl
@[simp] theorem State.setN_bist (a v : Nat) : (s.setN a v).bist = s.bist := rfl
@[simp] theorem State.setN_overDue (a v : Nat) : (s.setN a v).overDue = s.overDue := rfl
@[simp] theorem State.setN_linkUp (a v : Nat) : (s.setN a v).linkUp = s.linkUp := rfl
@[simp] theorem State.setN_pcie (a v : Nat) : (s.setN a v).pcie = s.pcie := rfl
@[simp] theorem State.setN_heads (a v : Nat) : (s.setN a v).heads = s.heads := rfl
@[simp] theorem State.setN_bankBad (a v : Nat) : (s.setN a v).bankBad = s.bankBad := rfl
@[simp] theorem State.setN_dramBad (a v : Nat) : (s.setN a v).dramBad = s.dramBad := rfl
@[simp] theorem State.setN_tabCopy (a v : Nat) : (s.setN a v).tabCopy = s.tabCopy := rfl
@[simp] theorem State.setN_screenTurn (a v : Nat) : (s.setN a v).screenTurn = s.screenTurn := rfl
@[simp] theorem State.setN_dmaTurn (a v : Nat) : (s.setN a v).dmaTurn = s.dmaTurn := rfl
@[simp] theorem State.setN_scrub (a v : Nat) : (s.setN a v).scrub = s.scrub := rfl
@[simp] theorem State.setN_dramSr (a v : Nat) : (s.setN a v).dramSr = s.dramSr := rfl
@[simp] theorem State.setN_flush (a v : Nat) : (s.setN a v).flush = s.flush := rfl
@[simp] theorem State.setN_goodTick (a v : Nat) : (s.setN a v).goodTick = s.goodTick := rfl
@[simp] theorem State.setN_scan (a v : Nat) : (s.setN a v).scan = s.scan := rfl
@[simp] theorem State.setN_pending (a v : Nat) : (s.setN a v).pending = s.pending := rfl

/-! `State.setFld` changes nothing but `regs`. -/
@[simp] theorem State.setFld_part (a : Nat) (f : Fld) (v : Nat) : (s.setFld a f v).part = s.part := rfl
@[simp] theorem State.setFld_dt (a : Nat) (f : Fld) (v : Nat) : (s.setFld a f v).dt = s.dt := rfl
@[simp] theorem State.setFld_mode (a : Nat) (f : Fld) (v : Nat) : (s.setFld a f v).mode = s.mode := rfl
@[simp] theorem State.setFld_chip (a : Nat) (f : Fld) (v : Nat) : (s.setFld a f v).chip = s.chip := rfl
@[simp] theorem State.setFld_dram (a : Nat) (f : Fld) (v : Nat) : (s.setFld a f v).dram = s.dram := rfl
@[simp] theorem State.setFld_hostOut (a : Nat) (f : Fld) (v : Nat) : (s.setFld a f v).hostOut = s.hostOut := rfl
@[simp] theorem State.setFld_flash (a : Nat) (f : Fld) (v : Nat) : (s.setFld a f v).flash = s.flash := rfl
@[simp] theorem State.setFld_enc (a : Nat) (f : Fld) (v : Nat) : (s.setFld a f v).enc = s.enc := rfl
@[simp] theorem State.setFld_rows (a : Nat) (f : Fld) (v : Nat) : (s.setFld a f v).rows = s.rows := rfl
@[simp] theorem State.setFld_ports (a : Nat) (f : Fld) (v : Nat) : (s.setFld a f v).ports = s.ports := rfl
@[simp] theorem State.setFld_planes (a : Nat) (f : Fld) (v : Nat) : (s.setFld a f v).planes = s.planes := rfl
@[simp] theorem State.setFld_zones (a : Nat) (f : Fld) (v : Nat) : (s.setFld a f v).zones = s.zones := rfl
@[simp] theorem State.setFld_evFifo (a : Nat) (f : Fld) (v : Nat) : (s.setFld a f v).evFifo = s.evFifo := rfl
@[simp] theorem State.setFld_out (a : Nat) (f : Fld) (v : Nat) : (s.setFld a f v).out = s.out := rfl
@[simp] theorem State.setFld_tick (a : Nat) (f : Fld) (v : Nat) : (s.setFld a f v).tick = s.tick := rfl
@[simp] theorem State.setFld_qps (a : Nat) (f : Fld) (v : Nat) : (s.setFld a f v).qps = s.qps := rfl
@[simp] theorem State.setFld_vecs (a : Nat) (f : Fld) (v : Nat) : (s.setFld a f v).vecs = s.vecs := rfl
@[simp] theorem State.setFld_pw (a : Nat) (f : Fld) (v : Nat) : (s.setFld a f v).pw = s.pw := rfl
@[simp] theorem State.setFld_diag (a : Nat) (f : Fld) (v : Nat) : (s.setFld a f v).diag = s.diag := rfl
@[simp] theorem State.setFld_otp (a : Nat) (f : Fld) (v : Nat) : (s.setFld a f v).otp = s.otp := rfl
@[simp] theorem State.setFld_copy (a : Nat) (f : Fld) (v : Nat) : (s.setFld a f v).copy = s.copy := rfl
@[simp] theorem State.setFld_chain (a : Nat) (f : Fld) (v : Nat) : (s.setFld a f v).chain = s.chain := rfl
@[simp] theorem State.setFld_chans (a : Nat) (f : Fld) (v : Nat) : (s.setFld a f v).chans = s.chans := rfl
@[simp] theorem State.setFld_bist (a : Nat) (f : Fld) (v : Nat) : (s.setFld a f v).bist = s.bist := rfl
@[simp] theorem State.setFld_overDue (a : Nat) (f : Fld) (v : Nat) : (s.setFld a f v).overDue = s.overDue := rfl
@[simp] theorem State.setFld_linkUp (a : Nat) (f : Fld) (v : Nat) : (s.setFld a f v).linkUp = s.linkUp := rfl
@[simp] theorem State.setFld_pcie (a : Nat) (f : Fld) (v : Nat) : (s.setFld a f v).pcie = s.pcie := rfl
@[simp] theorem State.setFld_heads (a : Nat) (f : Fld) (v : Nat) : (s.setFld a f v).heads = s.heads := rfl
@[simp] theorem State.setFld_bankBad (a : Nat) (f : Fld) (v : Nat) : (s.setFld a f v).bankBad = s.bankBad := rfl
@[simp] theorem State.setFld_dramBad (a : Nat) (f : Fld) (v : Nat) : (s.setFld a f v).dramBad = s.dramBad := rfl
@[simp] theorem State.setFld_tabCopy (a : Nat) (f : Fld) (v : Nat) : (s.setFld a f v).tabCopy = s.tabCopy := rfl
@[simp] theorem State.setFld_screenTurn (a : Nat) (f : Fld) (v : Nat) : (s.setFld a f v).screenTurn = s.screenTurn := rfl
@[simp] theorem State.setFld_dmaTurn (a : Nat) (f : Fld) (v : Nat) : (s.setFld a f v).dmaTurn = s.dmaTurn := rfl
@[simp] theorem State.setFld_scrub (a : Nat) (f : Fld) (v : Nat) : (s.setFld a f v).scrub = s.scrub := rfl
@[simp] theorem State.setFld_dramSr (a : Nat) (f : Fld) (v : Nat) : (s.setFld a f v).dramSr = s.dramSr := rfl
@[simp] theorem State.setFld_flush (a : Nat) (f : Fld) (v : Nat) : (s.setFld a f v).flush = s.flush := rfl
@[simp] theorem State.setFld_goodTick (a : Nat) (f : Fld) (v : Nat) : (s.setFld a f v).goodTick = s.goodTick := rfl
@[simp] theorem State.setFld_scan (a : Nat) (f : Fld) (v : Nat) : (s.setFld a f v).scan = s.scan := rfl
@[simp] theorem State.setFld_pending (a : Nat) (f : Fld) (v : Nat) : (s.setFld a f v).pending = s.pending := rfl

/-! `State.setBit` changes nothing but `regs`. -/
@[simp] theorem State.setBit_part (a : Nat) (f : Fld) (b : Bool) : (s.setBit a f b).part = s.part := rfl
@[simp] theorem State.setBit_dt (a : Nat) (f : Fld) (b : Bool) : (s.setBit a f b).dt = s.dt := rfl
@[simp] theorem State.setBit_mode (a : Nat) (f : Fld) (b : Bool) : (s.setBit a f b).mode = s.mode := rfl
@[simp] theorem State.setBit_chip (a : Nat) (f : Fld) (b : Bool) : (s.setBit a f b).chip = s.chip := rfl
@[simp] theorem State.setBit_dram (a : Nat) (f : Fld) (b : Bool) : (s.setBit a f b).dram = s.dram := rfl
@[simp] theorem State.setBit_hostOut (a : Nat) (f : Fld) (b : Bool) : (s.setBit a f b).hostOut = s.hostOut := rfl
@[simp] theorem State.setBit_flash (a : Nat) (f : Fld) (b : Bool) : (s.setBit a f b).flash = s.flash := rfl
@[simp] theorem State.setBit_enc (a : Nat) (f : Fld) (b : Bool) : (s.setBit a f b).enc = s.enc := rfl
@[simp] theorem State.setBit_rows (a : Nat) (f : Fld) (b : Bool) : (s.setBit a f b).rows = s.rows := rfl
@[simp] theorem State.setBit_ports (a : Nat) (f : Fld) (b : Bool) : (s.setBit a f b).ports = s.ports := rfl
@[simp] theorem State.setBit_planes (a : Nat) (f : Fld) (b : Bool) : (s.setBit a f b).planes = s.planes := rfl
@[simp] theorem State.setBit_zones (a : Nat) (f : Fld) (b : Bool) : (s.setBit a f b).zones = s.zones := rfl
@[simp] theorem State.setBit_evFifo (a : Nat) (f : Fld) (b : Bool) : (s.setBit a f b).evFifo = s.evFifo := rfl
@[simp] theorem State.setBit_out (a : Nat) (f : Fld) (b : Bool) : (s.setBit a f b).out = s.out := rfl
@[simp] theorem State.setBit_tick (a : Nat) (f : Fld) (b : Bool) : (s.setBit a f b).tick = s.tick := rfl
@[simp] theorem State.setBit_qps (a : Nat) (f : Fld) (b : Bool) : (s.setBit a f b).qps = s.qps := rfl
@[simp] theorem State.setBit_vecs (a : Nat) (f : Fld) (b : Bool) : (s.setBit a f b).vecs = s.vecs := rfl
@[simp] theorem State.setBit_pw (a : Nat) (f : Fld) (b : Bool) : (s.setBit a f b).pw = s.pw := rfl
@[simp] theorem State.setBit_diag (a : Nat) (f : Fld) (b : Bool) : (s.setBit a f b).diag = s.diag := rfl
@[simp] theorem State.setBit_otp (a : Nat) (f : Fld) (b : Bool) : (s.setBit a f b).otp = s.otp := rfl
@[simp] theorem State.setBit_copy (a : Nat) (f : Fld) (b : Bool) : (s.setBit a f b).copy = s.copy := rfl
@[simp] theorem State.setBit_chain (a : Nat) (f : Fld) (b : Bool) : (s.setBit a f b).chain = s.chain := rfl
@[simp] theorem State.setBit_chans (a : Nat) (f : Fld) (b : Bool) : (s.setBit a f b).chans = s.chans := rfl
@[simp] theorem State.setBit_bist (a : Nat) (f : Fld) (b : Bool) : (s.setBit a f b).bist = s.bist := rfl
@[simp] theorem State.setBit_overDue (a : Nat) (f : Fld) (b : Bool) : (s.setBit a f b).overDue = s.overDue := rfl
@[simp] theorem State.setBit_linkUp (a : Nat) (f : Fld) (b : Bool) : (s.setBit a f b).linkUp = s.linkUp := rfl
@[simp] theorem State.setBit_pcie (a : Nat) (f : Fld) (b : Bool) : (s.setBit a f b).pcie = s.pcie := rfl
@[simp] theorem State.setBit_heads (a : Nat) (f : Fld) (b : Bool) : (s.setBit a f b).heads = s.heads := rfl
@[simp] theorem State.setBit_bankBad (a : Nat) (f : Fld) (b : Bool) : (s.setBit a f b).bankBad = s.bankBad := rfl
@[simp] theorem State.setBit_dramBad (a : Nat) (f : Fld) (b : Bool) : (s.setBit a f b).dramBad = s.dramBad := rfl
@[simp] theorem State.setBit_tabCopy (a : Nat) (f : Fld) (b : Bool) : (s.setBit a f b).tabCopy = s.tabCopy := rfl
@[simp] theorem State.setBit_screenTurn (a : Nat) (f : Fld) (b : Bool) : (s.setBit a f b).screenTurn = s.screenTurn := rfl
@[simp] theorem State.setBit_dmaTurn (a : Nat) (f : Fld) (b : Bool) : (s.setBit a f b).dmaTurn = s.dmaTurn := rfl
@[simp] theorem State.setBit_scrub (a : Nat) (f : Fld) (b : Bool) : (s.setBit a f b).scrub = s.scrub := rfl
@[simp] theorem State.setBit_dramSr (a : Nat) (f : Fld) (b : Bool) : (s.setBit a f b).dramSr = s.dramSr := rfl
@[simp] theorem State.setBit_flush (a : Nat) (f : Fld) (b : Bool) : (s.setBit a f b).flush = s.flush := rfl
@[simp] theorem State.setBit_goodTick (a : Nat) (f : Fld) (b : Bool) : (s.setBit a f b).goodTick = s.goodTick := rfl
@[simp] theorem State.setBit_scan (a : Nat) (f : Fld) (b : Bool) : (s.setBit a f b).scan = s.scan := rfl
@[simp] theorem State.setBit_pending (a : Nat) (f : Fld) (b : Bool) : (s.setBit a f b).pending = s.pending := rfl

/-! `State.bump` changes nothing but `regs`. -/
@[simp] theorem State.bump_part (a : Nat) (f : Fld) (k : Nat) : (s.bump a f k).part = s.part := rfl
@[simp] theorem State.bump_dt (a : Nat) (f : Fld) (k : Nat) : (s.bump a f k).dt = s.dt := rfl
@[simp] theorem State.bump_mode (a : Nat) (f : Fld) (k : Nat) : (s.bump a f k).mode = s.mode := rfl
@[simp] theorem State.bump_chip (a : Nat) (f : Fld) (k : Nat) : (s.bump a f k).chip = s.chip := rfl
@[simp] theorem State.bump_dram (a : Nat) (f : Fld) (k : Nat) : (s.bump a f k).dram = s.dram := rfl
@[simp] theorem State.bump_hostOut (a : Nat) (f : Fld) (k : Nat) : (s.bump a f k).hostOut = s.hostOut := rfl
@[simp] theorem State.bump_flash (a : Nat) (f : Fld) (k : Nat) : (s.bump a f k).flash = s.flash := rfl
@[simp] theorem State.bump_enc (a : Nat) (f : Fld) (k : Nat) : (s.bump a f k).enc = s.enc := rfl
@[simp] theorem State.bump_rows (a : Nat) (f : Fld) (k : Nat) : (s.bump a f k).rows = s.rows := rfl
@[simp] theorem State.bump_ports (a : Nat) (f : Fld) (k : Nat) : (s.bump a f k).ports = s.ports := rfl
@[simp] theorem State.bump_planes (a : Nat) (f : Fld) (k : Nat) : (s.bump a f k).planes = s.planes := rfl
@[simp] theorem State.bump_zones (a : Nat) (f : Fld) (k : Nat) : (s.bump a f k).zones = s.zones := rfl
@[simp] theorem State.bump_evFifo (a : Nat) (f : Fld) (k : Nat) : (s.bump a f k).evFifo = s.evFifo := rfl
@[simp] theorem State.bump_out (a : Nat) (f : Fld) (k : Nat) : (s.bump a f k).out = s.out := rfl
@[simp] theorem State.bump_tick (a : Nat) (f : Fld) (k : Nat) : (s.bump a f k).tick = s.tick := rfl
@[simp] theorem State.bump_qps (a : Nat) (f : Fld) (k : Nat) : (s.bump a f k).qps = s.qps := rfl
@[simp] theorem State.bump_vecs (a : Nat) (f : Fld) (k : Nat) : (s.bump a f k).vecs = s.vecs := rfl
@[simp] theorem State.bump_pw (a : Nat) (f : Fld) (k : Nat) : (s.bump a f k).pw = s.pw := rfl
@[simp] theorem State.bump_diag (a : Nat) (f : Fld) (k : Nat) : (s.bump a f k).diag = s.diag := rfl
@[simp] theorem State.bump_otp (a : Nat) (f : Fld) (k : Nat) : (s.bump a f k).otp = s.otp := rfl
@[simp] theorem State.bump_copy (a : Nat) (f : Fld) (k : Nat) : (s.bump a f k).copy = s.copy := rfl
@[simp] theorem State.bump_chain (a : Nat) (f : Fld) (k : Nat) : (s.bump a f k).chain = s.chain := rfl
@[simp] theorem State.bump_chans (a : Nat) (f : Fld) (k : Nat) : (s.bump a f k).chans = s.chans := rfl
@[simp] theorem State.bump_bist (a : Nat) (f : Fld) (k : Nat) : (s.bump a f k).bist = s.bist := rfl
@[simp] theorem State.bump_overDue (a : Nat) (f : Fld) (k : Nat) : (s.bump a f k).overDue = s.overDue := rfl
@[simp] theorem State.bump_linkUp (a : Nat) (f : Fld) (k : Nat) : (s.bump a f k).linkUp = s.linkUp := rfl
@[simp] theorem State.bump_pcie (a : Nat) (f : Fld) (k : Nat) : (s.bump a f k).pcie = s.pcie := rfl
@[simp] theorem State.bump_heads (a : Nat) (f : Fld) (k : Nat) : (s.bump a f k).heads = s.heads := rfl
@[simp] theorem State.bump_bankBad (a : Nat) (f : Fld) (k : Nat) : (s.bump a f k).bankBad = s.bankBad := rfl
@[simp] theorem State.bump_dramBad (a : Nat) (f : Fld) (k : Nat) : (s.bump a f k).dramBad = s.dramBad := rfl
@[simp] theorem State.bump_tabCopy (a : Nat) (f : Fld) (k : Nat) : (s.bump a f k).tabCopy = s.tabCopy := rfl
@[simp] theorem State.bump_screenTurn (a : Nat) (f : Fld) (k : Nat) : (s.bump a f k).screenTurn = s.screenTurn := rfl
@[simp] theorem State.bump_dmaTurn (a : Nat) (f : Fld) (k : Nat) : (s.bump a f k).dmaTurn = s.dmaTurn := rfl
@[simp] theorem State.bump_scrub (a : Nat) (f : Fld) (k : Nat) : (s.bump a f k).scrub = s.scrub := rfl
@[simp] theorem State.bump_dramSr (a : Nat) (f : Fld) (k : Nat) : (s.bump a f k).dramSr = s.dramSr := rfl
@[simp] theorem State.bump_flush (a : Nat) (f : Fld) (k : Nat) : (s.bump a f k).flush = s.flush := rfl
@[simp] theorem State.bump_goodTick (a : Nat) (f : Fld) (k : Nat) : (s.bump a f k).goodTick = s.goodTick := rfl
@[simp] theorem State.bump_scan (a : Nat) (f : Fld) (k : Nat) : (s.bump a f k).scan = s.scan := rfl
@[simp] theorem State.bump_pending (a : Nat) (f : Fld) (k : Nat) : (s.bump a f k).pending = s.pending := rfl

/-! `State.set64` changes nothing but `regs`. -/
@[simp] theorem State.set64_part (lo hi v : Nat) : (s.set64 lo hi v).part = s.part := rfl
@[simp] theorem State.set64_dt (lo hi v : Nat) : (s.set64 lo hi v).dt = s.dt := rfl
@[simp] theorem State.set64_mode (lo hi v : Nat) : (s.set64 lo hi v).mode = s.mode := rfl
@[simp] theorem State.set64_chip (lo hi v : Nat) : (s.set64 lo hi v).chip = s.chip := rfl
@[simp] theorem State.set64_dram (lo hi v : Nat) : (s.set64 lo hi v).dram = s.dram := rfl
@[simp] theorem State.set64_hostOut (lo hi v : Nat) : (s.set64 lo hi v).hostOut = s.hostOut := rfl
@[simp] theorem State.set64_flash (lo hi v : Nat) : (s.set64 lo hi v).flash = s.flash := rfl
@[simp] theorem State.set64_enc (lo hi v : Nat) : (s.set64 lo hi v).enc = s.enc := rfl
@[simp] theorem State.set64_rows (lo hi v : Nat) : (s.set64 lo hi v).rows = s.rows := rfl
@[simp] theorem State.set64_ports (lo hi v : Nat) : (s.set64 lo hi v).ports = s.ports := rfl
@[simp] theorem State.set64_planes (lo hi v : Nat) : (s.set64 lo hi v).planes = s.planes := rfl
@[simp] theorem State.set64_zones (lo hi v : Nat) : (s.set64 lo hi v).zones = s.zones := rfl
@[simp] theorem State.set64_evFifo (lo hi v : Nat) : (s.set64 lo hi v).evFifo = s.evFifo := rfl
@[simp] theorem State.set64_out (lo hi v : Nat) : (s.set64 lo hi v).out = s.out := rfl
@[simp] theorem State.set64_tick (lo hi v : Nat) : (s.set64 lo hi v).tick = s.tick := rfl
@[simp] theorem State.set64_qps (lo hi v : Nat) : (s.set64 lo hi v).qps = s.qps := rfl
@[simp] theorem State.set64_vecs (lo hi v : Nat) : (s.set64 lo hi v).vecs = s.vecs := rfl
@[simp] theorem State.set64_pw (lo hi v : Nat) : (s.set64 lo hi v).pw = s.pw := rfl
@[simp] theorem State.set64_diag (lo hi v : Nat) : (s.set64 lo hi v).diag = s.diag := rfl
@[simp] theorem State.set64_otp (lo hi v : Nat) : (s.set64 lo hi v).otp = s.otp := rfl
@[simp] theorem State.set64_copy (lo hi v : Nat) : (s.set64 lo hi v).copy = s.copy := rfl
@[simp] theorem State.set64_chain (lo hi v : Nat) : (s.set64 lo hi v).chain = s.chain := rfl
@[simp] theorem State.set64_chans (lo hi v : Nat) : (s.set64 lo hi v).chans = s.chans := rfl
@[simp] theorem State.set64_bist (lo hi v : Nat) : (s.set64 lo hi v).bist = s.bist := rfl
@[simp] theorem State.set64_overDue (lo hi v : Nat) : (s.set64 lo hi v).overDue = s.overDue := rfl
@[simp] theorem State.set64_linkUp (lo hi v : Nat) : (s.set64 lo hi v).linkUp = s.linkUp := rfl
@[simp] theorem State.set64_pcie (lo hi v : Nat) : (s.set64 lo hi v).pcie = s.pcie := rfl
@[simp] theorem State.set64_heads (lo hi v : Nat) : (s.set64 lo hi v).heads = s.heads := rfl
@[simp] theorem State.set64_bankBad (lo hi v : Nat) : (s.set64 lo hi v).bankBad = s.bankBad := rfl
@[simp] theorem State.set64_dramBad (lo hi v : Nat) : (s.set64 lo hi v).dramBad = s.dramBad := rfl
@[simp] theorem State.set64_tabCopy (lo hi v : Nat) : (s.set64 lo hi v).tabCopy = s.tabCopy := rfl
@[simp] theorem State.set64_screenTurn (lo hi v : Nat) : (s.set64 lo hi v).screenTurn = s.screenTurn := rfl
@[simp] theorem State.set64_dmaTurn (lo hi v : Nat) : (s.set64 lo hi v).dmaTurn = s.dmaTurn := rfl
@[simp] theorem State.set64_scrub (lo hi v : Nat) : (s.set64 lo hi v).scrub = s.scrub := rfl
@[simp] theorem State.set64_dramSr (lo hi v : Nat) : (s.set64 lo hi v).dramSr = s.dramSr := rfl
@[simp] theorem State.set64_flush (lo hi v : Nat) : (s.set64 lo hi v).flush = s.flush := rfl
@[simp] theorem State.set64_goodTick (lo hi v : Nat) : (s.set64 lo hi v).goodTick = s.goodTick := rfl
@[simp] theorem State.set64_scan (lo hi v : Nat) : (s.set64 lo hi v).scan = s.scan := rfl
@[simp] theorem State.set64_pending (lo hi v : Nat) : (s.set64 lo hi v).pending = s.pending := rfl

/-! `State.modEnc` changes nothing but `enc`. -/
@[simp] theorem State.modEnc_part (k : Nat) (f : Enc → Enc) : (s.modEnc k f).part = s.part := rfl
@[simp] theorem State.modEnc_dt (k : Nat) (f : Enc → Enc) : (s.modEnc k f).dt = s.dt := rfl
@[simp] theorem State.modEnc_mode (k : Nat) (f : Enc → Enc) : (s.modEnc k f).mode = s.mode := rfl
@[simp] theorem State.modEnc_regs (k : Nat) (f : Enc → Enc) : (s.modEnc k f).regs = s.regs := rfl
@[simp] theorem State.modEnc_chip (k : Nat) (f : Enc → Enc) : (s.modEnc k f).chip = s.chip := rfl
@[simp] theorem State.modEnc_dram (k : Nat) (f : Enc → Enc) : (s.modEnc k f).dram = s.dram := rfl
@[simp] theorem State.modEnc_hostOut (k : Nat) (f : Enc → Enc) : (s.modEnc k f).hostOut = s.hostOut := rfl
@[simp] theorem State.modEnc_flash (k : Nat) (f : Enc → Enc) : (s.modEnc k f).flash = s.flash := rfl
@[simp] theorem State.modEnc_rows (k : Nat) (f : Enc → Enc) : (s.modEnc k f).rows = s.rows := rfl
@[simp] theorem State.modEnc_ports (k : Nat) (f : Enc → Enc) : (s.modEnc k f).ports = s.ports := rfl
@[simp] theorem State.modEnc_planes (k : Nat) (f : Enc → Enc) : (s.modEnc k f).planes = s.planes := rfl
@[simp] theorem State.modEnc_zones (k : Nat) (f : Enc → Enc) : (s.modEnc k f).zones = s.zones := rfl
@[simp] theorem State.modEnc_evFifo (k : Nat) (f : Enc → Enc) : (s.modEnc k f).evFifo = s.evFifo := rfl
@[simp] theorem State.modEnc_out (k : Nat) (f : Enc → Enc) : (s.modEnc k f).out = s.out := rfl
@[simp] theorem State.modEnc_tick (k : Nat) (f : Enc → Enc) : (s.modEnc k f).tick = s.tick := rfl
@[simp] theorem State.modEnc_qps (k : Nat) (f : Enc → Enc) : (s.modEnc k f).qps = s.qps := rfl
@[simp] theorem State.modEnc_vecs (k : Nat) (f : Enc → Enc) : (s.modEnc k f).vecs = s.vecs := rfl
@[simp] theorem State.modEnc_pw (k : Nat) (f : Enc → Enc) : (s.modEnc k f).pw = s.pw := rfl
@[simp] theorem State.modEnc_diag (k : Nat) (f : Enc → Enc) : (s.modEnc k f).diag = s.diag := rfl
@[simp] theorem State.modEnc_otp (k : Nat) (f : Enc → Enc) : (s.modEnc k f).otp = s.otp := rfl
@[simp] theorem State.modEnc_copy (k : Nat) (f : Enc → Enc) : (s.modEnc k f).copy = s.copy := rfl
@[simp] theorem State.modEnc_chain (k : Nat) (f : Enc → Enc) : (s.modEnc k f).chain = s.chain := rfl
@[simp] theorem State.modEnc_chans (k : Nat) (f : Enc → Enc) : (s.modEnc k f).chans = s.chans := rfl
@[simp] theorem State.modEnc_bist (k : Nat) (f : Enc → Enc) : (s.modEnc k f).bist = s.bist := rfl
@[simp] theorem State.modEnc_overDue (k : Nat) (f : Enc → Enc) : (s.modEnc k f).overDue = s.overDue := rfl
@[simp] theorem State.modEnc_linkUp (k : Nat) (f : Enc → Enc) : (s.modEnc k f).linkUp = s.linkUp := rfl
@[simp] theorem State.modEnc_pcie (k : Nat) (f : Enc → Enc) : (s.modEnc k f).pcie = s.pcie := rfl
@[simp] theorem State.modEnc_heads (k : Nat) (f : Enc → Enc) : (s.modEnc k f).heads = s.heads := rfl
@[simp] theorem State.modEnc_bankBad (k : Nat) (f : Enc → Enc) : (s.modEnc k f).bankBad = s.bankBad := rfl
@[simp] theorem State.modEnc_dramBad (k : Nat) (f : Enc → Enc) : (s.modEnc k f).dramBad = s.dramBad := rfl
@[simp] theorem State.modEnc_tabCopy (k : Nat) (f : Enc → Enc) : (s.modEnc k f).tabCopy = s.tabCopy := rfl
@[simp] theorem State.modEnc_screenTurn (k : Nat) (f : Enc → Enc) : (s.modEnc k f).screenTurn = s.screenTurn := rfl
@[simp] theorem State.modEnc_dmaTurn (k : Nat) (f : Enc → Enc) : (s.modEnc k f).dmaTurn = s.dmaTurn := rfl
@[simp] theorem State.modEnc_scrub (k : Nat) (f : Enc → Enc) : (s.modEnc k f).scrub = s.scrub := rfl
@[simp] theorem State.modEnc_dramSr (k : Nat) (f : Enc → Enc) : (s.modEnc k f).dramSr = s.dramSr := rfl
@[simp] theorem State.modEnc_flush (k : Nat) (f : Enc → Enc) : (s.modEnc k f).flush = s.flush := rfl
@[simp] theorem State.modEnc_goodTick (k : Nat) (f : Enc → Enc) : (s.modEnc k f).goodTick = s.goodTick := rfl
@[simp] theorem State.modEnc_scan (k : Nat) (f : Enc → Enc) : (s.modEnc k f).scan = s.scan := rfl
@[simp] theorem State.modEnc_pending (k : Nat) (f : Enc → Enc) : (s.modEnc k f).pending = s.pending := rfl

/-! `State.modRow` changes nothing but `rows`. -/
@[simp] theorem State.modRow_part (i : Nat) (f : Row → Row) : (s.modRow i f).part = s.part := rfl
@[simp] theorem State.modRow_dt (i : Nat) (f : Row → Row) : (s.modRow i f).dt = s.dt := rfl
@[simp] theorem State.modRow_mode (i : Nat) (f : Row → Row) : (s.modRow i f).mode = s.mode := rfl
@[simp] theorem State.modRow_regs (i : Nat) (f : Row → Row) : (s.modRow i f).regs = s.regs := rfl
@[simp] theorem State.modRow_chip (i : Nat) (f : Row → Row) : (s.modRow i f).chip = s.chip := rfl
@[simp] theorem State.modRow_dram (i : Nat) (f : Row → Row) : (s.modRow i f).dram = s.dram := rfl
@[simp] theorem State.modRow_hostOut (i : Nat) (f : Row → Row) : (s.modRow i f).hostOut = s.hostOut := rfl
@[simp] theorem State.modRow_flash (i : Nat) (f : Row → Row) : (s.modRow i f).flash = s.flash := rfl
@[simp] theorem State.modRow_enc (i : Nat) (f : Row → Row) : (s.modRow i f).enc = s.enc := rfl
@[simp] theorem State.modRow_ports (i : Nat) (f : Row → Row) : (s.modRow i f).ports = s.ports := rfl
@[simp] theorem State.modRow_planes (i : Nat) (f : Row → Row) : (s.modRow i f).planes = s.planes := rfl
@[simp] theorem State.modRow_zones (i : Nat) (f : Row → Row) : (s.modRow i f).zones = s.zones := rfl
@[simp] theorem State.modRow_evFifo (i : Nat) (f : Row → Row) : (s.modRow i f).evFifo = s.evFifo := rfl
@[simp] theorem State.modRow_out (i : Nat) (f : Row → Row) : (s.modRow i f).out = s.out := rfl
@[simp] theorem State.modRow_tick (i : Nat) (f : Row → Row) : (s.modRow i f).tick = s.tick := rfl
@[simp] theorem State.modRow_qps (i : Nat) (f : Row → Row) : (s.modRow i f).qps = s.qps := rfl
@[simp] theorem State.modRow_vecs (i : Nat) (f : Row → Row) : (s.modRow i f).vecs = s.vecs := rfl
@[simp] theorem State.modRow_pw (i : Nat) (f : Row → Row) : (s.modRow i f).pw = s.pw := rfl
@[simp] theorem State.modRow_diag (i : Nat) (f : Row → Row) : (s.modRow i f).diag = s.diag := rfl
@[simp] theorem State.modRow_otp (i : Nat) (f : Row → Row) : (s.modRow i f).otp = s.otp := rfl
@[simp] theorem State.modRow_copy (i : Nat) (f : Row → Row) : (s.modRow i f).copy = s.copy := rfl
@[simp] theorem State.modRow_chain (i : Nat) (f : Row → Row) : (s.modRow i f).chain = s.chain := rfl
@[simp] theorem State.modRow_chans (i : Nat) (f : Row → Row) : (s.modRow i f).chans = s.chans := rfl
@[simp] theorem State.modRow_bist (i : Nat) (f : Row → Row) : (s.modRow i f).bist = s.bist := rfl
@[simp] theorem State.modRow_overDue (i : Nat) (f : Row → Row) : (s.modRow i f).overDue = s.overDue := rfl
@[simp] theorem State.modRow_linkUp (i : Nat) (f : Row → Row) : (s.modRow i f).linkUp = s.linkUp := rfl
@[simp] theorem State.modRow_pcie (i : Nat) (f : Row → Row) : (s.modRow i f).pcie = s.pcie := rfl
@[simp] theorem State.modRow_heads (i : Nat) (f : Row → Row) : (s.modRow i f).heads = s.heads := rfl
@[simp] theorem State.modRow_bankBad (i : Nat) (f : Row → Row) : (s.modRow i f).bankBad = s.bankBad := rfl
@[simp] theorem State.modRow_dramBad (i : Nat) (f : Row → Row) : (s.modRow i f).dramBad = s.dramBad := rfl
@[simp] theorem State.modRow_tabCopy (i : Nat) (f : Row → Row) : (s.modRow i f).tabCopy = s.tabCopy := rfl
@[simp] theorem State.modRow_screenTurn (i : Nat) (f : Row → Row) : (s.modRow i f).screenTurn = s.screenTurn := rfl
@[simp] theorem State.modRow_dmaTurn (i : Nat) (f : Row → Row) : (s.modRow i f).dmaTurn = s.dmaTurn := rfl
@[simp] theorem State.modRow_scrub (i : Nat) (f : Row → Row) : (s.modRow i f).scrub = s.scrub := rfl
@[simp] theorem State.modRow_dramSr (i : Nat) (f : Row → Row) : (s.modRow i f).dramSr = s.dramSr := rfl
@[simp] theorem State.modRow_flush (i : Nat) (f : Row → Row) : (s.modRow i f).flush = s.flush := rfl
@[simp] theorem State.modRow_goodTick (i : Nat) (f : Row → Row) : (s.modRow i f).goodTick = s.goodTick := rfl
@[simp] theorem State.modRow_scan (i : Nat) (f : Row → Row) : (s.modRow i f).scan = s.scan := rfl
@[simp] theorem State.modRow_pending (i : Nat) (f : Row → Row) : (s.modRow i f).pending = s.pending := rfl

/-! `State.modPort` changes nothing but `ports`. -/
@[simp] theorem State.modPort_part (n : Nat) (f : Port → Port) : (s.modPort n f).part = s.part := rfl
@[simp] theorem State.modPort_dt (n : Nat) (f : Port → Port) : (s.modPort n f).dt = s.dt := rfl
@[simp] theorem State.modPort_mode (n : Nat) (f : Port → Port) : (s.modPort n f).mode = s.mode := rfl
@[simp] theorem State.modPort_regs (n : Nat) (f : Port → Port) : (s.modPort n f).regs = s.regs := rfl
@[simp] theorem State.modPort_chip (n : Nat) (f : Port → Port) : (s.modPort n f).chip = s.chip := rfl
@[simp] theorem State.modPort_dram (n : Nat) (f : Port → Port) : (s.modPort n f).dram = s.dram := rfl
@[simp] theorem State.modPort_hostOut (n : Nat) (f : Port → Port) : (s.modPort n f).hostOut = s.hostOut := rfl
@[simp] theorem State.modPort_flash (n : Nat) (f : Port → Port) : (s.modPort n f).flash = s.flash := rfl
@[simp] theorem State.modPort_enc (n : Nat) (f : Port → Port) : (s.modPort n f).enc = s.enc := rfl
@[simp] theorem State.modPort_rows (n : Nat) (f : Port → Port) : (s.modPort n f).rows = s.rows := rfl
@[simp] theorem State.modPort_planes (n : Nat) (f : Port → Port) : (s.modPort n f).planes = s.planes := rfl
@[simp] theorem State.modPort_zones (n : Nat) (f : Port → Port) : (s.modPort n f).zones = s.zones := rfl
@[simp] theorem State.modPort_evFifo (n : Nat) (f : Port → Port) : (s.modPort n f).evFifo = s.evFifo := rfl
@[simp] theorem State.modPort_out (n : Nat) (f : Port → Port) : (s.modPort n f).out = s.out := rfl
@[simp] theorem State.modPort_tick (n : Nat) (f : Port → Port) : (s.modPort n f).tick = s.tick := rfl
@[simp] theorem State.modPort_qps (n : Nat) (f : Port → Port) : (s.modPort n f).qps = s.qps := rfl
@[simp] theorem State.modPort_vecs (n : Nat) (f : Port → Port) : (s.modPort n f).vecs = s.vecs := rfl
@[simp] theorem State.modPort_pw (n : Nat) (f : Port → Port) : (s.modPort n f).pw = s.pw := rfl
@[simp] theorem State.modPort_diag (n : Nat) (f : Port → Port) : (s.modPort n f).diag = s.diag := rfl
@[simp] theorem State.modPort_otp (n : Nat) (f : Port → Port) : (s.modPort n f).otp = s.otp := rfl
@[simp] theorem State.modPort_copy (n : Nat) (f : Port → Port) : (s.modPort n f).copy = s.copy := rfl
@[simp] theorem State.modPort_chain (n : Nat) (f : Port → Port) : (s.modPort n f).chain = s.chain := rfl
@[simp] theorem State.modPort_chans (n : Nat) (f : Port → Port) : (s.modPort n f).chans = s.chans := rfl
@[simp] theorem State.modPort_bist (n : Nat) (f : Port → Port) : (s.modPort n f).bist = s.bist := rfl
@[simp] theorem State.modPort_overDue (n : Nat) (f : Port → Port) : (s.modPort n f).overDue = s.overDue := rfl
@[simp] theorem State.modPort_linkUp (n : Nat) (f : Port → Port) : (s.modPort n f).linkUp = s.linkUp := rfl
@[simp] theorem State.modPort_pcie (n : Nat) (f : Port → Port) : (s.modPort n f).pcie = s.pcie := rfl
@[simp] theorem State.modPort_heads (n : Nat) (f : Port → Port) : (s.modPort n f).heads = s.heads := rfl
@[simp] theorem State.modPort_bankBad (n : Nat) (f : Port → Port) : (s.modPort n f).bankBad = s.bankBad := rfl
@[simp] theorem State.modPort_dramBad (n : Nat) (f : Port → Port) : (s.modPort n f).dramBad = s.dramBad := rfl
@[simp] theorem State.modPort_tabCopy (n : Nat) (f : Port → Port) : (s.modPort n f).tabCopy = s.tabCopy := rfl
@[simp] theorem State.modPort_screenTurn (n : Nat) (f : Port → Port) : (s.modPort n f).screenTurn = s.screenTurn := rfl
@[simp] theorem State.modPort_dmaTurn (n : Nat) (f : Port → Port) : (s.modPort n f).dmaTurn = s.dmaTurn := rfl
@[simp] theorem State.modPort_scrub (n : Nat) (f : Port → Port) : (s.modPort n f).scrub = s.scrub := rfl
@[simp] theorem State.modPort_dramSr (n : Nat) (f : Port → Port) : (s.modPort n f).dramSr = s.dramSr := rfl
@[simp] theorem State.modPort_flush (n : Nat) (f : Port → Port) : (s.modPort n f).flush = s.flush := rfl
@[simp] theorem State.modPort_goodTick (n : Nat) (f : Port → Port) : (s.modPort n f).goodTick = s.goodTick := rfl
@[simp] theorem State.modPort_scan (n : Nat) (f : Port → Port) : (s.modPort n f).scan = s.scan := rfl
@[simp] theorem State.modPort_pending (n : Nat) (f : Port → Port) : (s.modPort n f).pending = s.pending := rfl

/-! `State.modPlane` changes nothing but `planes`. -/
@[simp] theorem State.modPlane_part (p : Nat) (f : Plane → Plane) : (s.modPlane p f).part = s.part := rfl
@[simp] theorem State.modPlane_dt (p : Nat) (f : Plane → Plane) : (s.modPlane p f).dt = s.dt := rfl
@[simp] theorem State.modPlane_mode (p : Nat) (f : Plane → Plane) : (s.modPlane p f).mode = s.mode := rfl
@[simp] theorem State.modPlane_regs (p : Nat) (f : Plane → Plane) : (s.modPlane p f).regs = s.regs := rfl
@[simp] theorem State.modPlane_chip (p : Nat) (f : Plane → Plane) : (s.modPlane p f).chip = s.chip := rfl
@[simp] theorem State.modPlane_dram (p : Nat) (f : Plane → Plane) : (s.modPlane p f).dram = s.dram := rfl
@[simp] theorem State.modPlane_hostOut (p : Nat) (f : Plane → Plane) : (s.modPlane p f).hostOut = s.hostOut := rfl
@[simp] theorem State.modPlane_flash (p : Nat) (f : Plane → Plane) : (s.modPlane p f).flash = s.flash := rfl
@[simp] theorem State.modPlane_enc (p : Nat) (f : Plane → Plane) : (s.modPlane p f).enc = s.enc := rfl
@[simp] theorem State.modPlane_rows (p : Nat) (f : Plane → Plane) : (s.modPlane p f).rows = s.rows := rfl
@[simp] theorem State.modPlane_ports (p : Nat) (f : Plane → Plane) : (s.modPlane p f).ports = s.ports := rfl
@[simp] theorem State.modPlane_zones (p : Nat) (f : Plane → Plane) : (s.modPlane p f).zones = s.zones := rfl
@[simp] theorem State.modPlane_evFifo (p : Nat) (f : Plane → Plane) : (s.modPlane p f).evFifo = s.evFifo := rfl
@[simp] theorem State.modPlane_out (p : Nat) (f : Plane → Plane) : (s.modPlane p f).out = s.out := rfl
@[simp] theorem State.modPlane_tick (p : Nat) (f : Plane → Plane) : (s.modPlane p f).tick = s.tick := rfl
@[simp] theorem State.modPlane_qps (p : Nat) (f : Plane → Plane) : (s.modPlane p f).qps = s.qps := rfl
@[simp] theorem State.modPlane_vecs (p : Nat) (f : Plane → Plane) : (s.modPlane p f).vecs = s.vecs := rfl
@[simp] theorem State.modPlane_pw (p : Nat) (f : Plane → Plane) : (s.modPlane p f).pw = s.pw := rfl
@[simp] theorem State.modPlane_diag (p : Nat) (f : Plane → Plane) : (s.modPlane p f).diag = s.diag := rfl
@[simp] theorem State.modPlane_otp (p : Nat) (f : Plane → Plane) : (s.modPlane p f).otp = s.otp := rfl
@[simp] theorem State.modPlane_copy (p : Nat) (f : Plane → Plane) : (s.modPlane p f).copy = s.copy := rfl
@[simp] theorem State.modPlane_chain (p : Nat) (f : Plane → Plane) : (s.modPlane p f).chain = s.chain := rfl
@[simp] theorem State.modPlane_chans (p : Nat) (f : Plane → Plane) : (s.modPlane p f).chans = s.chans := rfl
@[simp] theorem State.modPlane_bist (p : Nat) (f : Plane → Plane) : (s.modPlane p f).bist = s.bist := rfl
@[simp] theorem State.modPlane_overDue (p : Nat) (f : Plane → Plane) : (s.modPlane p f).overDue = s.overDue := rfl
@[simp] theorem State.modPlane_linkUp (p : Nat) (f : Plane → Plane) : (s.modPlane p f).linkUp = s.linkUp := rfl
@[simp] theorem State.modPlane_pcie (p : Nat) (f : Plane → Plane) : (s.modPlane p f).pcie = s.pcie := rfl
@[simp] theorem State.modPlane_heads (p : Nat) (f : Plane → Plane) : (s.modPlane p f).heads = s.heads := rfl
@[simp] theorem State.modPlane_bankBad (p : Nat) (f : Plane → Plane) : (s.modPlane p f).bankBad = s.bankBad := rfl
@[simp] theorem State.modPlane_dramBad (p : Nat) (f : Plane → Plane) : (s.modPlane p f).dramBad = s.dramBad := rfl
@[simp] theorem State.modPlane_tabCopy (p : Nat) (f : Plane → Plane) : (s.modPlane p f).tabCopy = s.tabCopy := rfl
@[simp] theorem State.modPlane_screenTurn (p : Nat) (f : Plane → Plane) : (s.modPlane p f).screenTurn = s.screenTurn := rfl
@[simp] theorem State.modPlane_dmaTurn (p : Nat) (f : Plane → Plane) : (s.modPlane p f).dmaTurn = s.dmaTurn := rfl
@[simp] theorem State.modPlane_scrub (p : Nat) (f : Plane → Plane) : (s.modPlane p f).scrub = s.scrub := rfl
@[simp] theorem State.modPlane_dramSr (p : Nat) (f : Plane → Plane) : (s.modPlane p f).dramSr = s.dramSr := rfl
@[simp] theorem State.modPlane_flush (p : Nat) (f : Plane → Plane) : (s.modPlane p f).flush = s.flush := rfl
@[simp] theorem State.modPlane_goodTick (p : Nat) (f : Plane → Plane) : (s.modPlane p f).goodTick = s.goodTick := rfl
@[simp] theorem State.modPlane_scan (p : Nat) (f : Plane → Plane) : (s.modPlane p f).scan = s.scan := rfl
@[simp] theorem State.modPlane_pending (p : Nat) (f : Plane → Plane) : (s.modPlane p f).pending = s.pending := rfl

/-! `State.modChan` changes nothing but `chans`. -/
@[simp] theorem State.modChan_part (ch : Nat) (f : Chan → Chan) : (s.modChan ch f).part = s.part := rfl
@[simp] theorem State.modChan_dt (ch : Nat) (f : Chan → Chan) : (s.modChan ch f).dt = s.dt := rfl
@[simp] theorem State.modChan_mode (ch : Nat) (f : Chan → Chan) : (s.modChan ch f).mode = s.mode := rfl
@[simp] theorem State.modChan_regs (ch : Nat) (f : Chan → Chan) : (s.modChan ch f).regs = s.regs := rfl
@[simp] theorem State.modChan_chip (ch : Nat) (f : Chan → Chan) : (s.modChan ch f).chip = s.chip := rfl
@[simp] theorem State.modChan_dram (ch : Nat) (f : Chan → Chan) : (s.modChan ch f).dram = s.dram := rfl
@[simp] theorem State.modChan_hostOut (ch : Nat) (f : Chan → Chan) : (s.modChan ch f).hostOut = s.hostOut := rfl
@[simp] theorem State.modChan_flash (ch : Nat) (f : Chan → Chan) : (s.modChan ch f).flash = s.flash := rfl
@[simp] theorem State.modChan_enc (ch : Nat) (f : Chan → Chan) : (s.modChan ch f).enc = s.enc := rfl
@[simp] theorem State.modChan_rows (ch : Nat) (f : Chan → Chan) : (s.modChan ch f).rows = s.rows := rfl
@[simp] theorem State.modChan_ports (ch : Nat) (f : Chan → Chan) : (s.modChan ch f).ports = s.ports := rfl
@[simp] theorem State.modChan_planes (ch : Nat) (f : Chan → Chan) : (s.modChan ch f).planes = s.planes := rfl
@[simp] theorem State.modChan_zones (ch : Nat) (f : Chan → Chan) : (s.modChan ch f).zones = s.zones := rfl
@[simp] theorem State.modChan_evFifo (ch : Nat) (f : Chan → Chan) : (s.modChan ch f).evFifo = s.evFifo := rfl
@[simp] theorem State.modChan_out (ch : Nat) (f : Chan → Chan) : (s.modChan ch f).out = s.out := rfl
@[simp] theorem State.modChan_tick (ch : Nat) (f : Chan → Chan) : (s.modChan ch f).tick = s.tick := rfl
@[simp] theorem State.modChan_qps (ch : Nat) (f : Chan → Chan) : (s.modChan ch f).qps = s.qps := rfl
@[simp] theorem State.modChan_vecs (ch : Nat) (f : Chan → Chan) : (s.modChan ch f).vecs = s.vecs := rfl
@[simp] theorem State.modChan_pw (ch : Nat) (f : Chan → Chan) : (s.modChan ch f).pw = s.pw := rfl
@[simp] theorem State.modChan_diag (ch : Nat) (f : Chan → Chan) : (s.modChan ch f).diag = s.diag := rfl
@[simp] theorem State.modChan_otp (ch : Nat) (f : Chan → Chan) : (s.modChan ch f).otp = s.otp := rfl
@[simp] theorem State.modChan_copy (ch : Nat) (f : Chan → Chan) : (s.modChan ch f).copy = s.copy := rfl
@[simp] theorem State.modChan_chain (ch : Nat) (f : Chan → Chan) : (s.modChan ch f).chain = s.chain := rfl
@[simp] theorem State.modChan_bist (ch : Nat) (f : Chan → Chan) : (s.modChan ch f).bist = s.bist := rfl
@[simp] theorem State.modChan_overDue (ch : Nat) (f : Chan → Chan) : (s.modChan ch f).overDue = s.overDue := rfl
@[simp] theorem State.modChan_linkUp (ch : Nat) (f : Chan → Chan) : (s.modChan ch f).linkUp = s.linkUp := rfl
@[simp] theorem State.modChan_pcie (ch : Nat) (f : Chan → Chan) : (s.modChan ch f).pcie = s.pcie := rfl
@[simp] theorem State.modChan_heads (ch : Nat) (f : Chan → Chan) : (s.modChan ch f).heads = s.heads := rfl
@[simp] theorem State.modChan_bankBad (ch : Nat) (f : Chan → Chan) : (s.modChan ch f).bankBad = s.bankBad := rfl
@[simp] theorem State.modChan_dramBad (ch : Nat) (f : Chan → Chan) : (s.modChan ch f).dramBad = s.dramBad := rfl
@[simp] theorem State.modChan_tabCopy (ch : Nat) (f : Chan → Chan) : (s.modChan ch f).tabCopy = s.tabCopy := rfl
@[simp] theorem State.modChan_screenTurn (ch : Nat) (f : Chan → Chan) : (s.modChan ch f).screenTurn = s.screenTurn := rfl
@[simp] theorem State.modChan_dmaTurn (ch : Nat) (f : Chan → Chan) : (s.modChan ch f).dmaTurn = s.dmaTurn := rfl
@[simp] theorem State.modChan_scrub (ch : Nat) (f : Chan → Chan) : (s.modChan ch f).scrub = s.scrub := rfl
@[simp] theorem State.modChan_dramSr (ch : Nat) (f : Chan → Chan) : (s.modChan ch f).dramSr = s.dramSr := rfl
@[simp] theorem State.modChan_flush (ch : Nat) (f : Chan → Chan) : (s.modChan ch f).flush = s.flush := rfl
@[simp] theorem State.modChan_goodTick (ch : Nat) (f : Chan → Chan) : (s.modChan ch f).goodTick = s.goodTick := rfl
@[simp] theorem State.modChan_scan (ch : Nat) (f : Chan → Chan) : (s.modChan ch f).scan = s.scan := rfl
@[simp] theorem State.modChan_pending (ch : Nat) (f : Chan → Chan) : (s.modChan ch f).pending = s.pending := rfl

/-! `State.modZone` changes nothing but `zones`. -/
@[simp] theorem State.modZone_part (n z : Nat) (f : Zone → Zone) : (s.modZone n z f).part = s.part := rfl
@[simp] theorem State.modZone_dt (n z : Nat) (f : Zone → Zone) : (s.modZone n z f).dt = s.dt := rfl
@[simp] theorem State.modZone_mode (n z : Nat) (f : Zone → Zone) : (s.modZone n z f).mode = s.mode := rfl
@[simp] theorem State.modZone_regs (n z : Nat) (f : Zone → Zone) : (s.modZone n z f).regs = s.regs := rfl
@[simp] theorem State.modZone_chip (n z : Nat) (f : Zone → Zone) : (s.modZone n z f).chip = s.chip := rfl
@[simp] theorem State.modZone_dram (n z : Nat) (f : Zone → Zone) : (s.modZone n z f).dram = s.dram := rfl
@[simp] theorem State.modZone_hostOut (n z : Nat) (f : Zone → Zone) : (s.modZone n z f).hostOut = s.hostOut := rfl
@[simp] theorem State.modZone_flash (n z : Nat) (f : Zone → Zone) : (s.modZone n z f).flash = s.flash := rfl
@[simp] theorem State.modZone_enc (n z : Nat) (f : Zone → Zone) : (s.modZone n z f).enc = s.enc := rfl
@[simp] theorem State.modZone_rows (n z : Nat) (f : Zone → Zone) : (s.modZone n z f).rows = s.rows := rfl
@[simp] theorem State.modZone_ports (n z : Nat) (f : Zone → Zone) : (s.modZone n z f).ports = s.ports := rfl
@[simp] theorem State.modZone_planes (n z : Nat) (f : Zone → Zone) : (s.modZone n z f).planes = s.planes := rfl
@[simp] theorem State.modZone_evFifo (n z : Nat) (f : Zone → Zone) : (s.modZone n z f).evFifo = s.evFifo := rfl
@[simp] theorem State.modZone_out (n z : Nat) (f : Zone → Zone) : (s.modZone n z f).out = s.out := rfl
@[simp] theorem State.modZone_tick (n z : Nat) (f : Zone → Zone) : (s.modZone n z f).tick = s.tick := rfl
@[simp] theorem State.modZone_qps (n z : Nat) (f : Zone → Zone) : (s.modZone n z f).qps = s.qps := rfl
@[simp] theorem State.modZone_vecs (n z : Nat) (f : Zone → Zone) : (s.modZone n z f).vecs = s.vecs := rfl
@[simp] theorem State.modZone_pw (n z : Nat) (f : Zone → Zone) : (s.modZone n z f).pw = s.pw := rfl
@[simp] theorem State.modZone_diag (n z : Nat) (f : Zone → Zone) : (s.modZone n z f).diag = s.diag := rfl
@[simp] theorem State.modZone_otp (n z : Nat) (f : Zone → Zone) : (s.modZone n z f).otp = s.otp := rfl
@[simp] theorem State.modZone_copy (n z : Nat) (f : Zone → Zone) : (s.modZone n z f).copy = s.copy := rfl
@[simp] theorem State.modZone_chain (n z : Nat) (f : Zone → Zone) : (s.modZone n z f).chain = s.chain := rfl
@[simp] theorem State.modZone_chans (n z : Nat) (f : Zone → Zone) : (s.modZone n z f).chans = s.chans := rfl
@[simp] theorem State.modZone_bist (n z : Nat) (f : Zone → Zone) : (s.modZone n z f).bist = s.bist := rfl
@[simp] theorem State.modZone_overDue (n z : Nat) (f : Zone → Zone) : (s.modZone n z f).overDue = s.overDue := rfl
@[simp] theorem State.modZone_linkUp (n z : Nat) (f : Zone → Zone) : (s.modZone n z f).linkUp = s.linkUp := rfl
@[simp] theorem State.modZone_pcie (n z : Nat) (f : Zone → Zone) : (s.modZone n z f).pcie = s.pcie := rfl
@[simp] theorem State.modZone_heads (n z : Nat) (f : Zone → Zone) : (s.modZone n z f).heads = s.heads := rfl
@[simp] theorem State.modZone_bankBad (n z : Nat) (f : Zone → Zone) : (s.modZone n z f).bankBad = s.bankBad := rfl
@[simp] theorem State.modZone_dramBad (n z : Nat) (f : Zone → Zone) : (s.modZone n z f).dramBad = s.dramBad := rfl
@[simp] theorem State.modZone_tabCopy (n z : Nat) (f : Zone → Zone) : (s.modZone n z f).tabCopy = s.tabCopy := rfl
@[simp] theorem State.modZone_screenTurn (n z : Nat) (f : Zone → Zone) : (s.modZone n z f).screenTurn = s.screenTurn := rfl
@[simp] theorem State.modZone_dmaTurn (n z : Nat) (f : Zone → Zone) : (s.modZone n z f).dmaTurn = s.dmaTurn := rfl
@[simp] theorem State.modZone_scrub (n z : Nat) (f : Zone → Zone) : (s.modZone n z f).scrub = s.scrub := rfl
@[simp] theorem State.modZone_dramSr (n z : Nat) (f : Zone → Zone) : (s.modZone n z f).dramSr = s.dramSr := rfl
@[simp] theorem State.modZone_flush (n z : Nat) (f : Zone → Zone) : (s.modZone n z f).flush = s.flush := rfl
@[simp] theorem State.modZone_goodTick (n z : Nat) (f : Zone → Zone) : (s.modZone n z f).goodTick = s.goodTick := rfl
@[simp] theorem State.modZone_scan (n z : Nat) (f : Zone → Zone) : (s.modZone n z f).scan = s.scan := rfl
@[simp] theorem State.modZone_pending (n z : Nat) (f : Zone → Zone) : (s.modZone n z f).pending = s.pending := rfl

/-! `State.modQp` changes nothing but `qps`. -/
@[simp] theorem State.modQp_part (q : Nat) (f : Qp → Qp) : (s.modQp q f).part = s.part := rfl
@[simp] theorem State.modQp_dt (q : Nat) (f : Qp → Qp) : (s.modQp q f).dt = s.dt := rfl
@[simp] theorem State.modQp_mode (q : Nat) (f : Qp → Qp) : (s.modQp q f).mode = s.mode := rfl
@[simp] theorem State.modQp_regs (q : Nat) (f : Qp → Qp) : (s.modQp q f).regs = s.regs := rfl
@[simp] theorem State.modQp_chip (q : Nat) (f : Qp → Qp) : (s.modQp q f).chip = s.chip := rfl
@[simp] theorem State.modQp_dram (q : Nat) (f : Qp → Qp) : (s.modQp q f).dram = s.dram := rfl
@[simp] theorem State.modQp_hostOut (q : Nat) (f : Qp → Qp) : (s.modQp q f).hostOut = s.hostOut := rfl
@[simp] theorem State.modQp_flash (q : Nat) (f : Qp → Qp) : (s.modQp q f).flash = s.flash := rfl
@[simp] theorem State.modQp_enc (q : Nat) (f : Qp → Qp) : (s.modQp q f).enc = s.enc := rfl
@[simp] theorem State.modQp_rows (q : Nat) (f : Qp → Qp) : (s.modQp q f).rows = s.rows := rfl
@[simp] theorem State.modQp_ports (q : Nat) (f : Qp → Qp) : (s.modQp q f).ports = s.ports := rfl
@[simp] theorem State.modQp_planes (q : Nat) (f : Qp → Qp) : (s.modQp q f).planes = s.planes := rfl
@[simp] theorem State.modQp_zones (q : Nat) (f : Qp → Qp) : (s.modQp q f).zones = s.zones := rfl
@[simp] theorem State.modQp_evFifo (q : Nat) (f : Qp → Qp) : (s.modQp q f).evFifo = s.evFifo := rfl
@[simp] theorem State.modQp_out (q : Nat) (f : Qp → Qp) : (s.modQp q f).out = s.out := rfl
@[simp] theorem State.modQp_tick (q : Nat) (f : Qp → Qp) : (s.modQp q f).tick = s.tick := rfl
@[simp] theorem State.modQp_vecs (q : Nat) (f : Qp → Qp) : (s.modQp q f).vecs = s.vecs := rfl
@[simp] theorem State.modQp_pw (q : Nat) (f : Qp → Qp) : (s.modQp q f).pw = s.pw := rfl
@[simp] theorem State.modQp_diag (q : Nat) (f : Qp → Qp) : (s.modQp q f).diag = s.diag := rfl
@[simp] theorem State.modQp_otp (q : Nat) (f : Qp → Qp) : (s.modQp q f).otp = s.otp := rfl
@[simp] theorem State.modQp_copy (q : Nat) (f : Qp → Qp) : (s.modQp q f).copy = s.copy := rfl
@[simp] theorem State.modQp_chain (q : Nat) (f : Qp → Qp) : (s.modQp q f).chain = s.chain := rfl
@[simp] theorem State.modQp_chans (q : Nat) (f : Qp → Qp) : (s.modQp q f).chans = s.chans := rfl
@[simp] theorem State.modQp_bist (q : Nat) (f : Qp → Qp) : (s.modQp q f).bist = s.bist := rfl
@[simp] theorem State.modQp_overDue (q : Nat) (f : Qp → Qp) : (s.modQp q f).overDue = s.overDue := rfl
@[simp] theorem State.modQp_linkUp (q : Nat) (f : Qp → Qp) : (s.modQp q f).linkUp = s.linkUp := rfl
@[simp] theorem State.modQp_pcie (q : Nat) (f : Qp → Qp) : (s.modQp q f).pcie = s.pcie := rfl
@[simp] theorem State.modQp_heads (q : Nat) (f : Qp → Qp) : (s.modQp q f).heads = s.heads := rfl
@[simp] theorem State.modQp_bankBad (q : Nat) (f : Qp → Qp) : (s.modQp q f).bankBad = s.bankBad := rfl
@[simp] theorem State.modQp_dramBad (q : Nat) (f : Qp → Qp) : (s.modQp q f).dramBad = s.dramBad := rfl
@[simp] theorem State.modQp_tabCopy (q : Nat) (f : Qp → Qp) : (s.modQp q f).tabCopy = s.tabCopy := rfl
@[simp] theorem State.modQp_screenTurn (q : Nat) (f : Qp → Qp) : (s.modQp q f).screenTurn = s.screenTurn := rfl
@[simp] theorem State.modQp_dmaTurn (q : Nat) (f : Qp → Qp) : (s.modQp q f).dmaTurn = s.dmaTurn := rfl
@[simp] theorem State.modQp_scrub (q : Nat) (f : Qp → Qp) : (s.modQp q f).scrub = s.scrub := rfl
@[simp] theorem State.modQp_dramSr (q : Nat) (f : Qp → Qp) : (s.modQp q f).dramSr = s.dramSr := rfl
@[simp] theorem State.modQp_flush (q : Nat) (f : Qp → Qp) : (s.modQp q f).flush = s.flush := rfl
@[simp] theorem State.modQp_goodTick (q : Nat) (f : Qp → Qp) : (s.modQp q f).goodTick = s.goodTick := rfl
@[simp] theorem State.modQp_scan (q : Nat) (f : Qp → Qp) : (s.modQp q f).scan = s.scan := rfl
@[simp] theorem State.modQp_pending (q : Nat) (f : Qp → Qp) : (s.modQp q f).pending = s.pending := rfl

/-! `State.modPw` changes nothing but `pw`. -/
@[simp] theorem State.modPw_part (f : Power → Power) : (s.modPw f).part = s.part := rfl
@[simp] theorem State.modPw_dt (f : Power → Power) : (s.modPw f).dt = s.dt := rfl
@[simp] theorem State.modPw_mode (f : Power → Power) : (s.modPw f).mode = s.mode := rfl
@[simp] theorem State.modPw_regs (f : Power → Power) : (s.modPw f).regs = s.regs := rfl
@[simp] theorem State.modPw_chip (f : Power → Power) : (s.modPw f).chip = s.chip := rfl
@[simp] theorem State.modPw_dram (f : Power → Power) : (s.modPw f).dram = s.dram := rfl
@[simp] theorem State.modPw_hostOut (f : Power → Power) : (s.modPw f).hostOut = s.hostOut := rfl
@[simp] theorem State.modPw_flash (f : Power → Power) : (s.modPw f).flash = s.flash := rfl
@[simp] theorem State.modPw_enc (f : Power → Power) : (s.modPw f).enc = s.enc := rfl
@[simp] theorem State.modPw_rows (f : Power → Power) : (s.modPw f).rows = s.rows := rfl
@[simp] theorem State.modPw_ports (f : Power → Power) : (s.modPw f).ports = s.ports := rfl
@[simp] theorem State.modPw_planes (f : Power → Power) : (s.modPw f).planes = s.planes := rfl
@[simp] theorem State.modPw_zones (f : Power → Power) : (s.modPw f).zones = s.zones := rfl
@[simp] theorem State.modPw_evFifo (f : Power → Power) : (s.modPw f).evFifo = s.evFifo := rfl
@[simp] theorem State.modPw_out (f : Power → Power) : (s.modPw f).out = s.out := rfl
@[simp] theorem State.modPw_tick (f : Power → Power) : (s.modPw f).tick = s.tick := rfl
@[simp] theorem State.modPw_qps (f : Power → Power) : (s.modPw f).qps = s.qps := rfl
@[simp] theorem State.modPw_vecs (f : Power → Power) : (s.modPw f).vecs = s.vecs := rfl
@[simp] theorem State.modPw_diag (f : Power → Power) : (s.modPw f).diag = s.diag := rfl
@[simp] theorem State.modPw_otp (f : Power → Power) : (s.modPw f).otp = s.otp := rfl
@[simp] theorem State.modPw_copy (f : Power → Power) : (s.modPw f).copy = s.copy := rfl
@[simp] theorem State.modPw_chain (f : Power → Power) : (s.modPw f).chain = s.chain := rfl
@[simp] theorem State.modPw_chans (f : Power → Power) : (s.modPw f).chans = s.chans := rfl
@[simp] theorem State.modPw_bist (f : Power → Power) : (s.modPw f).bist = s.bist := rfl
@[simp] theorem State.modPw_overDue (f : Power → Power) : (s.modPw f).overDue = s.overDue := rfl
@[simp] theorem State.modPw_linkUp (f : Power → Power) : (s.modPw f).linkUp = s.linkUp := rfl
@[simp] theorem State.modPw_pcie (f : Power → Power) : (s.modPw f).pcie = s.pcie := rfl
@[simp] theorem State.modPw_heads (f : Power → Power) : (s.modPw f).heads = s.heads := rfl
@[simp] theorem State.modPw_bankBad (f : Power → Power) : (s.modPw f).bankBad = s.bankBad := rfl
@[simp] theorem State.modPw_dramBad (f : Power → Power) : (s.modPw f).dramBad = s.dramBad := rfl
@[simp] theorem State.modPw_tabCopy (f : Power → Power) : (s.modPw f).tabCopy = s.tabCopy := rfl
@[simp] theorem State.modPw_screenTurn (f : Power → Power) : (s.modPw f).screenTurn = s.screenTurn := rfl
@[simp] theorem State.modPw_dmaTurn (f : Power → Power) : (s.modPw f).dmaTurn = s.dmaTurn := rfl
@[simp] theorem State.modPw_scrub (f : Power → Power) : (s.modPw f).scrub = s.scrub := rfl
@[simp] theorem State.modPw_dramSr (f : Power → Power) : (s.modPw f).dramSr = s.dramSr := rfl
@[simp] theorem State.modPw_flush (f : Power → Power) : (s.modPw f).flush = s.flush := rfl
@[simp] theorem State.modPw_goodTick (f : Power → Power) : (s.modPw f).goodTick = s.goodTick := rfl
@[simp] theorem State.modPw_scan (f : Power → Power) : (s.modPw f).scan = s.scan := rfl
@[simp] theorem State.modPw_pending (f : Power → Power) : (s.modPw f).pending = s.pending := rfl

/-! `State.modChain` changes nothing but `chain`. -/
@[simp] theorem State.modChain_part (f : Chain → Chain) : (s.modChain f).part = s.part := rfl
@[simp] theorem State.modChain_dt (f : Chain → Chain) : (s.modChain f).dt = s.dt := rfl
@[simp] theorem State.modChain_mode (f : Chain → Chain) : (s.modChain f).mode = s.mode := rfl
@[simp] theorem State.modChain_regs (f : Chain → Chain) : (s.modChain f).regs = s.regs := rfl
@[simp] theorem State.modChain_chip (f : Chain → Chain) : (s.modChain f).chip = s.chip := rfl
@[simp] theorem State.modChain_dram (f : Chain → Chain) : (s.modChain f).dram = s.dram := rfl
@[simp] theorem State.modChain_hostOut (f : Chain → Chain) : (s.modChain f).hostOut = s.hostOut := rfl
@[simp] theorem State.modChain_flash (f : Chain → Chain) : (s.modChain f).flash = s.flash := rfl
@[simp] theorem State.modChain_enc (f : Chain → Chain) : (s.modChain f).enc = s.enc := rfl
@[simp] theorem State.modChain_rows (f : Chain → Chain) : (s.modChain f).rows = s.rows := rfl
@[simp] theorem State.modChain_ports (f : Chain → Chain) : (s.modChain f).ports = s.ports := rfl
@[simp] theorem State.modChain_planes (f : Chain → Chain) : (s.modChain f).planes = s.planes := rfl
@[simp] theorem State.modChain_zones (f : Chain → Chain) : (s.modChain f).zones = s.zones := rfl
@[simp] theorem State.modChain_evFifo (f : Chain → Chain) : (s.modChain f).evFifo = s.evFifo := rfl
@[simp] theorem State.modChain_out (f : Chain → Chain) : (s.modChain f).out = s.out := rfl
@[simp] theorem State.modChain_tick (f : Chain → Chain) : (s.modChain f).tick = s.tick := rfl
@[simp] theorem State.modChain_qps (f : Chain → Chain) : (s.modChain f).qps = s.qps := rfl
@[simp] theorem State.modChain_vecs (f : Chain → Chain) : (s.modChain f).vecs = s.vecs := rfl
@[simp] theorem State.modChain_pw (f : Chain → Chain) : (s.modChain f).pw = s.pw := rfl
@[simp] theorem State.modChain_diag (f : Chain → Chain) : (s.modChain f).diag = s.diag := rfl
@[simp] theorem State.modChain_otp (f : Chain → Chain) : (s.modChain f).otp = s.otp := rfl
@[simp] theorem State.modChain_copy (f : Chain → Chain) : (s.modChain f).copy = s.copy := rfl
@[simp] theorem State.modChain_chans (f : Chain → Chain) : (s.modChain f).chans = s.chans := rfl
@[simp] theorem State.modChain_bist (f : Chain → Chain) : (s.modChain f).bist = s.bist := rfl
@[simp] theorem State.modChain_overDue (f : Chain → Chain) : (s.modChain f).overDue = s.overDue := rfl
@[simp] theorem State.modChain_linkUp (f : Chain → Chain) : (s.modChain f).linkUp = s.linkUp := rfl
@[simp] theorem State.modChain_pcie (f : Chain → Chain) : (s.modChain f).pcie = s.pcie := rfl
@[simp] theorem State.modChain_heads (f : Chain → Chain) : (s.modChain f).heads = s.heads := rfl
@[simp] theorem State.modChain_bankBad (f : Chain → Chain) : (s.modChain f).bankBad = s.bankBad := rfl
@[simp] theorem State.modChain_dramBad (f : Chain → Chain) : (s.modChain f).dramBad = s.dramBad := rfl
@[simp] theorem State.modChain_tabCopy (f : Chain → Chain) : (s.modChain f).tabCopy = s.tabCopy := rfl
@[simp] theorem State.modChain_screenTurn (f : Chain → Chain) : (s.modChain f).screenTurn = s.screenTurn := rfl
@[simp] theorem State.modChain_dmaTurn (f : Chain → Chain) : (s.modChain f).dmaTurn = s.dmaTurn := rfl
@[simp] theorem State.modChain_scrub (f : Chain → Chain) : (s.modChain f).scrub = s.scrub := rfl
@[simp] theorem State.modChain_dramSr (f : Chain → Chain) : (s.modChain f).dramSr = s.dramSr := rfl
@[simp] theorem State.modChain_flush (f : Chain → Chain) : (s.modChain f).flush = s.flush := rfl
@[simp] theorem State.modChain_goodTick (f : Chain → Chain) : (s.modChain f).goodTick = s.goodTick := rfl
@[simp] theorem State.modChain_scan (f : Chain → Chain) : (s.modChain f).scan = s.scan := rfl
@[simp] theorem State.modChain_pending (f : Chain → Chain) : (s.modChain f).pending = s.pending := rfl

/-! `State.emit` changes nothing but `out`. -/
@[simp] theorem State.emit_part (o : Output) : (s.emit o).part = s.part := rfl
@[simp] theorem State.emit_dt (o : Output) : (s.emit o).dt = s.dt := rfl
@[simp] theorem State.emit_mode (o : Output) : (s.emit o).mode = s.mode := rfl
@[simp] theorem State.emit_regs (o : Output) : (s.emit o).regs = s.regs := rfl
@[simp] theorem State.emit_chip (o : Output) : (s.emit o).chip = s.chip := rfl
@[simp] theorem State.emit_dram (o : Output) : (s.emit o).dram = s.dram := rfl
@[simp] theorem State.emit_hostOut (o : Output) : (s.emit o).hostOut = s.hostOut := rfl
@[simp] theorem State.emit_flash (o : Output) : (s.emit o).flash = s.flash := rfl
@[simp] theorem State.emit_enc (o : Output) : (s.emit o).enc = s.enc := rfl
@[simp] theorem State.emit_rows (o : Output) : (s.emit o).rows = s.rows := rfl
@[simp] theorem State.emit_ports (o : Output) : (s.emit o).ports = s.ports := rfl
@[simp] theorem State.emit_planes (o : Output) : (s.emit o).planes = s.planes := rfl
@[simp] theorem State.emit_zones (o : Output) : (s.emit o).zones = s.zones := rfl
@[simp] theorem State.emit_evFifo (o : Output) : (s.emit o).evFifo = s.evFifo := rfl
@[simp] theorem State.emit_tick (o : Output) : (s.emit o).tick = s.tick := rfl
@[simp] theorem State.emit_qps (o : Output) : (s.emit o).qps = s.qps := rfl
@[simp] theorem State.emit_vecs (o : Output) : (s.emit o).vecs = s.vecs := rfl
@[simp] theorem State.emit_pw (o : Output) : (s.emit o).pw = s.pw := rfl
@[simp] theorem State.emit_diag (o : Output) : (s.emit o).diag = s.diag := rfl
@[simp] theorem State.emit_otp (o : Output) : (s.emit o).otp = s.otp := rfl
@[simp] theorem State.emit_copy (o : Output) : (s.emit o).copy = s.copy := rfl
@[simp] theorem State.emit_chain (o : Output) : (s.emit o).chain = s.chain := rfl
@[simp] theorem State.emit_chans (o : Output) : (s.emit o).chans = s.chans := rfl
@[simp] theorem State.emit_bist (o : Output) : (s.emit o).bist = s.bist := rfl
@[simp] theorem State.emit_overDue (o : Output) : (s.emit o).overDue = s.overDue := rfl
@[simp] theorem State.emit_linkUp (o : Output) : (s.emit o).linkUp = s.linkUp := rfl
@[simp] theorem State.emit_pcie (o : Output) : (s.emit o).pcie = s.pcie := rfl
@[simp] theorem State.emit_heads (o : Output) : (s.emit o).heads = s.heads := rfl
@[simp] theorem State.emit_bankBad (o : Output) : (s.emit o).bankBad = s.bankBad := rfl
@[simp] theorem State.emit_dramBad (o : Output) : (s.emit o).dramBad = s.dramBad := rfl
@[simp] theorem State.emit_tabCopy (o : Output) : (s.emit o).tabCopy = s.tabCopy := rfl
@[simp] theorem State.emit_screenTurn (o : Output) : (s.emit o).screenTurn = s.screenTurn := rfl
@[simp] theorem State.emit_dmaTurn (o : Output) : (s.emit o).dmaTurn = s.dmaTurn := rfl
@[simp] theorem State.emit_scrub (o : Output) : (s.emit o).scrub = s.scrub := rfl
@[simp] theorem State.emit_dramSr (o : Output) : (s.emit o).dramSr = s.dramSr := rfl
@[simp] theorem State.emit_flush (o : Output) : (s.emit o).flush = s.flush := rfl
@[simp] theorem State.emit_goodTick (o : Output) : (s.emit o).goodTick = s.goodTick := rfl
@[simp] theorem State.emit_scan (o : Output) : (s.emit o).scan = s.scan := rfl
@[simp] theorem State.emit_pending (o : Output) : (s.emit o).pending = s.pending := rfl

/-! `State.chipWrite` changes nothing but `chip`, `bankBad`. -/
@[simp] theorem State.chipWrite_part (a : Nat) (bs : List Nat) : (s.chipWrite a bs).part = s.part := rfl
@[simp] theorem State.chipWrite_dt (a : Nat) (bs : List Nat) : (s.chipWrite a bs).dt = s.dt := rfl
@[simp] theorem State.chipWrite_mode (a : Nat) (bs : List Nat) : (s.chipWrite a bs).mode = s.mode := rfl
@[simp] theorem State.chipWrite_regs (a : Nat) (bs : List Nat) : (s.chipWrite a bs).regs = s.regs := rfl
@[simp] theorem State.chipWrite_dram (a : Nat) (bs : List Nat) : (s.chipWrite a bs).dram = s.dram := rfl
@[simp] theorem State.chipWrite_hostOut (a : Nat) (bs : List Nat) : (s.chipWrite a bs).hostOut = s.hostOut := rfl
@[simp] theorem State.chipWrite_flash (a : Nat) (bs : List Nat) : (s.chipWrite a bs).flash = s.flash := rfl
@[simp] theorem State.chipWrite_enc (a : Nat) (bs : List Nat) : (s.chipWrite a bs).enc = s.enc := rfl
@[simp] theorem State.chipWrite_rows (a : Nat) (bs : List Nat) : (s.chipWrite a bs).rows = s.rows := rfl
@[simp] theorem State.chipWrite_ports (a : Nat) (bs : List Nat) : (s.chipWrite a bs).ports = s.ports := rfl
@[simp] theorem State.chipWrite_planes (a : Nat) (bs : List Nat) : (s.chipWrite a bs).planes = s.planes := rfl
@[simp] theorem State.chipWrite_zones (a : Nat) (bs : List Nat) : (s.chipWrite a bs).zones = s.zones := rfl
@[simp] theorem State.chipWrite_evFifo (a : Nat) (bs : List Nat) : (s.chipWrite a bs).evFifo = s.evFifo := rfl
@[simp] theorem State.chipWrite_out (a : Nat) (bs : List Nat) : (s.chipWrite a bs).out = s.out := rfl
@[simp] theorem State.chipWrite_tick (a : Nat) (bs : List Nat) : (s.chipWrite a bs).tick = s.tick := rfl
@[simp] theorem State.chipWrite_qps (a : Nat) (bs : List Nat) : (s.chipWrite a bs).qps = s.qps := rfl
@[simp] theorem State.chipWrite_vecs (a : Nat) (bs : List Nat) : (s.chipWrite a bs).vecs = s.vecs := rfl
@[simp] theorem State.chipWrite_pw (a : Nat) (bs : List Nat) : (s.chipWrite a bs).pw = s.pw := rfl
@[simp] theorem State.chipWrite_diag (a : Nat) (bs : List Nat) : (s.chipWrite a bs).diag = s.diag := rfl
@[simp] theorem State.chipWrite_otp (a : Nat) (bs : List Nat) : (s.chipWrite a bs).otp = s.otp := rfl
@[simp] theorem State.chipWrite_copy (a : Nat) (bs : List Nat) : (s.chipWrite a bs).copy = s.copy := rfl
@[simp] theorem State.chipWrite_chain (a : Nat) (bs : List Nat) : (s.chipWrite a bs).chain = s.chain := rfl
@[simp] theorem State.chipWrite_chans (a : Nat) (bs : List Nat) : (s.chipWrite a bs).chans = s.chans := rfl
@[simp] theorem State.chipWrite_bist (a : Nat) (bs : List Nat) : (s.chipWrite a bs).bist = s.bist := rfl
@[simp] theorem State.chipWrite_overDue (a : Nat) (bs : List Nat) : (s.chipWrite a bs).overDue = s.overDue := rfl
@[simp] theorem State.chipWrite_linkUp (a : Nat) (bs : List Nat) : (s.chipWrite a bs).linkUp = s.linkUp := rfl
@[simp] theorem State.chipWrite_pcie (a : Nat) (bs : List Nat) : (s.chipWrite a bs).pcie = s.pcie := rfl
@[simp] theorem State.chipWrite_heads (a : Nat) (bs : List Nat) : (s.chipWrite a bs).heads = s.heads := rfl
@[simp] theorem State.chipWrite_dramBad (a : Nat) (bs : List Nat) : (s.chipWrite a bs).dramBad = s.dramBad := rfl
@[simp] theorem State.chipWrite_tabCopy (a : Nat) (bs : List Nat) : (s.chipWrite a bs).tabCopy = s.tabCopy := rfl
@[simp] theorem State.chipWrite_screenTurn (a : Nat) (bs : List Nat) : (s.chipWrite a bs).screenTurn = s.screenTurn := rfl
@[simp] theorem State.chipWrite_dmaTurn (a : Nat) (bs : List Nat) : (s.chipWrite a bs).dmaTurn = s.dmaTurn := rfl
@[simp] theorem State.chipWrite_scrub (a : Nat) (bs : List Nat) : (s.chipWrite a bs).scrub = s.scrub := rfl
@[simp] theorem State.chipWrite_dramSr (a : Nat) (bs : List Nat) : (s.chipWrite a bs).dramSr = s.dramSr := rfl
@[simp] theorem State.chipWrite_flush (a : Nat) (bs : List Nat) : (s.chipWrite a bs).flush = s.flush := rfl
@[simp] theorem State.chipWrite_goodTick (a : Nat) (bs : List Nat) : (s.chipWrite a bs).goodTick = s.goodTick := rfl
@[simp] theorem State.chipWrite_scan (a : Nat) (bs : List Nat) : (s.chipWrite a bs).scan = s.scan := rfl
@[simp] theorem State.chipWrite_pending (a : Nat) (bs : List Nat) : (s.chipWrite a bs).pending = s.pending := rfl

/-! `State.hostWrite` changes nothing but `hostOut`. -/
@[simp] theorem State.hostWrite_part (a : Nat) (bs : List Nat) : (s.hostWrite a bs).part = s.part := rfl
@[simp] theorem State.hostWrite_dt (a : Nat) (bs : List Nat) : (s.hostWrite a bs).dt = s.dt := rfl
@[simp] theorem State.hostWrite_mode (a : Nat) (bs : List Nat) : (s.hostWrite a bs).mode = s.mode := rfl
@[simp] theorem State.hostWrite_regs (a : Nat) (bs : List Nat) : (s.hostWrite a bs).regs = s.regs := rfl
@[simp] theorem State.hostWrite_chip (a : Nat) (bs : List Nat) : (s.hostWrite a bs).chip = s.chip := rfl
@[simp] theorem State.hostWrite_dram (a : Nat) (bs : List Nat) : (s.hostWrite a bs).dram = s.dram := rfl
@[simp] theorem State.hostWrite_flash (a : Nat) (bs : List Nat) : (s.hostWrite a bs).flash = s.flash := rfl
@[simp] theorem State.hostWrite_enc (a : Nat) (bs : List Nat) : (s.hostWrite a bs).enc = s.enc := rfl
@[simp] theorem State.hostWrite_rows (a : Nat) (bs : List Nat) : (s.hostWrite a bs).rows = s.rows := rfl
@[simp] theorem State.hostWrite_ports (a : Nat) (bs : List Nat) : (s.hostWrite a bs).ports = s.ports := rfl
@[simp] theorem State.hostWrite_planes (a : Nat) (bs : List Nat) : (s.hostWrite a bs).planes = s.planes := rfl
@[simp] theorem State.hostWrite_zones (a : Nat) (bs : List Nat) : (s.hostWrite a bs).zones = s.zones := rfl
@[simp] theorem State.hostWrite_evFifo (a : Nat) (bs : List Nat) : (s.hostWrite a bs).evFifo = s.evFifo := rfl
@[simp] theorem State.hostWrite_out (a : Nat) (bs : List Nat) : (s.hostWrite a bs).out = s.out := rfl
@[simp] theorem State.hostWrite_tick (a : Nat) (bs : List Nat) : (s.hostWrite a bs).tick = s.tick := rfl
@[simp] theorem State.hostWrite_qps (a : Nat) (bs : List Nat) : (s.hostWrite a bs).qps = s.qps := rfl
@[simp] theorem State.hostWrite_vecs (a : Nat) (bs : List Nat) : (s.hostWrite a bs).vecs = s.vecs := rfl
@[simp] theorem State.hostWrite_pw (a : Nat) (bs : List Nat) : (s.hostWrite a bs).pw = s.pw := rfl
@[simp] theorem State.hostWrite_diag (a : Nat) (bs : List Nat) : (s.hostWrite a bs).diag = s.diag := rfl
@[simp] theorem State.hostWrite_otp (a : Nat) (bs : List Nat) : (s.hostWrite a bs).otp = s.otp := rfl
@[simp] theorem State.hostWrite_copy (a : Nat) (bs : List Nat) : (s.hostWrite a bs).copy = s.copy := rfl
@[simp] theorem State.hostWrite_chain (a : Nat) (bs : List Nat) : (s.hostWrite a bs).chain = s.chain := rfl
@[simp] theorem State.hostWrite_chans (a : Nat) (bs : List Nat) : (s.hostWrite a bs).chans = s.chans := rfl
@[simp] theorem State.hostWrite_bist (a : Nat) (bs : List Nat) : (s.hostWrite a bs).bist = s.bist := rfl
@[simp] theorem State.hostWrite_overDue (a : Nat) (bs : List Nat) : (s.hostWrite a bs).overDue = s.overDue := rfl
@[simp] theorem State.hostWrite_linkUp (a : Nat) (bs : List Nat) : (s.hostWrite a bs).linkUp = s.linkUp := rfl
@[simp] theorem State.hostWrite_pcie (a : Nat) (bs : List Nat) : (s.hostWrite a bs).pcie = s.pcie := rfl
@[simp] theorem State.hostWrite_heads (a : Nat) (bs : List Nat) : (s.hostWrite a bs).heads = s.heads := rfl
@[simp] theorem State.hostWrite_bankBad (a : Nat) (bs : List Nat) : (s.hostWrite a bs).bankBad = s.bankBad := rfl
@[simp] theorem State.hostWrite_dramBad (a : Nat) (bs : List Nat) : (s.hostWrite a bs).dramBad = s.dramBad := rfl
@[simp] theorem State.hostWrite_tabCopy (a : Nat) (bs : List Nat) : (s.hostWrite a bs).tabCopy = s.tabCopy := rfl
@[simp] theorem State.hostWrite_screenTurn (a : Nat) (bs : List Nat) : (s.hostWrite a bs).screenTurn = s.screenTurn := rfl
@[simp] theorem State.hostWrite_dmaTurn (a : Nat) (bs : List Nat) : (s.hostWrite a bs).dmaTurn = s.dmaTurn := rfl
@[simp] theorem State.hostWrite_scrub (a : Nat) (bs : List Nat) : (s.hostWrite a bs).scrub = s.scrub := rfl
@[simp] theorem State.hostWrite_dramSr (a : Nat) (bs : List Nat) : (s.hostWrite a bs).dramSr = s.dramSr := rfl
@[simp] theorem State.hostWrite_flush (a : Nat) (bs : List Nat) : (s.hostWrite a bs).flush = s.flush := rfl
@[simp] theorem State.hostWrite_goodTick (a : Nat) (bs : List Nat) : (s.hostWrite a bs).goodTick = s.goodTick := rfl
@[simp] theorem State.hostWrite_scan (a : Nat) (bs : List Nat) : (s.hostWrite a bs).scan = s.scan := rfl
@[simp] theorem State.hostWrite_pending (a : Nat) (bs : List Nat) : (s.hostWrite a bs).pending = s.pending := rfl

/-! `State.advTo` changes nothing but `dt`. -/
@[simp] theorem State.advTo_part (u : Nat) : (s.advTo u).part = s.part := rfl
@[simp] theorem State.advTo_mode (u : Nat) : (s.advTo u).mode = s.mode := rfl
@[simp] theorem State.advTo_regs (u : Nat) : (s.advTo u).regs = s.regs := rfl
@[simp] theorem State.advTo_chip (u : Nat) : (s.advTo u).chip = s.chip := rfl
@[simp] theorem State.advTo_dram (u : Nat) : (s.advTo u).dram = s.dram := rfl
@[simp] theorem State.advTo_hostOut (u : Nat) : (s.advTo u).hostOut = s.hostOut := rfl
@[simp] theorem State.advTo_flash (u : Nat) : (s.advTo u).flash = s.flash := rfl
@[simp] theorem State.advTo_enc (u : Nat) : (s.advTo u).enc = s.enc := rfl
@[simp] theorem State.advTo_rows (u : Nat) : (s.advTo u).rows = s.rows := rfl
@[simp] theorem State.advTo_ports (u : Nat) : (s.advTo u).ports = s.ports := rfl
@[simp] theorem State.advTo_planes (u : Nat) : (s.advTo u).planes = s.planes := rfl
@[simp] theorem State.advTo_zones (u : Nat) : (s.advTo u).zones = s.zones := rfl
@[simp] theorem State.advTo_evFifo (u : Nat) : (s.advTo u).evFifo = s.evFifo := rfl
@[simp] theorem State.advTo_out (u : Nat) : (s.advTo u).out = s.out := rfl
@[simp] theorem State.advTo_tick (u : Nat) : (s.advTo u).tick = s.tick := rfl
@[simp] theorem State.advTo_qps (u : Nat) : (s.advTo u).qps = s.qps := rfl
@[simp] theorem State.advTo_vecs (u : Nat) : (s.advTo u).vecs = s.vecs := rfl
@[simp] theorem State.advTo_pw (u : Nat) : (s.advTo u).pw = s.pw := rfl
@[simp] theorem State.advTo_diag (u : Nat) : (s.advTo u).diag = s.diag := rfl
@[simp] theorem State.advTo_otp (u : Nat) : (s.advTo u).otp = s.otp := rfl
@[simp] theorem State.advTo_copy (u : Nat) : (s.advTo u).copy = s.copy := rfl
@[simp] theorem State.advTo_chain (u : Nat) : (s.advTo u).chain = s.chain := rfl
@[simp] theorem State.advTo_chans (u : Nat) : (s.advTo u).chans = s.chans := rfl
@[simp] theorem State.advTo_bist (u : Nat) : (s.advTo u).bist = s.bist := rfl
@[simp] theorem State.advTo_overDue (u : Nat) : (s.advTo u).overDue = s.overDue := rfl
@[simp] theorem State.advTo_linkUp (u : Nat) : (s.advTo u).linkUp = s.linkUp := rfl
@[simp] theorem State.advTo_pcie (u : Nat) : (s.advTo u).pcie = s.pcie := rfl
@[simp] theorem State.advTo_heads (u : Nat) : (s.advTo u).heads = s.heads := rfl
@[simp] theorem State.advTo_bankBad (u : Nat) : (s.advTo u).bankBad = s.bankBad := rfl
@[simp] theorem State.advTo_dramBad (u : Nat) : (s.advTo u).dramBad = s.dramBad := rfl
@[simp] theorem State.advTo_tabCopy (u : Nat) : (s.advTo u).tabCopy = s.tabCopy := rfl
@[simp] theorem State.advTo_screenTurn (u : Nat) : (s.advTo u).screenTurn = s.screenTurn := rfl
@[simp] theorem State.advTo_dmaTurn (u : Nat) : (s.advTo u).dmaTurn = s.dmaTurn := rfl
@[simp] theorem State.advTo_scrub (u : Nat) : (s.advTo u).scrub = s.scrub := rfl
@[simp] theorem State.advTo_dramSr (u : Nat) : (s.advTo u).dramSr = s.dramSr := rfl
@[simp] theorem State.advTo_flush (u : Nat) : (s.advTo u).flush = s.flush := rfl
@[simp] theorem State.advTo_goodTick (u : Nat) : (s.advTo u).goodTick = s.goodTick := rfl
@[simp] theorem State.advTo_scan (u : Nat) : (s.advTo u).scan = s.scan := rfl
@[simp] theorem State.advTo_pending (u : Nat) : (s.advTo u).pending = s.pending := rfl

/-! `State.countUnless` changes nothing but `blt`. -/
@[simp] theorem State.countUnless_part (inj : Bool) (x k : Nat) : (s.countUnless inj x k).part = s.part := rfl
@[simp] theorem State.countUnless_dt (inj : Bool) (x k : Nat) : (s.countUnless inj x k).dt = s.dt := rfl
@[simp] theorem State.countUnless_mode (inj : Bool) (x k : Nat) : (s.countUnless inj x k).mode = s.mode := rfl
@[simp] theorem State.countUnless_regs (inj : Bool) (x k : Nat) : (s.countUnless inj x k).regs = s.regs := rfl
@[simp] theorem State.countUnless_chip (inj : Bool) (x k : Nat) : (s.countUnless inj x k).chip = s.chip := rfl
@[simp] theorem State.countUnless_dram (inj : Bool) (x k : Nat) : (s.countUnless inj x k).dram = s.dram := rfl
@[simp] theorem State.countUnless_hostOut (inj : Bool) (x k : Nat) : (s.countUnless inj x k).hostOut = s.hostOut := rfl
@[simp] theorem State.countUnless_flash (inj : Bool) (x k : Nat) : (s.countUnless inj x k).flash = s.flash := rfl
@[simp] theorem State.countUnless_enc (inj : Bool) (x k : Nat) : (s.countUnless inj x k).enc = s.enc := rfl
@[simp] theorem State.countUnless_rows (inj : Bool) (x k : Nat) : (s.countUnless inj x k).rows = s.rows := rfl
@[simp] theorem State.countUnless_ports (inj : Bool) (x k : Nat) : (s.countUnless inj x k).ports = s.ports := rfl
@[simp] theorem State.countUnless_planes (inj : Bool) (x k : Nat) : (s.countUnless inj x k).planes = s.planes := rfl
@[simp] theorem State.countUnless_zones (inj : Bool) (x k : Nat) : (s.countUnless inj x k).zones = s.zones := rfl
@[simp] theorem State.countUnless_evFifo (inj : Bool) (x k : Nat) : (s.countUnless inj x k).evFifo = s.evFifo := rfl
@[simp] theorem State.countUnless_out (inj : Bool) (x k : Nat) : (s.countUnless inj x k).out = s.out := rfl
@[simp] theorem State.countUnless_tick (inj : Bool) (x k : Nat) : (s.countUnless inj x k).tick = s.tick := rfl
@[simp] theorem State.countUnless_qps (inj : Bool) (x k : Nat) : (s.countUnless inj x k).qps = s.qps := rfl
@[simp] theorem State.countUnless_vecs (inj : Bool) (x k : Nat) : (s.countUnless inj x k).vecs = s.vecs := rfl
@[simp] theorem State.countUnless_pw (inj : Bool) (x k : Nat) : (s.countUnless inj x k).pw = s.pw := rfl
@[simp] theorem State.countUnless_diag (inj : Bool) (x k : Nat) : (s.countUnless inj x k).diag = s.diag := rfl
@[simp] theorem State.countUnless_otp (inj : Bool) (x k : Nat) : (s.countUnless inj x k).otp = s.otp := rfl
@[simp] theorem State.countUnless_copy (inj : Bool) (x k : Nat) : (s.countUnless inj x k).copy = s.copy := rfl
@[simp] theorem State.countUnless_chain (inj : Bool) (x k : Nat) : (s.countUnless inj x k).chain = s.chain := rfl
@[simp] theorem State.countUnless_chans (inj : Bool) (x k : Nat) : (s.countUnless inj x k).chans = s.chans := rfl
@[simp] theorem State.countUnless_bist (inj : Bool) (x k : Nat) : (s.countUnless inj x k).bist = s.bist := rfl
@[simp] theorem State.countUnless_overDue (inj : Bool) (x k : Nat) : (s.countUnless inj x k).overDue = s.overDue := rfl
@[simp] theorem State.countUnless_linkUp (inj : Bool) (x k : Nat) : (s.countUnless inj x k).linkUp = s.linkUp := rfl
@[simp] theorem State.countUnless_pcie (inj : Bool) (x k : Nat) : (s.countUnless inj x k).pcie = s.pcie := rfl
@[simp] theorem State.countUnless_heads (inj : Bool) (x k : Nat) : (s.countUnless inj x k).heads = s.heads := rfl
@[simp] theorem State.countUnless_bankBad (inj : Bool) (x k : Nat) : (s.countUnless inj x k).bankBad = s.bankBad := rfl
@[simp] theorem State.countUnless_dramBad (inj : Bool) (x k : Nat) : (s.countUnless inj x k).dramBad = s.dramBad := rfl
@[simp] theorem State.countUnless_tabCopy (inj : Bool) (x k : Nat) : (s.countUnless inj x k).tabCopy = s.tabCopy := rfl
@[simp] theorem State.countUnless_screenTurn (inj : Bool) (x k : Nat) : (s.countUnless inj x k).screenTurn = s.screenTurn := rfl
@[simp] theorem State.countUnless_dmaTurn (inj : Bool) (x k : Nat) : (s.countUnless inj x k).dmaTurn = s.dmaTurn := rfl
@[simp] theorem State.countUnless_scrub (inj : Bool) (x k : Nat) : (s.countUnless inj x k).scrub = s.scrub := rfl
@[simp] theorem State.countUnless_dramSr (inj : Bool) (x k : Nat) : (s.countUnless inj x k).dramSr = s.dramSr := rfl
@[simp] theorem State.countUnless_flush (inj : Bool) (x k : Nat) : (s.countUnless inj x k).flush = s.flush := rfl
@[simp] theorem State.countUnless_goodTick (inj : Bool) (x k : Nat) : (s.countUnless inj x k).goodTick = s.goodTick := rfl
@[simp] theorem State.countUnless_scan (inj : Bool) (x k : Nat) : (s.countUnless inj x k).scan = s.scan := rfl
@[simp] theorem State.countUnless_pending (inj : Bool) (x k : Nat) : (s.countUnless inj x k).pending = s.pending := rfl

/-! `State.count` changes nothing but `blt`. -/
@[simp] theorem State.count_part (x k : Nat) : (s.count x k).part = s.part := rfl
@[simp] theorem State.count_dt (x k : Nat) : (s.count x k).dt = s.dt := rfl
@[simp] theorem State.count_mode (x k : Nat) : (s.count x k).mode = s.mode := rfl
@[simp] theorem State.count_regs (x k : Nat) : (s.count x k).regs = s.regs := rfl
@[simp] theorem State.count_chip (x k : Nat) : (s.count x k).chip = s.chip := rfl
@[simp] theorem State.count_dram (x k : Nat) : (s.count x k).dram = s.dram := rfl
@[simp] theorem State.count_hostOut (x k : Nat) : (s.count x k).hostOut = s.hostOut := rfl
@[simp] theorem State.count_flash (x k : Nat) : (s.count x k).flash = s.flash := rfl
@[simp] theorem State.count_enc (x k : Nat) : (s.count x k).enc = s.enc := rfl
@[simp] theorem State.count_rows (x k : Nat) : (s.count x k).rows = s.rows := rfl
@[simp] theorem State.count_ports (x k : Nat) : (s.count x k).ports = s.ports := rfl
@[simp] theorem State.count_planes (x k : Nat) : (s.count x k).planes = s.planes := rfl
@[simp] theorem State.count_zones (x k : Nat) : (s.count x k).zones = s.zones := rfl
@[simp] theorem State.count_evFifo (x k : Nat) : (s.count x k).evFifo = s.evFifo := rfl
@[simp] theorem State.count_out (x k : Nat) : (s.count x k).out = s.out := rfl
@[simp] theorem State.count_tick (x k : Nat) : (s.count x k).tick = s.tick := rfl
@[simp] theorem State.count_qps (x k : Nat) : (s.count x k).qps = s.qps := rfl
@[simp] theorem State.count_vecs (x k : Nat) : (s.count x k).vecs = s.vecs := rfl
@[simp] theorem State.count_pw (x k : Nat) : (s.count x k).pw = s.pw := rfl
@[simp] theorem State.count_diag (x k : Nat) : (s.count x k).diag = s.diag := rfl
@[simp] theorem State.count_otp (x k : Nat) : (s.count x k).otp = s.otp := rfl
@[simp] theorem State.count_copy (x k : Nat) : (s.count x k).copy = s.copy := rfl
@[simp] theorem State.count_chain (x k : Nat) : (s.count x k).chain = s.chain := rfl
@[simp] theorem State.count_chans (x k : Nat) : (s.count x k).chans = s.chans := rfl
@[simp] theorem State.count_bist (x k : Nat) : (s.count x k).bist = s.bist := rfl
@[simp] theorem State.count_overDue (x k : Nat) : (s.count x k).overDue = s.overDue := rfl
@[simp] theorem State.count_linkUp (x k : Nat) : (s.count x k).linkUp = s.linkUp := rfl
@[simp] theorem State.count_pcie (x k : Nat) : (s.count x k).pcie = s.pcie := rfl
@[simp] theorem State.count_heads (x k : Nat) : (s.count x k).heads = s.heads := rfl
@[simp] theorem State.count_bankBad (x k : Nat) : (s.count x k).bankBad = s.bankBad := rfl
@[simp] theorem State.count_dramBad (x k : Nat) : (s.count x k).dramBad = s.dramBad := rfl
@[simp] theorem State.count_tabCopy (x k : Nat) : (s.count x k).tabCopy = s.tabCopy := rfl
@[simp] theorem State.count_screenTurn (x k : Nat) : (s.count x k).screenTurn = s.screenTurn := rfl
@[simp] theorem State.count_dmaTurn (x k : Nat) : (s.count x k).dmaTurn = s.dmaTurn := rfl
@[simp] theorem State.count_scrub (x k : Nat) : (s.count x k).scrub = s.scrub := rfl
@[simp] theorem State.count_dramSr (x k : Nat) : (s.count x k).dramSr = s.dramSr := rfl
@[simp] theorem State.count_flush (x k : Nat) : (s.count x k).flush = s.flush := rfl
@[simp] theorem State.count_goodTick (x k : Nat) : (s.count x k).goodTick = s.goodTick := rfl
@[simp] theorem State.count_scan (x k : Nat) : (s.count x k).scan = s.scan := rfl
@[simp] theorem State.count_pending (x k : Nat) : (s.count x k).pending = s.pending := rfl

/-! `State.raiseCount` changes nothing but `evFifo`, `blt`, `freeCtr`. -/
@[simp] theorem State.raiseCount_part (co o x : Nat) : (s.raiseCount co o x).part = s.part := rfl
@[simp] theorem State.raiseCount_dt (co o x : Nat) : (s.raiseCount co o x).dt = s.dt := rfl
@[simp] theorem State.raiseCount_mode (co o x : Nat) : (s.raiseCount co o x).mode = s.mode := rfl
@[simp] theorem State.raiseCount_regs (co o x : Nat) : (s.raiseCount co o x).regs = s.regs := rfl
@[simp] theorem State.raiseCount_chip (co o x : Nat) : (s.raiseCount co o x).chip = s.chip := rfl
@[simp] theorem State.raiseCount_dram (co o x : Nat) : (s.raiseCount co o x).dram = s.dram := rfl
@[simp] theorem State.raiseCount_hostOut (co o x : Nat) : (s.raiseCount co o x).hostOut = s.hostOut := rfl
@[simp] theorem State.raiseCount_flash (co o x : Nat) : (s.raiseCount co o x).flash = s.flash := rfl
@[simp] theorem State.raiseCount_enc (co o x : Nat) : (s.raiseCount co o x).enc = s.enc := rfl
@[simp] theorem State.raiseCount_rows (co o x : Nat) : (s.raiseCount co o x).rows = s.rows := rfl
@[simp] theorem State.raiseCount_ports (co o x : Nat) : (s.raiseCount co o x).ports = s.ports := rfl
@[simp] theorem State.raiseCount_planes (co o x : Nat) : (s.raiseCount co o x).planes = s.planes := rfl
@[simp] theorem State.raiseCount_zones (co o x : Nat) : (s.raiseCount co o x).zones = s.zones := rfl
@[simp] theorem State.raiseCount_out (co o x : Nat) : (s.raiseCount co o x).out = s.out := rfl
@[simp] theorem State.raiseCount_tick (co o x : Nat) : (s.raiseCount co o x).tick = s.tick := rfl
@[simp] theorem State.raiseCount_qps (co o x : Nat) : (s.raiseCount co o x).qps = s.qps := rfl
@[simp] theorem State.raiseCount_vecs (co o x : Nat) : (s.raiseCount co o x).vecs = s.vecs := rfl
@[simp] theorem State.raiseCount_pw (co o x : Nat) : (s.raiseCount co o x).pw = s.pw := rfl
@[simp] theorem State.raiseCount_diag (co o x : Nat) : (s.raiseCount co o x).diag = s.diag := rfl
@[simp] theorem State.raiseCount_otp (co o x : Nat) : (s.raiseCount co o x).otp = s.otp := rfl
@[simp] theorem State.raiseCount_copy (co o x : Nat) : (s.raiseCount co o x).copy = s.copy := rfl
@[simp] theorem State.raiseCount_chain (co o x : Nat) : (s.raiseCount co o x).chain = s.chain := rfl
@[simp] theorem State.raiseCount_chans (co o x : Nat) : (s.raiseCount co o x).chans = s.chans := rfl
@[simp] theorem State.raiseCount_bist (co o x : Nat) : (s.raiseCount co o x).bist = s.bist := rfl
@[simp] theorem State.raiseCount_overDue (co o x : Nat) : (s.raiseCount co o x).overDue = s.overDue := rfl
@[simp] theorem State.raiseCount_linkUp (co o x : Nat) : (s.raiseCount co o x).linkUp = s.linkUp := rfl
@[simp] theorem State.raiseCount_pcie (co o x : Nat) : (s.raiseCount co o x).pcie = s.pcie := rfl
@[simp] theorem State.raiseCount_heads (co o x : Nat) : (s.raiseCount co o x).heads = s.heads := rfl
@[simp] theorem State.raiseCount_bankBad (co o x : Nat) : (s.raiseCount co o x).bankBad = s.bankBad := rfl
@[simp] theorem State.raiseCount_dramBad (co o x : Nat) : (s.raiseCount co o x).dramBad = s.dramBad := rfl
@[simp] theorem State.raiseCount_tabCopy (co o x : Nat) : (s.raiseCount co o x).tabCopy = s.tabCopy := rfl
@[simp] theorem State.raiseCount_screenTurn (co o x : Nat) : (s.raiseCount co o x).screenTurn = s.screenTurn := rfl
@[simp] theorem State.raiseCount_dmaTurn (co o x : Nat) : (s.raiseCount co o x).dmaTurn = s.dmaTurn := rfl
@[simp] theorem State.raiseCount_scrub (co o x : Nat) : (s.raiseCount co o x).scrub = s.scrub := rfl
@[simp] theorem State.raiseCount_dramSr (co o x : Nat) : (s.raiseCount co o x).dramSr = s.dramSr := rfl
@[simp] theorem State.raiseCount_flush (co o x : Nat) : (s.raiseCount co o x).flush = s.flush := rfl
@[simp] theorem State.raiseCount_goodTick (co o x : Nat) : (s.raiseCount co o x).goodTick = s.goodTick := rfl
@[simp] theorem State.raiseCount_scan (co o x : Nat) : (s.raiseCount co o x).scan = s.scan := rfl
@[simp] theorem State.raiseCount_pending (co o x : Nat) : (s.raiseCount co o x).pending = s.pending := rfl

/-! `State.raise` changes nothing but `evFifo`, `blt`, `freeCtr`. -/
@[simp] theorem State.raise_part (co o : Nat) : (s.raise co o).part = s.part := rfl
@[simp] theorem State.raise_dt (co o : Nat) : (s.raise co o).dt = s.dt := rfl
@[simp] theorem State.raise_mode (co o : Nat) : (s.raise co o).mode = s.mode := rfl
@[simp] theorem State.raise_regs (co o : Nat) : (s.raise co o).regs = s.regs := rfl
@[simp] theorem State.raise_chip (co o : Nat) : (s.raise co o).chip = s.chip := rfl
@[simp] theorem State.raise_dram (co o : Nat) : (s.raise co o).dram = s.dram := rfl
@[simp] theorem State.raise_hostOut (co o : Nat) : (s.raise co o).hostOut = s.hostOut := rfl
@[simp] theorem State.raise_flash (co o : Nat) : (s.raise co o).flash = s.flash := rfl
@[simp] theorem State.raise_enc (co o : Nat) : (s.raise co o).enc = s.enc := rfl
@[simp] theorem State.raise_rows (co o : Nat) : (s.raise co o).rows = s.rows := rfl
@[simp] theorem State.raise_ports (co o : Nat) : (s.raise co o).ports = s.ports := rfl
@[simp] theorem State.raise_planes (co o : Nat) : (s.raise co o).planes = s.planes := rfl
@[simp] theorem State.raise_zones (co o : Nat) : (s.raise co o).zones = s.zones := rfl
@[simp] theorem State.raise_out (co o : Nat) : (s.raise co o).out = s.out := rfl
@[simp] theorem State.raise_tick (co o : Nat) : (s.raise co o).tick = s.tick := rfl
@[simp] theorem State.raise_qps (co o : Nat) : (s.raise co o).qps = s.qps := rfl
@[simp] theorem State.raise_vecs (co o : Nat) : (s.raise co o).vecs = s.vecs := rfl
@[simp] theorem State.raise_pw (co o : Nat) : (s.raise co o).pw = s.pw := rfl
@[simp] theorem State.raise_diag (co o : Nat) : (s.raise co o).diag = s.diag := rfl
@[simp] theorem State.raise_otp (co o : Nat) : (s.raise co o).otp = s.otp := rfl
@[simp] theorem State.raise_copy (co o : Nat) : (s.raise co o).copy = s.copy := rfl
@[simp] theorem State.raise_chain (co o : Nat) : (s.raise co o).chain = s.chain := rfl
@[simp] theorem State.raise_chans (co o : Nat) : (s.raise co o).chans = s.chans := rfl
@[simp] theorem State.raise_bist (co o : Nat) : (s.raise co o).bist = s.bist := rfl
@[simp] theorem State.raise_overDue (co o : Nat) : (s.raise co o).overDue = s.overDue := rfl
@[simp] theorem State.raise_linkUp (co o : Nat) : (s.raise co o).linkUp = s.linkUp := rfl
@[simp] theorem State.raise_pcie (co o : Nat) : (s.raise co o).pcie = s.pcie := rfl
@[simp] theorem State.raise_heads (co o : Nat) : (s.raise co o).heads = s.heads := rfl
@[simp] theorem State.raise_bankBad (co o : Nat) : (s.raise co o).bankBad = s.bankBad := rfl
@[simp] theorem State.raise_dramBad (co o : Nat) : (s.raise co o).dramBad = s.dramBad := rfl
@[simp] theorem State.raise_tabCopy (co o : Nat) : (s.raise co o).tabCopy = s.tabCopy := rfl
@[simp] theorem State.raise_screenTurn (co o : Nat) : (s.raise co o).screenTurn = s.screenTurn := rfl
@[simp] theorem State.raise_dmaTurn (co o : Nat) : (s.raise co o).dmaTurn = s.dmaTurn := rfl
@[simp] theorem State.raise_scrub (co o : Nat) : (s.raise co o).scrub = s.scrub := rfl
@[simp] theorem State.raise_dramSr (co o : Nat) : (s.raise co o).dramSr = s.dramSr := rfl
@[simp] theorem State.raise_flush (co o : Nat) : (s.raise co o).flush = s.flush := rfl
@[simp] theorem State.raise_goodTick (co o : Nat) : (s.raise co o).goodTick = s.goodTick := rfl
@[simp] theorem State.raise_scan (co o : Nat) : (s.raise co o).scan = s.scan := rfl
@[simp] theorem State.raise_pending (co o : Nat) : (s.raise co o).pending = s.pending := rfl

/-! `State.seal` keeps the effect of a command but for what no command reaches. -/
@[simp] theorem State.seal_part (t : State) : (s.seal t).part = s.part := rfl
@[simp] theorem State.seal_dt (t : State) : (s.seal t).dt = t.dt := rfl
@[simp] theorem State.seal_mode (t : State) : (s.seal t).mode = t.mode := rfl
@[simp] theorem State.seal_regs (t : State) : (s.seal t).regs = t.regs := rfl
@[simp] theorem State.seal_chip (t : State) : (s.seal t).chip = t.chip := rfl
@[simp] theorem State.seal_dram (t : State) : (s.seal t).dram = t.dram := rfl
@[simp] theorem State.seal_hostOut (t : State) : (s.seal t).hostOut = t.hostOut := rfl
@[simp] theorem State.seal_flash (t : State) : (s.seal t).flash = s.flash := rfl
@[simp] theorem State.seal_enc (t : State) : (s.seal t).enc = t.enc := rfl
@[simp] theorem State.seal_rows (t : State) : (s.seal t).rows = t.rows := rfl
@[simp] theorem State.seal_ports (t : State) : (s.seal t).ports = t.ports := rfl
@[simp] theorem State.seal_planes (t : State) : (s.seal t).planes = t.planes := rfl
@[simp] theorem State.seal_zones (t : State) : (s.seal t).zones = t.zones := rfl
@[simp] theorem State.seal_evFifo (t : State) : (s.seal t).evFifo = t.evFifo := rfl
@[simp] theorem State.seal_out (t : State) : (s.seal t).out = t.out := rfl
@[simp] theorem State.seal_tick (t : State) : (s.seal t).tick = t.tick := rfl
@[simp] theorem State.seal_qps (t : State) : (s.seal t).qps = t.qps := rfl
@[simp] theorem State.seal_vecs (t : State) : (s.seal t).vecs = t.vecs := rfl
@[simp] theorem State.seal_pw (t : State) : (s.seal t).pw = t.pw := rfl
@[simp] theorem State.seal_diag (t : State) : (s.seal t).diag = t.diag := rfl
@[simp] theorem State.seal_copy (t : State) : (s.seal t).copy = t.copy := rfl
@[simp] theorem State.seal_chain (t : State) : (s.seal t).chain = t.chain := rfl
@[simp] theorem State.seal_chans (t : State) : (s.seal t).chans = t.chans := rfl
@[simp] theorem State.seal_bist (t : State) : (s.seal t).bist = t.bist := rfl
@[simp] theorem State.seal_overDue (t : State) : (s.seal t).overDue = t.overDue := rfl
@[simp] theorem State.seal_linkUp (t : State) : (s.seal t).linkUp = t.linkUp := rfl
@[simp] theorem State.seal_pcie (t : State) : (s.seal t).pcie = t.pcie := rfl
@[simp] theorem State.seal_heads (t : State) : (s.seal t).heads = t.heads := rfl
@[simp] theorem State.seal_bankBad (t : State) : (s.seal t).bankBad = t.bankBad := rfl
@[simp] theorem State.seal_dramBad (t : State) : (s.seal t).dramBad = t.dramBad := rfl
@[simp] theorem State.seal_tabCopy (t : State) : (s.seal t).tabCopy = t.tabCopy := rfl
@[simp] theorem State.seal_screenTurn (t : State) : (s.seal t).screenTurn = t.screenTurn := rfl
@[simp] theorem State.seal_dmaTurn (t : State) : (s.seal t).dmaTurn = t.dmaTurn := rfl
@[simp] theorem State.seal_scrub (t : State) : (s.seal t).scrub = t.scrub := rfl
@[simp] theorem State.seal_dramSr (t : State) : (s.seal t).dramSr = t.dramSr := rfl
@[simp] theorem State.seal_flush (t : State) : (s.seal t).flush = t.flush := rfl
@[simp] theorem State.seal_goodTick (t : State) : (s.seal t).goodTick = t.goodTick := rfl
@[simp] theorem State.seal_scan (t : State) : (s.seal t).scan = t.scan := rfl
@[simp] theorem State.seal_pending (t : State) : (s.seal t).pending = s.pending := rfl
@[simp] theorem State.seal_otp_raw (t : State) : (s.seal t).otp.raw = s.otp.raw := rfl
@[simp] theorem State.seal_getN (t : State) (a : Nat) : (s.seal t).getN a = t.getN a := rfl
@[simp] theorem State.seal_fld (t : State) (a : Nat) (f : Fld) : (s.seal t).fld a f = t.fld a f := rfl
@[simp] theorem State.seal_bit (t : State) (a : Nat) (f : Fld) : (s.seal t).bit a f = t.bit a f := rfl
@[simp] theorem State.seal_encAt (t : State) (k : Nat) : (s.seal t).encAt k = t.encAt k := rfl
@[simp] theorem State.seal_rowAt (t : State) (i : Nat) : (s.seal t).rowAt i = t.rowAt i := rfl
@[simp] theorem State.seal_portAt (t : State) (n : Nat) : (s.seal t).portAt n = t.portAt n := rfl
@[simp] theorem State.seal_planeAt (t : State) (p : Nat) : (s.seal t).planeAt p = t.planeAt p := rfl
@[simp] theorem State.seal_chanAt (t : State) (c : Nat) : (s.seal t).chanAt c = t.chanAt c := rfl
@[simp] theorem State.seal_qpAt (t : State) (q : Nat) : (s.seal t).qpAt q = t.qpAt q := rfl
@[simp] theorem State.seal_stage (t : State)  : (s.seal t).stage  = t.stage  := rfl
@[simp] theorem State.seal_now (t : State)  : (s.seal t).now  = t.now  := rfl
@[simp] theorem State.seal_get (t : State) (a : Nat) : (s.seal t).get a = t.get a := rfl
@[simp] theorem State.seal_fldS (t : State) (a : Nat) (f : Fld) : (s.seal t).fldS a f = t.fldS a f := rfl
@[simp] theorem State.seal_zoneAt (t : State) (n z : Nat) : (s.seal t).zoneAt n z = t.zoneAt n z := rfl
@[simp] theorem State.seal_vecAt (t : State) (v : Nat) : (s.seal t).vecAt v = t.vecAt v := rfl
@[simp] theorem State.seal_slotAt (t : State) (j : Nat) : (s.seal t).slotAt j = t.slotAt j := rfl

/-! What an accessor of one part of the state reads after an update of another. -/
@[simp] theorem State.set_encAt (a : Nat) (v : BitVec 32) (j : Nat) : (s.set a v).encAt j = s.encAt j := rfl
@[simp] theorem State.set_rowAt (a : Nat) (v : BitVec 32) (j : Nat) : (s.set a v).rowAt j = s.rowAt j := rfl
@[simp] theorem State.set_portAt (a : Nat) (v : BitVec 32) (j : Nat) : (s.set a v).portAt j = s.portAt j := rfl
@[simp] theorem State.set_planeAt (a : Nat) (v : BitVec 32) (j : Nat) : (s.set a v).planeAt j = s.planeAt j := rfl
@[simp] theorem State.set_chanAt (a : Nat) (v : BitVec 32) (j : Nat) : (s.set a v).chanAt j = s.chanAt j := rfl
@[simp] theorem State.set_zoneAt (a : Nat) (v : BitVec 32) (j y : Nat) : (s.set a v).zoneAt j y = s.zoneAt j y := rfl
@[simp] theorem State.set_qpAt (a : Nat) (v : BitVec 32) (j : Nat) : (s.set a v).qpAt j = s.qpAt j := rfl
@[simp] theorem State.set_now (a : Nat) (v : BitVec 32) : (s.set a v).now = s.now := rfl
@[simp] theorem State.setN_encAt (a v : Nat) (j : Nat) : (s.setN a v).encAt j = s.encAt j := rfl
@[simp] theorem State.setN_rowAt (a v : Nat) (j : Nat) : (s.setN a v).rowAt j = s.rowAt j := rfl
@[simp] theorem State.setN_portAt (a v : Nat) (j : Nat) : (s.setN a v).portAt j = s.portAt j := rfl
@[simp] theorem State.setN_planeAt (a v : Nat) (j : Nat) : (s.setN a v).planeAt j = s.planeAt j := rfl
@[simp] theorem State.setN_chanAt (a v : Nat) (j : Nat) : (s.setN a v).chanAt j = s.chanAt j := rfl
@[simp] theorem State.setN_zoneAt (a v : Nat) (j y : Nat) : (s.setN a v).zoneAt j y = s.zoneAt j y := rfl
@[simp] theorem State.setN_qpAt (a v : Nat) (j : Nat) : (s.setN a v).qpAt j = s.qpAt j := rfl
@[simp] theorem State.setN_now (a v : Nat) : (s.setN a v).now = s.now := rfl
@[simp] theorem State.setFld_encAt (a : Nat) (f : Fld) (v : Nat) (j : Nat) : (s.setFld a f v).encAt j = s.encAt j := rfl
@[simp] theorem State.setFld_rowAt (a : Nat) (f : Fld) (v : Nat) (j : Nat) : (s.setFld a f v).rowAt j = s.rowAt j := rfl
@[simp] theorem State.setFld_portAt (a : Nat) (f : Fld) (v : Nat) (j : Nat) : (s.setFld a f v).portAt j = s.portAt j := rfl
@[simp] theorem State.setFld_planeAt (a : Nat) (f : Fld) (v : Nat) (j : Nat) : (s.setFld a f v).planeAt j = s.planeAt j := rfl
@[simp] theorem State.setFld_chanAt (a : Nat) (f : Fld) (v : Nat) (j : Nat) : (s.setFld a f v).chanAt j = s.chanAt j := rfl
@[simp] theorem State.setFld_zoneAt (a : Nat) (f : Fld) (v : Nat) (j y : Nat) : (s.setFld a f v).zoneAt j y = s.zoneAt j y := rfl
@[simp] theorem State.setFld_qpAt (a : Nat) (f : Fld) (v : Nat) (j : Nat) : (s.setFld a f v).qpAt j = s.qpAt j := rfl
@[simp] theorem State.setFld_now (a : Nat) (f : Fld) (v : Nat) : (s.setFld a f v).now = s.now := rfl
@[simp] theorem State.setBit_encAt (a : Nat) (f : Fld) (b : Bool) (j : Nat) : (s.setBit a f b).encAt j = s.encAt j := rfl
@[simp] theorem State.setBit_rowAt (a : Nat) (f : Fld) (b : Bool) (j : Nat) : (s.setBit a f b).rowAt j = s.rowAt j := rfl
@[simp] theorem State.setBit_portAt (a : Nat) (f : Fld) (b : Bool) (j : Nat) : (s.setBit a f b).portAt j = s.portAt j := rfl
@[simp] theorem State.setBit_planeAt (a : Nat) (f : Fld) (b : Bool) (j : Nat) : (s.setBit a f b).planeAt j = s.planeAt j := rfl
@[simp] theorem State.setBit_chanAt (a : Nat) (f : Fld) (b : Bool) (j : Nat) : (s.setBit a f b).chanAt j = s.chanAt j := rfl
@[simp] theorem State.setBit_zoneAt (a : Nat) (f : Fld) (b : Bool) (j y : Nat) : (s.setBit a f b).zoneAt j y = s.zoneAt j y := rfl
@[simp] theorem State.setBit_qpAt (a : Nat) (f : Fld) (b : Bool) (j : Nat) : (s.setBit a f b).qpAt j = s.qpAt j := rfl
@[simp] theorem State.setBit_now (a : Nat) (f : Fld) (b : Bool) : (s.setBit a f b).now = s.now := rfl
@[simp] theorem State.bump_encAt (a : Nat) (f : Fld) (k : Nat) (j : Nat) : (s.bump a f k).encAt j = s.encAt j := rfl
@[simp] theorem State.bump_rowAt (a : Nat) (f : Fld) (k : Nat) (j : Nat) : (s.bump a f k).rowAt j = s.rowAt j := rfl
@[simp] theorem State.bump_portAt (a : Nat) (f : Fld) (k : Nat) (j : Nat) : (s.bump a f k).portAt j = s.portAt j := rfl
@[simp] theorem State.bump_planeAt (a : Nat) (f : Fld) (k : Nat) (j : Nat) : (s.bump a f k).planeAt j = s.planeAt j := rfl
@[simp] theorem State.bump_chanAt (a : Nat) (f : Fld) (k : Nat) (j : Nat) : (s.bump a f k).chanAt j = s.chanAt j := rfl
@[simp] theorem State.bump_zoneAt (a : Nat) (f : Fld) (k : Nat) (j y : Nat) : (s.bump a f k).zoneAt j y = s.zoneAt j y := rfl
@[simp] theorem State.bump_qpAt (a : Nat) (f : Fld) (k : Nat) (j : Nat) : (s.bump a f k).qpAt j = s.qpAt j := rfl
@[simp] theorem State.bump_now (a : Nat) (f : Fld) (k : Nat) : (s.bump a f k).now = s.now := rfl
@[simp] theorem State.set64_encAt (lo hi v : Nat) (j : Nat) : (s.set64 lo hi v).encAt j = s.encAt j := rfl
@[simp] theorem State.set64_rowAt (lo hi v : Nat) (j : Nat) : (s.set64 lo hi v).rowAt j = s.rowAt j := rfl
@[simp] theorem State.set64_portAt (lo hi v : Nat) (j : Nat) : (s.set64 lo hi v).portAt j = s.portAt j := rfl
@[simp] theorem State.set64_planeAt (lo hi v : Nat) (j : Nat) : (s.set64 lo hi v).planeAt j = s.planeAt j := rfl
@[simp] theorem State.set64_chanAt (lo hi v : Nat) (j : Nat) : (s.set64 lo hi v).chanAt j = s.chanAt j := rfl
@[simp] theorem State.set64_zoneAt (lo hi v : Nat) (j y : Nat) : (s.set64 lo hi v).zoneAt j y = s.zoneAt j y := rfl
@[simp] theorem State.set64_qpAt (lo hi v : Nat) (j : Nat) : (s.set64 lo hi v).qpAt j = s.qpAt j := rfl
@[simp] theorem State.set64_now (lo hi v : Nat) : (s.set64 lo hi v).now = s.now := rfl
@[simp] theorem State.modEnc_rowAt (k : Nat) (f : Enc → Enc) (j : Nat) : (s.modEnc k f).rowAt j = s.rowAt j := rfl
@[simp] theorem State.modEnc_portAt (k : Nat) (f : Enc → Enc) (j : Nat) : (s.modEnc k f).portAt j = s.portAt j := rfl
@[simp] theorem State.modEnc_planeAt (k : Nat) (f : Enc → Enc) (j : Nat) : (s.modEnc k f).planeAt j = s.planeAt j := rfl
@[simp] theorem State.modEnc_chanAt (k : Nat) (f : Enc → Enc) (j : Nat) : (s.modEnc k f).chanAt j = s.chanAt j := rfl
@[simp] theorem State.modEnc_zoneAt (k : Nat) (f : Enc → Enc) (j y : Nat) : (s.modEnc k f).zoneAt j y = s.zoneAt j y := rfl
@[simp] theorem State.modEnc_qpAt (k : Nat) (f : Enc → Enc) (j : Nat) : (s.modEnc k f).qpAt j = s.qpAt j := rfl
@[simp] theorem State.modEnc_get (k : Nat) (f : Enc → Enc) (b : Nat) : (s.modEnc k f).get b = s.get b := rfl
@[simp] theorem State.modEnc_getN (k : Nat) (f : Enc → Enc) (b : Nat) : (s.modEnc k f).getN b = s.getN b := rfl
@[simp] theorem State.modEnc_fld (k : Nat) (f : Enc → Enc) (b : Nat) (g : Fld) : (s.modEnc k f).fld b g = s.fld b g := rfl
@[simp] theorem State.modEnc_fldS (k : Nat) (f : Enc → Enc) (b : Nat) (g : Fld) : (s.modEnc k f).fldS b g = s.fldS b g := rfl
@[simp] theorem State.modEnc_bit (k : Nat) (f : Enc → Enc) (b : Nat) (g : Fld) : (s.modEnc k f).bit b g = s.bit b g := rfl
@[simp] theorem State.modEnc_get64 (k : Nat) (f : Enc → Enc) (b c : Nat) : (s.modEnc k f).get64 b c = s.get64 b c := rfl
@[simp] theorem State.modEnc_stage (k : Nat) (f : Enc → Enc) : (s.modEnc k f).stage = s.stage := rfl
@[simp] theorem State.modEnc_now (k : Nat) (f : Enc → Enc) : (s.modEnc k f).now = s.now := rfl
@[simp] theorem State.modRow_encAt (i : Nat) (f : Row → Row) (j : Nat) : (s.modRow i f).encAt j = s.encAt j := rfl
@[simp] theorem State.modRow_portAt (i : Nat) (f : Row → Row) (j : Nat) : (s.modRow i f).portAt j = s.portAt j := rfl
@[simp] theorem State.modRow_planeAt (i : Nat) (f : Row → Row) (j : Nat) : (s.modRow i f).planeAt j = s.planeAt j := rfl
@[simp] theorem State.modRow_chanAt (i : Nat) (f : Row → Row) (j : Nat) : (s.modRow i f).chanAt j = s.chanAt j := rfl
@[simp] theorem State.modRow_zoneAt (i : Nat) (f : Row → Row) (j y : Nat) : (s.modRow i f).zoneAt j y = s.zoneAt j y := rfl
@[simp] theorem State.modRow_qpAt (i : Nat) (f : Row → Row) (j : Nat) : (s.modRow i f).qpAt j = s.qpAt j := rfl
@[simp] theorem State.modRow_get (i : Nat) (f : Row → Row) (b : Nat) : (s.modRow i f).get b = s.get b := rfl
@[simp] theorem State.modRow_getN (i : Nat) (f : Row → Row) (b : Nat) : (s.modRow i f).getN b = s.getN b := rfl
@[simp] theorem State.modRow_fld (i : Nat) (f : Row → Row) (b : Nat) (g : Fld) : (s.modRow i f).fld b g = s.fld b g := rfl
@[simp] theorem State.modRow_fldS (i : Nat) (f : Row → Row) (b : Nat) (g : Fld) : (s.modRow i f).fldS b g = s.fldS b g := rfl
@[simp] theorem State.modRow_bit (i : Nat) (f : Row → Row) (b : Nat) (g : Fld) : (s.modRow i f).bit b g = s.bit b g := rfl
@[simp] theorem State.modRow_get64 (i : Nat) (f : Row → Row) (b c : Nat) : (s.modRow i f).get64 b c = s.get64 b c := rfl
@[simp] theorem State.modRow_stage (i : Nat) (f : Row → Row) : (s.modRow i f).stage = s.stage := rfl
@[simp] theorem State.modRow_now (i : Nat) (f : Row → Row) : (s.modRow i f).now = s.now := rfl
@[simp] theorem State.modPort_encAt (n : Nat) (f : Port → Port) (j : Nat) : (s.modPort n f).encAt j = s.encAt j := rfl
@[simp] theorem State.modPort_rowAt (n : Nat) (f : Port → Port) (j : Nat) : (s.modPort n f).rowAt j = s.rowAt j := rfl
@[simp] theorem State.modPort_planeAt (n : Nat) (f : Port → Port) (j : Nat) : (s.modPort n f).planeAt j = s.planeAt j := rfl
@[simp] theorem State.modPort_chanAt (n : Nat) (f : Port → Port) (j : Nat) : (s.modPort n f).chanAt j = s.chanAt j := rfl
@[simp] theorem State.modPort_zoneAt (n : Nat) (f : Port → Port) (j y : Nat) : (s.modPort n f).zoneAt j y = s.zoneAt j y := rfl
@[simp] theorem State.modPort_qpAt (n : Nat) (f : Port → Port) (j : Nat) : (s.modPort n f).qpAt j = s.qpAt j := rfl
@[simp] theorem State.modPort_get (n : Nat) (f : Port → Port) (b : Nat) : (s.modPort n f).get b = s.get b := rfl
@[simp] theorem State.modPort_getN (n : Nat) (f : Port → Port) (b : Nat) : (s.modPort n f).getN b = s.getN b := rfl
@[simp] theorem State.modPort_fld (n : Nat) (f : Port → Port) (b : Nat) (g : Fld) : (s.modPort n f).fld b g = s.fld b g := rfl
@[simp] theorem State.modPort_fldS (n : Nat) (f : Port → Port) (b : Nat) (g : Fld) : (s.modPort n f).fldS b g = s.fldS b g := rfl
@[simp] theorem State.modPort_bit (n : Nat) (f : Port → Port) (b : Nat) (g : Fld) : (s.modPort n f).bit b g = s.bit b g := rfl
@[simp] theorem State.modPort_get64 (n : Nat) (f : Port → Port) (b c : Nat) : (s.modPort n f).get64 b c = s.get64 b c := rfl
@[simp] theorem State.modPort_stage (n : Nat) (f : Port → Port) : (s.modPort n f).stage = s.stage := rfl
@[simp] theorem State.modPort_now (n : Nat) (f : Port → Port) : (s.modPort n f).now = s.now := rfl
@[simp] theorem State.modPlane_encAt (p : Nat) (f : Plane → Plane) (j : Nat) : (s.modPlane p f).encAt j = s.encAt j := rfl
@[simp] theorem State.modPlane_rowAt (p : Nat) (f : Plane → Plane) (j : Nat) : (s.modPlane p f).rowAt j = s.rowAt j := rfl
@[simp] theorem State.modPlane_portAt (p : Nat) (f : Plane → Plane) (j : Nat) : (s.modPlane p f).portAt j = s.portAt j := rfl
@[simp] theorem State.modPlane_chanAt (p : Nat) (f : Plane → Plane) (j : Nat) : (s.modPlane p f).chanAt j = s.chanAt j := rfl
@[simp] theorem State.modPlane_zoneAt (p : Nat) (f : Plane → Plane) (j y : Nat) : (s.modPlane p f).zoneAt j y = s.zoneAt j y := rfl
@[simp] theorem State.modPlane_qpAt (p : Nat) (f : Plane → Plane) (j : Nat) : (s.modPlane p f).qpAt j = s.qpAt j := rfl
@[simp] theorem State.modPlane_get (p : Nat) (f : Plane → Plane) (b : Nat) : (s.modPlane p f).get b = s.get b := rfl
@[simp] theorem State.modPlane_getN (p : Nat) (f : Plane → Plane) (b : Nat) : (s.modPlane p f).getN b = s.getN b := rfl
@[simp] theorem State.modPlane_fld (p : Nat) (f : Plane → Plane) (b : Nat) (g : Fld) : (s.modPlane p f).fld b g = s.fld b g := rfl
@[simp] theorem State.modPlane_fldS (p : Nat) (f : Plane → Plane) (b : Nat) (g : Fld) : (s.modPlane p f).fldS b g = s.fldS b g := rfl
@[simp] theorem State.modPlane_bit (p : Nat) (f : Plane → Plane) (b : Nat) (g : Fld) : (s.modPlane p f).bit b g = s.bit b g := rfl
@[simp] theorem State.modPlane_get64 (p : Nat) (f : Plane → Plane) (b c : Nat) : (s.modPlane p f).get64 b c = s.get64 b c := rfl
@[simp] theorem State.modPlane_stage (p : Nat) (f : Plane → Plane) : (s.modPlane p f).stage = s.stage := rfl
@[simp] theorem State.modPlane_now (p : Nat) (f : Plane → Plane) : (s.modPlane p f).now = s.now := rfl
@[simp] theorem State.modChan_encAt (ch : Nat) (f : Chan → Chan) (j : Nat) : (s.modChan ch f).encAt j = s.encAt j := rfl
@[simp] theorem State.modChan_rowAt (ch : Nat) (f : Chan → Chan) (j : Nat) : (s.modChan ch f).rowAt j = s.rowAt j := rfl
@[simp] theorem State.modChan_portAt (ch : Nat) (f : Chan → Chan) (j : Nat) : (s.modChan ch f).portAt j = s.portAt j := rfl
@[simp] theorem State.modChan_planeAt (ch : Nat) (f : Chan → Chan) (j : Nat) : (s.modChan ch f).planeAt j = s.planeAt j := rfl
@[simp] theorem State.modChan_zoneAt (ch : Nat) (f : Chan → Chan) (j y : Nat) : (s.modChan ch f).zoneAt j y = s.zoneAt j y := rfl
@[simp] theorem State.modChan_qpAt (ch : Nat) (f : Chan → Chan) (j : Nat) : (s.modChan ch f).qpAt j = s.qpAt j := rfl
@[simp] theorem State.modChan_get (ch : Nat) (f : Chan → Chan) (b : Nat) : (s.modChan ch f).get b = s.get b := rfl
@[simp] theorem State.modChan_getN (ch : Nat) (f : Chan → Chan) (b : Nat) : (s.modChan ch f).getN b = s.getN b := rfl
@[simp] theorem State.modChan_fld (ch : Nat) (f : Chan → Chan) (b : Nat) (g : Fld) : (s.modChan ch f).fld b g = s.fld b g := rfl
@[simp] theorem State.modChan_fldS (ch : Nat) (f : Chan → Chan) (b : Nat) (g : Fld) : (s.modChan ch f).fldS b g = s.fldS b g := rfl
@[simp] theorem State.modChan_bit (ch : Nat) (f : Chan → Chan) (b : Nat) (g : Fld) : (s.modChan ch f).bit b g = s.bit b g := rfl
@[simp] theorem State.modChan_get64 (ch : Nat) (f : Chan → Chan) (b c : Nat) : (s.modChan ch f).get64 b c = s.get64 b c := rfl
@[simp] theorem State.modChan_stage (ch : Nat) (f : Chan → Chan) : (s.modChan ch f).stage = s.stage := rfl
@[simp] theorem State.modChan_now (ch : Nat) (f : Chan → Chan) : (s.modChan ch f).now = s.now := rfl
@[simp] theorem State.modZone_encAt (n z : Nat) (f : Zone → Zone) (j : Nat) : (s.modZone n z f).encAt j = s.encAt j := rfl
@[simp] theorem State.modZone_rowAt (n z : Nat) (f : Zone → Zone) (j : Nat) : (s.modZone n z f).rowAt j = s.rowAt j := rfl
@[simp] theorem State.modZone_portAt (n z : Nat) (f : Zone → Zone) (j : Nat) : (s.modZone n z f).portAt j = s.portAt j := rfl
@[simp] theorem State.modZone_planeAt (n z : Nat) (f : Zone → Zone) (j : Nat) : (s.modZone n z f).planeAt j = s.planeAt j := rfl
@[simp] theorem State.modZone_chanAt (n z : Nat) (f : Zone → Zone) (j : Nat) : (s.modZone n z f).chanAt j = s.chanAt j := rfl
@[simp] theorem State.modZone_qpAt (n z : Nat) (f : Zone → Zone) (j : Nat) : (s.modZone n z f).qpAt j = s.qpAt j := rfl
@[simp] theorem State.modZone_get (n z : Nat) (f : Zone → Zone) (b : Nat) : (s.modZone n z f).get b = s.get b := rfl
@[simp] theorem State.modZone_getN (n z : Nat) (f : Zone → Zone) (b : Nat) : (s.modZone n z f).getN b = s.getN b := rfl
@[simp] theorem State.modZone_fld (n z : Nat) (f : Zone → Zone) (b : Nat) (g : Fld) : (s.modZone n z f).fld b g = s.fld b g := rfl
@[simp] theorem State.modZone_fldS (n z : Nat) (f : Zone → Zone) (b : Nat) (g : Fld) : (s.modZone n z f).fldS b g = s.fldS b g := rfl
@[simp] theorem State.modZone_bit (n z : Nat) (f : Zone → Zone) (b : Nat) (g : Fld) : (s.modZone n z f).bit b g = s.bit b g := rfl
@[simp] theorem State.modZone_get64 (n z : Nat) (f : Zone → Zone) (b c : Nat) : (s.modZone n z f).get64 b c = s.get64 b c := rfl
@[simp] theorem State.modZone_stage (n z : Nat) (f : Zone → Zone) : (s.modZone n z f).stage = s.stage := rfl
@[simp] theorem State.modZone_now (n z : Nat) (f : Zone → Zone) : (s.modZone n z f).now = s.now := rfl
@[simp] theorem State.modQp_encAt (q : Nat) (f : Qp → Qp) (j : Nat) : (s.modQp q f).encAt j = s.encAt j := rfl
@[simp] theorem State.modQp_rowAt (q : Nat) (f : Qp → Qp) (j : Nat) : (s.modQp q f).rowAt j = s.rowAt j := rfl
@[simp] theorem State.modQp_portAt (q : Nat) (f : Qp → Qp) (j : Nat) : (s.modQp q f).portAt j = s.portAt j := rfl
@[simp] theorem State.modQp_planeAt (q : Nat) (f : Qp → Qp) (j : Nat) : (s.modQp q f).planeAt j = s.planeAt j := rfl
@[simp] theorem State.modQp_chanAt (q : Nat) (f : Qp → Qp) (j : Nat) : (s.modQp q f).chanAt j = s.chanAt j := rfl
@[simp] theorem State.modQp_zoneAt (q : Nat) (f : Qp → Qp) (j y : Nat) : (s.modQp q f).zoneAt j y = s.zoneAt j y := rfl
@[simp] theorem State.modQp_get (q : Nat) (f : Qp → Qp) (b : Nat) : (s.modQp q f).get b = s.get b := rfl
@[simp] theorem State.modQp_getN (q : Nat) (f : Qp → Qp) (b : Nat) : (s.modQp q f).getN b = s.getN b := rfl
@[simp] theorem State.modQp_fld (q : Nat) (f : Qp → Qp) (b : Nat) (g : Fld) : (s.modQp q f).fld b g = s.fld b g := rfl
@[simp] theorem State.modQp_fldS (q : Nat) (f : Qp → Qp) (b : Nat) (g : Fld) : (s.modQp q f).fldS b g = s.fldS b g := rfl
@[simp] theorem State.modQp_bit (q : Nat) (f : Qp → Qp) (b : Nat) (g : Fld) : (s.modQp q f).bit b g = s.bit b g := rfl
@[simp] theorem State.modQp_get64 (q : Nat) (f : Qp → Qp) (b c : Nat) : (s.modQp q f).get64 b c = s.get64 b c := rfl
@[simp] theorem State.modQp_stage (q : Nat) (f : Qp → Qp) : (s.modQp q f).stage = s.stage := rfl
@[simp] theorem State.modQp_now (q : Nat) (f : Qp → Qp) : (s.modQp q f).now = s.now := rfl
@[simp] theorem State.modPw_encAt (f : Power → Power) (j : Nat) : (s.modPw f).encAt j = s.encAt j := rfl
@[simp] theorem State.modPw_rowAt (f : Power → Power) (j : Nat) : (s.modPw f).rowAt j = s.rowAt j := rfl
@[simp] theorem State.modPw_portAt (f : Power → Power) (j : Nat) : (s.modPw f).portAt j = s.portAt j := rfl
@[simp] theorem State.modPw_planeAt (f : Power → Power) (j : Nat) : (s.modPw f).planeAt j = s.planeAt j := rfl
@[simp] theorem State.modPw_chanAt (f : Power → Power) (j : Nat) : (s.modPw f).chanAt j = s.chanAt j := rfl
@[simp] theorem State.modPw_zoneAt (f : Power → Power) (j y : Nat) : (s.modPw f).zoneAt j y = s.zoneAt j y := rfl
@[simp] theorem State.modPw_qpAt (f : Power → Power) (j : Nat) : (s.modPw f).qpAt j = s.qpAt j := rfl
@[simp] theorem State.modPw_get (f : Power → Power) (b : Nat) : (s.modPw f).get b = s.get b := rfl
@[simp] theorem State.modPw_getN (f : Power → Power) (b : Nat) : (s.modPw f).getN b = s.getN b := rfl
@[simp] theorem State.modPw_fld (f : Power → Power) (b : Nat) (g : Fld) : (s.modPw f).fld b g = s.fld b g := rfl
@[simp] theorem State.modPw_fldS (f : Power → Power) (b : Nat) (g : Fld) : (s.modPw f).fldS b g = s.fldS b g := rfl
@[simp] theorem State.modPw_bit (f : Power → Power) (b : Nat) (g : Fld) : (s.modPw f).bit b g = s.bit b g := rfl
@[simp] theorem State.modPw_get64 (f : Power → Power) (b c : Nat) : (s.modPw f).get64 b c = s.get64 b c := rfl
@[simp] theorem State.modPw_stage (f : Power → Power) : (s.modPw f).stage = s.stage := rfl
@[simp] theorem State.modPw_now (f : Power → Power) : (s.modPw f).now = s.now := rfl
@[simp] theorem State.modChain_encAt (f : Chain → Chain) (j : Nat) : (s.modChain f).encAt j = s.encAt j := rfl
@[simp] theorem State.modChain_rowAt (f : Chain → Chain) (j : Nat) : (s.modChain f).rowAt j = s.rowAt j := rfl
@[simp] theorem State.modChain_portAt (f : Chain → Chain) (j : Nat) : (s.modChain f).portAt j = s.portAt j := rfl
@[simp] theorem State.modChain_planeAt (f : Chain → Chain) (j : Nat) : (s.modChain f).planeAt j = s.planeAt j := rfl
@[simp] theorem State.modChain_chanAt (f : Chain → Chain) (j : Nat) : (s.modChain f).chanAt j = s.chanAt j := rfl
@[simp] theorem State.modChain_zoneAt (f : Chain → Chain) (j y : Nat) : (s.modChain f).zoneAt j y = s.zoneAt j y := rfl
@[simp] theorem State.modChain_qpAt (f : Chain → Chain) (j : Nat) : (s.modChain f).qpAt j = s.qpAt j := rfl
@[simp] theorem State.modChain_get (f : Chain → Chain) (b : Nat) : (s.modChain f).get b = s.get b := rfl
@[simp] theorem State.modChain_getN (f : Chain → Chain) (b : Nat) : (s.modChain f).getN b = s.getN b := rfl
@[simp] theorem State.modChain_fld (f : Chain → Chain) (b : Nat) (g : Fld) : (s.modChain f).fld b g = s.fld b g := rfl
@[simp] theorem State.modChain_fldS (f : Chain → Chain) (b : Nat) (g : Fld) : (s.modChain f).fldS b g = s.fldS b g := rfl
@[simp] theorem State.modChain_bit (f : Chain → Chain) (b : Nat) (g : Fld) : (s.modChain f).bit b g = s.bit b g := rfl
@[simp] theorem State.modChain_get64 (f : Chain → Chain) (b c : Nat) : (s.modChain f).get64 b c = s.get64 b c := rfl
@[simp] theorem State.modChain_stage (f : Chain → Chain) : (s.modChain f).stage = s.stage := rfl
@[simp] theorem State.modChain_now (f : Chain → Chain) : (s.modChain f).now = s.now := rfl
@[simp] theorem State.emit_encAt (o : Output) (j : Nat) : (s.emit o).encAt j = s.encAt j := rfl
@[simp] theorem State.emit_rowAt (o : Output) (j : Nat) : (s.emit o).rowAt j = s.rowAt j := rfl
@[simp] theorem State.emit_portAt (o : Output) (j : Nat) : (s.emit o).portAt j = s.portAt j := rfl
@[simp] theorem State.emit_planeAt (o : Output) (j : Nat) : (s.emit o).planeAt j = s.planeAt j := rfl
@[simp] theorem State.emit_chanAt (o : Output) (j : Nat) : (s.emit o).chanAt j = s.chanAt j := rfl
@[simp] theorem State.emit_zoneAt (o : Output) (j y : Nat) : (s.emit o).zoneAt j y = s.zoneAt j y := rfl
@[simp] theorem State.emit_qpAt (o : Output) (j : Nat) : (s.emit o).qpAt j = s.qpAt j := rfl
@[simp] theorem State.emit_get (o : Output) (b : Nat) : (s.emit o).get b = s.get b := rfl
@[simp] theorem State.emit_getN (o : Output) (b : Nat) : (s.emit o).getN b = s.getN b := rfl
@[simp] theorem State.emit_fld (o : Output) (b : Nat) (g : Fld) : (s.emit o).fld b g = s.fld b g := rfl
@[simp] theorem State.emit_fldS (o : Output) (b : Nat) (g : Fld) : (s.emit o).fldS b g = s.fldS b g := rfl
@[simp] theorem State.emit_bit (o : Output) (b : Nat) (g : Fld) : (s.emit o).bit b g = s.bit b g := rfl
@[simp] theorem State.emit_get64 (o : Output) (b c : Nat) : (s.emit o).get64 b c = s.get64 b c := rfl
@[simp] theorem State.emit_stage (o : Output) : (s.emit o).stage = s.stage := rfl
@[simp] theorem State.emit_now (o : Output) : (s.emit o).now = s.now := rfl
@[simp] theorem State.chipWrite_encAt (a : Nat) (bs : List Nat) (j : Nat) : (s.chipWrite a bs).encAt j = s.encAt j := rfl
@[simp] theorem State.chipWrite_rowAt (a : Nat) (bs : List Nat) (j : Nat) : (s.chipWrite a bs).rowAt j = s.rowAt j := rfl
@[simp] theorem State.chipWrite_portAt (a : Nat) (bs : List Nat) (j : Nat) : (s.chipWrite a bs).portAt j = s.portAt j := rfl
@[simp] theorem State.chipWrite_planeAt (a : Nat) (bs : List Nat) (j : Nat) : (s.chipWrite a bs).planeAt j = s.planeAt j := rfl
@[simp] theorem State.chipWrite_chanAt (a : Nat) (bs : List Nat) (j : Nat) : (s.chipWrite a bs).chanAt j = s.chanAt j := rfl
@[simp] theorem State.chipWrite_zoneAt (a : Nat) (bs : List Nat) (j y : Nat) : (s.chipWrite a bs).zoneAt j y = s.zoneAt j y := rfl
@[simp] theorem State.chipWrite_qpAt (a : Nat) (bs : List Nat) (j : Nat) : (s.chipWrite a bs).qpAt j = s.qpAt j := rfl
@[simp] theorem State.chipWrite_get (a : Nat) (bs : List Nat) (b : Nat) : (s.chipWrite a bs).get b = s.get b := rfl
@[simp] theorem State.chipWrite_getN (a : Nat) (bs : List Nat) (b : Nat) : (s.chipWrite a bs).getN b = s.getN b := rfl
@[simp] theorem State.chipWrite_fld (a : Nat) (bs : List Nat) (b : Nat) (g : Fld) : (s.chipWrite a bs).fld b g = s.fld b g := rfl
@[simp] theorem State.chipWrite_fldS (a : Nat) (bs : List Nat) (b : Nat) (g : Fld) : (s.chipWrite a bs).fldS b g = s.fldS b g := rfl
@[simp] theorem State.chipWrite_bit (a : Nat) (bs : List Nat) (b : Nat) (g : Fld) : (s.chipWrite a bs).bit b g = s.bit b g := rfl
@[simp] theorem State.chipWrite_get64 (a : Nat) (bs : List Nat) (b c : Nat) : (s.chipWrite a bs).get64 b c = s.get64 b c := rfl
@[simp] theorem State.chipWrite_stage (a : Nat) (bs : List Nat) : (s.chipWrite a bs).stage = s.stage := rfl
@[simp] theorem State.chipWrite_now (a : Nat) (bs : List Nat) : (s.chipWrite a bs).now = s.now := rfl
@[simp] theorem State.hostWrite_encAt (a : Nat) (bs : List Nat) (j : Nat) : (s.hostWrite a bs).encAt j = s.encAt j := rfl
@[simp] theorem State.hostWrite_rowAt (a : Nat) (bs : List Nat) (j : Nat) : (s.hostWrite a bs).rowAt j = s.rowAt j := rfl
@[simp] theorem State.hostWrite_portAt (a : Nat) (bs : List Nat) (j : Nat) : (s.hostWrite a bs).portAt j = s.portAt j := rfl
@[simp] theorem State.hostWrite_planeAt (a : Nat) (bs : List Nat) (j : Nat) : (s.hostWrite a bs).planeAt j = s.planeAt j := rfl
@[simp] theorem State.hostWrite_chanAt (a : Nat) (bs : List Nat) (j : Nat) : (s.hostWrite a bs).chanAt j = s.chanAt j := rfl
@[simp] theorem State.hostWrite_zoneAt (a : Nat) (bs : List Nat) (j y : Nat) : (s.hostWrite a bs).zoneAt j y = s.zoneAt j y := rfl
@[simp] theorem State.hostWrite_qpAt (a : Nat) (bs : List Nat) (j : Nat) : (s.hostWrite a bs).qpAt j = s.qpAt j := rfl
@[simp] theorem State.hostWrite_get (a : Nat) (bs : List Nat) (b : Nat) : (s.hostWrite a bs).get b = s.get b := rfl
@[simp] theorem State.hostWrite_getN (a : Nat) (bs : List Nat) (b : Nat) : (s.hostWrite a bs).getN b = s.getN b := rfl
@[simp] theorem State.hostWrite_fld (a : Nat) (bs : List Nat) (b : Nat) (g : Fld) : (s.hostWrite a bs).fld b g = s.fld b g := rfl
@[simp] theorem State.hostWrite_fldS (a : Nat) (bs : List Nat) (b : Nat) (g : Fld) : (s.hostWrite a bs).fldS b g = s.fldS b g := rfl
@[simp] theorem State.hostWrite_bit (a : Nat) (bs : List Nat) (b : Nat) (g : Fld) : (s.hostWrite a bs).bit b g = s.bit b g := rfl
@[simp] theorem State.hostWrite_get64 (a : Nat) (bs : List Nat) (b c : Nat) : (s.hostWrite a bs).get64 b c = s.get64 b c := rfl
@[simp] theorem State.hostWrite_stage (a : Nat) (bs : List Nat) : (s.hostWrite a bs).stage = s.stage := rfl
@[simp] theorem State.hostWrite_now (a : Nat) (bs : List Nat) : (s.hostWrite a bs).now = s.now := rfl
@[simp] theorem State.advTo_encAt (u : Nat) (j : Nat) : (s.advTo u).encAt j = s.encAt j := rfl
@[simp] theorem State.advTo_rowAt (u : Nat) (j : Nat) : (s.advTo u).rowAt j = s.rowAt j := rfl
@[simp] theorem State.advTo_portAt (u : Nat) (j : Nat) : (s.advTo u).portAt j = s.portAt j := rfl
@[simp] theorem State.advTo_planeAt (u : Nat) (j : Nat) : (s.advTo u).planeAt j = s.planeAt j := rfl
@[simp] theorem State.advTo_chanAt (u : Nat) (j : Nat) : (s.advTo u).chanAt j = s.chanAt j := rfl
@[simp] theorem State.advTo_zoneAt (u : Nat) (j y : Nat) : (s.advTo u).zoneAt j y = s.zoneAt j y := rfl
@[simp] theorem State.advTo_qpAt (u : Nat) (j : Nat) : (s.advTo u).qpAt j = s.qpAt j := rfl
@[simp] theorem State.advTo_get (u : Nat) (b : Nat) : (s.advTo u).get b = s.get b := rfl
@[simp] theorem State.advTo_getN (u : Nat) (b : Nat) : (s.advTo u).getN b = s.getN b := rfl
@[simp] theorem State.advTo_fld (u : Nat) (b : Nat) (g : Fld) : (s.advTo u).fld b g = s.fld b g := rfl
@[simp] theorem State.advTo_fldS (u : Nat) (b : Nat) (g : Fld) : (s.advTo u).fldS b g = s.fldS b g := rfl
@[simp] theorem State.advTo_bit (u : Nat) (b : Nat) (g : Fld) : (s.advTo u).bit b g = s.bit b g := rfl
@[simp] theorem State.advTo_get64 (u : Nat) (b c : Nat) : (s.advTo u).get64 b c = s.get64 b c := rfl
@[simp] theorem State.advTo_stage (u : Nat) : (s.advTo u).stage = s.stage := rfl
@[simp] theorem State.countUnless_encAt (inj : Bool) (x k : Nat) (j : Nat) : (s.countUnless inj x k).encAt j = s.encAt j := rfl
@[simp] theorem State.countUnless_rowAt (inj : Bool) (x k : Nat) (j : Nat) : (s.countUnless inj x k).rowAt j = s.rowAt j := rfl
@[simp] theorem State.countUnless_portAt (inj : Bool) (x k : Nat) (j : Nat) : (s.countUnless inj x k).portAt j = s.portAt j := rfl
@[simp] theorem State.countUnless_planeAt (inj : Bool) (x k : Nat) (j : Nat) : (s.countUnless inj x k).planeAt j = s.planeAt j := rfl
@[simp] theorem State.countUnless_chanAt (inj : Bool) (x k : Nat) (j : Nat) : (s.countUnless inj x k).chanAt j = s.chanAt j := rfl
@[simp] theorem State.countUnless_zoneAt (inj : Bool) (x k : Nat) (j y : Nat) : (s.countUnless inj x k).zoneAt j y = s.zoneAt j y := rfl
@[simp] theorem State.countUnless_qpAt (inj : Bool) (x k : Nat) (j : Nat) : (s.countUnless inj x k).qpAt j = s.qpAt j := rfl
@[simp] theorem State.countUnless_get (inj : Bool) (x k : Nat) (b : Nat) : (s.countUnless inj x k).get b = s.get b := rfl
@[simp] theorem State.countUnless_getN (inj : Bool) (x k : Nat) (b : Nat) : (s.countUnless inj x k).getN b = s.getN b := rfl
@[simp] theorem State.countUnless_fld (inj : Bool) (x k : Nat) (b : Nat) (g : Fld) : (s.countUnless inj x k).fld b g = s.fld b g := rfl
@[simp] theorem State.countUnless_fldS (inj : Bool) (x k : Nat) (b : Nat) (g : Fld) : (s.countUnless inj x k).fldS b g = s.fldS b g := rfl
@[simp] theorem State.countUnless_bit (inj : Bool) (x k : Nat) (b : Nat) (g : Fld) : (s.countUnless inj x k).bit b g = s.bit b g := rfl
@[simp] theorem State.countUnless_get64 (inj : Bool) (x k : Nat) (b c : Nat) : (s.countUnless inj x k).get64 b c = s.get64 b c := rfl
@[simp] theorem State.countUnless_stage (inj : Bool) (x k : Nat) : (s.countUnless inj x k).stage = s.stage := rfl
@[simp] theorem State.countUnless_now (inj : Bool) (x k : Nat) : (s.countUnless inj x k).now = s.now := rfl
@[simp] theorem State.count_encAt (x k : Nat) (j : Nat) : (s.count x k).encAt j = s.encAt j := rfl
@[simp] theorem State.count_rowAt (x k : Nat) (j : Nat) : (s.count x k).rowAt j = s.rowAt j := rfl
@[simp] theorem State.count_portAt (x k : Nat) (j : Nat) : (s.count x k).portAt j = s.portAt j := rfl
@[simp] theorem State.count_planeAt (x k : Nat) (j : Nat) : (s.count x k).planeAt j = s.planeAt j := rfl
@[simp] theorem State.count_chanAt (x k : Nat) (j : Nat) : (s.count x k).chanAt j = s.chanAt j := rfl
@[simp] theorem State.count_zoneAt (x k : Nat) (j y : Nat) : (s.count x k).zoneAt j y = s.zoneAt j y := rfl
@[simp] theorem State.count_qpAt (x k : Nat) (j : Nat) : (s.count x k).qpAt j = s.qpAt j := rfl
@[simp] theorem State.count_get (x k : Nat) (b : Nat) : (s.count x k).get b = s.get b := rfl
@[simp] theorem State.count_getN (x k : Nat) (b : Nat) : (s.count x k).getN b = s.getN b := rfl
@[simp] theorem State.count_fld (x k : Nat) (b : Nat) (g : Fld) : (s.count x k).fld b g = s.fld b g := rfl
@[simp] theorem State.count_fldS (x k : Nat) (b : Nat) (g : Fld) : (s.count x k).fldS b g = s.fldS b g := rfl
@[simp] theorem State.count_bit (x k : Nat) (b : Nat) (g : Fld) : (s.count x k).bit b g = s.bit b g := rfl
@[simp] theorem State.count_get64 (x k : Nat) (b c : Nat) : (s.count x k).get64 b c = s.get64 b c := rfl
@[simp] theorem State.count_stage (x k : Nat) : (s.count x k).stage = s.stage := rfl
@[simp] theorem State.count_now (x k : Nat) : (s.count x k).now = s.now := rfl
@[simp] theorem State.raiseCount_encAt (co o x : Nat) (j : Nat) : (s.raiseCount co o x).encAt j = s.encAt j := rfl
@[simp] theorem State.raiseCount_rowAt (co o x : Nat) (j : Nat) : (s.raiseCount co o x).rowAt j = s.rowAt j := rfl
@[simp] theorem State.raiseCount_portAt (co o x : Nat) (j : Nat) : (s.raiseCount co o x).portAt j = s.portAt j := rfl
@[simp] theorem State.raiseCount_planeAt (co o x : Nat) (j : Nat) : (s.raiseCount co o x).planeAt j = s.planeAt j := rfl
@[simp] theorem State.raiseCount_chanAt (co o x : Nat) (j : Nat) : (s.raiseCount co o x).chanAt j = s.chanAt j := rfl
@[simp] theorem State.raiseCount_zoneAt (co o x : Nat) (j y : Nat) : (s.raiseCount co o x).zoneAt j y = s.zoneAt j y := rfl
@[simp] theorem State.raiseCount_qpAt (co o x : Nat) (j : Nat) : (s.raiseCount co o x).qpAt j = s.qpAt j := rfl
@[simp] theorem State.raiseCount_get (co o x : Nat) (b : Nat) : (s.raiseCount co o x).get b = s.get b := rfl
@[simp] theorem State.raiseCount_getN (co o x : Nat) (b : Nat) : (s.raiseCount co o x).getN b = s.getN b := rfl
@[simp] theorem State.raiseCount_fld (co o x : Nat) (b : Nat) (g : Fld) : (s.raiseCount co o x).fld b g = s.fld b g := rfl
@[simp] theorem State.raiseCount_fldS (co o x : Nat) (b : Nat) (g : Fld) : (s.raiseCount co o x).fldS b g = s.fldS b g := rfl
@[simp] theorem State.raiseCount_bit (co o x : Nat) (b : Nat) (g : Fld) : (s.raiseCount co o x).bit b g = s.bit b g := rfl
@[simp] theorem State.raiseCount_get64 (co o x : Nat) (b c : Nat) : (s.raiseCount co o x).get64 b c = s.get64 b c := rfl
@[simp] theorem State.raiseCount_stage (co o x : Nat) : (s.raiseCount co o x).stage = s.stage := rfl
@[simp] theorem State.raiseCount_now (co o x : Nat) : (s.raiseCount co o x).now = s.now := rfl
@[simp] theorem State.raise_encAt (co o : Nat) (j : Nat) : (s.raise co o).encAt j = s.encAt j := rfl
@[simp] theorem State.raise_rowAt (co o : Nat) (j : Nat) : (s.raise co o).rowAt j = s.rowAt j := rfl
@[simp] theorem State.raise_portAt (co o : Nat) (j : Nat) : (s.raise co o).portAt j = s.portAt j := rfl
@[simp] theorem State.raise_planeAt (co o : Nat) (j : Nat) : (s.raise co o).planeAt j = s.planeAt j := rfl
@[simp] theorem State.raise_chanAt (co o : Nat) (j : Nat) : (s.raise co o).chanAt j = s.chanAt j := rfl
@[simp] theorem State.raise_zoneAt (co o : Nat) (j y : Nat) : (s.raise co o).zoneAt j y = s.zoneAt j y := rfl
@[simp] theorem State.raise_qpAt (co o : Nat) (j : Nat) : (s.raise co o).qpAt j = s.qpAt j := rfl
@[simp] theorem State.raise_get (co o : Nat) (b : Nat) : (s.raise co o).get b = s.get b := rfl
@[simp] theorem State.raise_getN (co o : Nat) (b : Nat) : (s.raise co o).getN b = s.getN b := rfl
@[simp] theorem State.raise_fld (co o : Nat) (b : Nat) (g : Fld) : (s.raise co o).fld b g = s.fld b g := rfl
@[simp] theorem State.raise_fldS (co o : Nat) (b : Nat) (g : Fld) : (s.raise co o).fldS b g = s.fldS b g := rfl
@[simp] theorem State.raise_bit (co o : Nat) (b : Nat) (g : Fld) : (s.raise co o).bit b g = s.bit b g := rfl
@[simp] theorem State.raise_get64 (co o : Nat) (b c : Nat) : (s.raise co o).get64 b c = s.get64 b c := rfl
@[simp] theorem State.raise_stage (co o : Nat) : (s.raise co o).stage = s.stage := rfl
@[simp] theorem State.raise_now (co o : Nat) : (s.raise co o).now = s.now := rfl

/-! Units: what a unit reads after an update of it, and of another. -/
@[simp] theorem State.encAt_mod (k : Nat) (f : Enc → Enc) : (s.modEnc k f).encAt k = f (s.encAt k) := cellGet_mod _ _ _ _
theorem State.encAt_mod_ne (k w : Nat) (f : Enc → Enc) (h : k ≠ w) : (s.modEnc k f).encAt w = s.encAt w := cellGet_mod_ne _ _ _ _ _ h
@[simp] theorem State.rowAt_mod (i : Nat) (f : Row → Row) : (s.modRow i f).rowAt i = f (s.rowAt i) := cellGet_mod _ _ _ _
theorem State.rowAt_mod_ne (i w : Nat) (f : Row → Row) (h : i ≠ w) : (s.modRow i f).rowAt w = s.rowAt w := cellGet_mod_ne _ _ _ _ _ h
@[simp] theorem State.portAt_mod (n : Nat) (f : Port → Port) : (s.modPort n f).portAt n = f (s.portAt n) := cellGet_mod _ _ _ _
theorem State.portAt_mod_ne (n w : Nat) (f : Port → Port) (h : n ≠ w) : (s.modPort n f).portAt w = s.portAt w := cellGet_mod_ne _ _ _ _ _ h
@[simp] theorem State.planeAt_mod (p : Nat) (f : Plane → Plane) : (s.modPlane p f).planeAt p = f (s.planeAt p) := cellGet_mod _ _ _ _
theorem State.planeAt_mod_ne (p w : Nat) (f : Plane → Plane) (h : p ≠ w) : (s.modPlane p f).planeAt w = s.planeAt w := cellGet_mod_ne _ _ _ _ _ h
@[simp] theorem State.chanAt_mod (c : Nat) (f : Chan → Chan) : (s.modChan c f).chanAt c = f (s.chanAt c) := cellGet_mod _ _ _ _
theorem State.chanAt_mod_ne (c w : Nat) (f : Chan → Chan) (h : c ≠ w) : (s.modChan c f).chanAt w = s.chanAt w := cellGet_mod_ne _ _ _ _ _ h
@[simp] theorem State.qpAt_mod (q : Nat) (f : Qp → Qp) : (s.modQp q f).qpAt q = f (s.qpAt q) := cellGet_mod _ _ _ _
theorem State.qpAt_mod_ne (q w : Nat) (f : Qp → Qp) (h : q ≠ w) : (s.modQp q f).qpAt w = s.qpAt w := cellGet_mod_ne _ _ _ _ _ h
@[simp] theorem State.slotAt_mod (j : Nat) (f : Slot → Slot) : (s.modSlot j f).slotAt j = f (s.slotAt j) := cellGet_mod _ _ _ _
theorem State.slotAt_mod_ne (j w : Nat) (f : Slot → Slot) (h : j ≠ w) : (s.modSlot j f).slotAt w = s.slotAt w := cellGet_mod_ne _ _ _ _ _ h
@[simp] theorem State.vecAt_mod (v : Nat) (f : Vec → Vec) : (s.modVec v f).vecAt v = f (s.vecAt v) := cellGet_mod _ _ _ _
theorem State.vecAt_mod_ne (v w : Nat) (f : Vec → Vec) (h : v ≠ w) : (s.modVec v f).vecAt w = s.vecAt w := cellGet_mod_ne _ _ _ _ _ h

end Sys2Proof.Machine
end

