-- ==== Sys2Proof/Laws/Registers.lean ====
section
/-! SUPPORT. Reads of registers and of fields after writes. -/
namespace Sys2Proof.Machine

variable (s : State)

/-- A register reads as written. -/
@[simp] theorem State.get_set (a : Nat) (v : BitVec 32) : (s.set a v).get a = v := by
  have h := cellGet_put_in regReset s.regs [v] a a (Nat.le_refl a) (by simp)
  simpa [State.get, State.set] using h

/-- A write leaves every other register. -/
theorem State.get_set_ne (a b : Nat) (v : BitVec 32) (h : a ≠ b) : (s.set a v).get b = s.get b :=
  cellGet_put_out regReset s.regs [v] a b (by simp; omega)

theorem State.getN_setN (a v : Nat) : (s.setN a v).getN a = v % 2 ^ 32 := by simp [State.getN, State.setN]

theorem State.getN_setN_ne (a b v : Nat) (h : a ≠ b) : (s.setN a v).getN b = s.getN b := by
  simp [State.getN, State.setN, State.get_set_ne s a b _ h]

/-- A register of 32 bits is below 2^32. -/
theorem State.getN_lt (a : Nat) : s.getN a < 2 ^ 32 := (s.get a).isLt

/-- The field that setBits writes. -/
theorem bits_setBits (v lo w x : Nat) : bits (setBits v lo w x) lo w = x % 2 ^ w := by
  have hw := Nat.two_pow_pos w
  have hl := Nat.two_pow_pos lo
  have split : v = v % 2 ^ lo + (bits v lo w + v / 2 ^ lo / 2 ^ w * 2 ^ w) * 2 ^ lo := by
    have h1 := Nat.div_add_mod v (2 ^ lo)
    have h2 := Nat.div_add_mod (v / 2 ^ lo) (2 ^ w)
    unfold bits
    have : v / 2 ^ lo % 2 ^ w + v / 2 ^ lo / 2 ^ w * 2 ^ w = v / 2 ^ lo := by rw [Nat.mul_comm]; omega
    rw [this, Nat.mul_comm (v / 2 ^ lo)]; omega
  have e : setBits v lo w x = v % 2 ^ lo + (x % 2 ^ w + v / 2 ^ lo / 2 ^ w * 2 ^ w) * 2 ^ lo := by
    unfold setBits
    rw [Nat.add_mul] at split ⊢
    omega
  rw [e]
  unfold bits
  rw [Nat.add_mul_div_right _ _ hl, Nat.div_eq_of_lt (Nat.mod_lt v hl), Nat.zero_add, Nat.add_mul_mod_self_right,
    Nat.mod_eq_of_lt (Nat.mod_lt x hw)]

/-- A word of 32 bits with a field written is below 2^32. -/
theorem setBits_lt (v lo w x : Nat) (hv : v < 2 ^ 32) (h : lo + w ≤ 32) : setBits v lo w x < 2 ^ 32 := by
  have hw := Nat.two_pow_pos w
  have hl := Nat.two_pow_pos lo
  have p : 2 ^ (32 - lo) = 2 ^ w * 2 ^ (32 - lo - w) := by rw [← Nat.pow_add]; congr 1; omega
  have q : (2 : Nat) ^ 32 = 2 ^ lo * 2 ^ (32 - lo) := by rw [← Nat.pow_add]; congr 1; omega
  have a : v / 2 ^ lo < 2 ^ (32 - lo) := Nat.div_lt_of_lt_mul (by rw [← q]; exact hv)
  have b : v / 2 ^ lo / 2 ^ w < 2 ^ (32 - lo - w) := Nat.div_lt_of_lt_mul (by rw [← p]; exact a)
  have c : x % 2 ^ w + v / 2 ^ lo / 2 ^ w * 2 ^ w < 2 ^ (32 - lo) := by
    have := Nat.mod_lt x hw
    have d : (v / 2 ^ lo / 2 ^ w + 1) * 2 ^ w ≤ 2 ^ (32 - lo - w) * 2 ^ w := Nat.mul_le_mul_right _ b
    rw [Nat.add_mul] at d
    rw [p, Nat.mul_comm (2 ^ w)]; omega
  have split : v = v % 2 ^ lo + (bits v lo w + v / 2 ^ lo / 2 ^ w * 2 ^ w) * 2 ^ lo := by
    have h1 := Nat.div_add_mod v (2 ^ lo)
    have h2 := Nat.div_add_mod (v / 2 ^ lo) (2 ^ w)
    unfold bits
    have : v / 2 ^ lo % 2 ^ w + v / 2 ^ lo / 2 ^ w * 2 ^ w = v / 2 ^ lo := by rw [Nat.mul_comm]; omega
    rw [this, Nat.mul_comm (v / 2 ^ lo)]; omega
  have e : setBits v lo w x = v % 2 ^ lo + (x % 2 ^ w + v / 2 ^ lo / 2 ^ w * 2 ^ w) * 2 ^ lo := by
    unfold setBits
    rw [Nat.add_mul] at split ⊢
    omega
  rw [e, q]
  have m := Nat.mod_lt v hl
  have d : (x % 2 ^ w + v / 2 ^ lo / 2 ^ w * 2 ^ w + 1) * 2 ^ lo ≤ 2 ^ (32 - lo) * 2 ^ lo := Nat.mul_le_mul_right _ c
  rw [Nat.add_mul] at d
  rw [Nat.mul_comm (2 ^ lo)]; omega

/-- The word that setBits writes, in its three parts. -/
theorem setBits_eq (v lo w x : Nat) :
    setBits v lo w x = 2 ^ lo * (2 ^ w * (v / 2 ^ lo / 2 ^ w) + x % 2 ^ w) + v % 2 ^ lo := by
  have h1 := Nat.div_add_mod v (2 ^ lo)
  have h2 := Nat.div_add_mod (v / 2 ^ lo) (2 ^ w)
  have h3 : 2 ^ lo * (v / 2 ^ lo) = 2 ^ lo * (2 ^ w * (v / 2 ^ lo / 2 ^ w)) + 2 ^ lo * (v / 2 ^ lo % 2 ^ w) := by
    rw [← Nat.mul_add, h2]
  unfold setBits bits
  rw [Nat.mul_add, Nat.mul_comm (v / 2 ^ lo % 2 ^ w), Nat.mul_comm (x % 2 ^ w)]
  omega

/-- A bit of the word that setBits writes. -/
theorem testBit_setBits (v lo w x j : Nat) :
    (setBits v lo w x).testBit j =
      if j < lo then v.testBit j else if j < lo + w then x.testBit (j - lo) else v.testBit j := by
  rw [setBits_eq, Nat.testBit_two_pow_mul_add _ (Nat.mod_lt _ (Nat.two_pow_pos lo)), Nat.testBit_two_pow_mul_add _ (Nat.mod_lt _ (Nat.two_pow_pos w))]
  by_cases h1 : j < lo
  · simp [h1, Nat.testBit_mod_two_pow]
  · by_cases h2 : j < lo + w
    · have : j - lo < w := by omega
      simp [h1, h2, this, Nat.testBit_mod_two_pow]
    · have : ¬ j - lo < w := by omega
      have e : j - lo - w + w + lo = j := by omega
      simp only [h1, h2, this, if_false, Nat.testBit_div_two_pow, e]

/-- setBits leaves the fields beside its own. -/
theorem bits_setBits_ne (v lo w x lo' w' : Nat) (h : lo + w ≤ lo' ∨ lo' + w' ≤ lo) :
    bits (setBits v lo w x) lo' w' = bits v lo' w' := by
  apply Nat.eq_of_testBit_eq
  intro j
  unfold bits
  rw [Nat.testBit_mod_two_pow, Nat.testBit_mod_two_pow, Nat.testBit_div_two_pow, Nat.testBit_div_two_pow, testBit_setBits]
  by_cases hj : j < w'
  · rcases h with h | h
    · have a : ¬ j + lo' < lo := by omega
      have b : ¬ j + lo' < lo + w := by omega
      simp [a, b]
    · have a : j + lo' < lo := by omega
      simp [a]
  · simp [hj]

/-- A field of at most 32 bits reads as written. -/
theorem State.fld_setFld (a : Nat) (f : Fld) (v : Nat) (h : f.lo + f.w ≤ 32) :
    (s.setFld a f v).fld a f = v % 2 ^ f.w := by
  unfold State.fld State.setFld
  rw [State.getN_setN, Nat.mod_eq_of_lt (setBits_lt _ _ _ _ (s.getN_lt a) h), bits_setBits]

/-- A field write leaves the fields of every other register. -/
theorem State.fld_setFld_ne (a b : Nat) (f g : Fld) (v : Nat) (h : a ≠ b) : (s.setFld a f v).fld b g = s.fld b g := by
  unfold State.fld State.setFld
  rw [State.getN_setN_ne _ _ _ _ h]

/-- A field write leaves the fields beside it in its register. -/
theorem State.fld_setFld_beside (a : Nat) (f g : Fld) (v : Nat) (h : f.lo + f.w ≤ 32)
    (hg : f.lo + f.w ≤ g.lo ∨ g.lo + g.w ≤ f.lo) : (s.setFld a f v).fld a g = s.fld a g := by
  unfold State.fld State.setFld
  rw [State.getN_setN, Nat.mod_eq_of_lt (setBits_lt _ _ _ _ (s.getN_lt a) h), bits_setBits_ne _ _ _ _ _ _ hg]

/-- A one-bit field reads as written. -/
theorem State.bit_setBit (a : Nat) (f : Fld) (b : Bool) (h : f.lo + f.w ≤ 32) (hw : 0 < f.w) :
    (s.setBit a f b).bit a f = b := by
  unfold State.bit State.setBit
  rw [State.fld_setFld _ _ _ _ h]
  cases b <;> simp <;> omega

/-- A one-bit write leaves the fields of every other register. -/
theorem State.bit_setBit_ne (a c : Nat) (f g : Fld) (b : Bool) (h : a ≠ c) : (s.setBit a f b).bit c g = s.bit c g := by
  unfold State.bit State.setBit
  rw [State.fld_setFld_ne _ _ _ _ _ _ h]

end Sys2Proof.Machine
end

