-- ==== Sys2Proof/Laws/Shared.lean ====
section
/-! SUPPORT. What the operations that many rows share can do, said once. -/
namespace Sys2Proof.Machine

variable (s : State)

/-- The register of an allowed write is written; one denied counts and leaves the rest as it is (R423). -/
theorem byMaster_cases (m : Master) (off : Nat) (f : State → State) :
    (s.mayWrite m off = true ∧ s.byMaster m off f = f s) ∨ (s.mayWrite m off = false ∧ s.byMaster m off f = s.denyWrite off) := by
  unfold State.byMaster
  cases h : s.mayWrite m off <;> simp

/-- A command at the head of its queue pair is taken by the row of its opcode; any other row leaves the state (R424). -/
theorem take_cases (q op : Nat) (f : State → Cmd → State) :
    s.take q op f = s ∨ ∃ c, s.headCmd q = some c ∧ c.op = op ∧ c.pre = none ∧ s.ready = true ∧
      s.outranked q c = false ∧ s.take q op f = f { s.modQp q (fun p => { p with sq := p.sq.drop 1 }) with
        pw := { s.pw with idleSince := s.now } } c := by
  unfold State.take
  cases hc : s.headCmd q with
  | none => exact Or.inl rfl
  | some c =>
    by_cases h : c.op = op ∧ c.pre = none ∧ s.ready = true ∧ (!s.outranked q c) = true
    · exact Or.inr ⟨c, rfl, h.1, h.2.1, h.2.2.1, by simpa using h.2.2.2, by simp only [if_pos h]; rfl⟩
    · exact Or.inl (by simp only [if_neg h])

/-- A command of a mode that carries it out, with its arguments, runs (R425). -/
theorem gate_pass (q : Nat) (c : Cmd) (modes : List Mode) (len : Nat) (f : State → State)
    (hm : s.cmdMode ∈ modes) (hl : len ≤ c.args.length) : s.gate q c modes len f = f s := by
  have h : ¬ c.args.length < len := by omega
  simp [State.gate, hm, h]

/-- A command of another mode completes with the status of that mode (R425). -/
theorem gate_mode (q : Nat) (c : Cmd) (modes : List Mode) (len : Nat) (f : State → State) (hm : s.cmdMode ∉ modes) :
    s.gate q c modes len f = s.finish q c (if s.cmdMode = .boot ∨ s.cmdMode = .idle then stNotReady else stDenied) := by
  simp [State.gate, hm]

/-- A command short of arguments completes with BAD_ARG (R425). -/
theorem gate_short (q : Nat) (c : Cmd) (modes : List Mode) (len : Nat) (f : State → State)
    (hm : s.cmdMode ∈ modes) (hl : c.args.length < len) : s.gate q c modes len f = s.finish q c stBadArg := by
  simp [State.gate, hm, hl]

/-- A counter of 32 bits that saturates. -/
theorem bumpW_getN (a k : Nat) : (s.bumpW a k).getN a = min 0xFFFFFFFF (s.getN a + k) := by
  have hb : bits (s.getN a) 0 32 = s.getN a := by
    have := s.getN_lt a; unfold bits; simp; omega
  unfold State.bumpW State.bump State.setFld
  rw [State.getN_setN]
  have h1 : bits (setBits (s.getN a) 0 32 (satU 32 (s.fld a ⟨0, 32⟩ + k))) 0 32 =
      satU 32 (s.fld a ⟨0, 32⟩ + k) % 2 ^ 32 := bits_setBits _ _ _ _
  have h2 : setBits (s.getN a) 0 32 (satU 32 (s.fld a ⟨0, 32⟩ + k)) < 2 ^ 32 :=
    setBits_lt _ _ _ _ (s.getN_lt a) (by omega)
  have h3 : bits (setBits (s.getN a) 0 32 (satU 32 (s.fld a ⟨0, 32⟩ + k))) 0 32 =
      setBits (s.getN a) 0 32 (satU 32 (s.fld a ⟨0, 32⟩ + k)) := by
    unfold bits; simp; omega
  rw [Nat.mod_eq_of_lt h2, ← h3, h1]
  unfold State.fld
  rw [show (⟨0, 32⟩ : Fld).lo = 0 from rfl, show (⟨0, 32⟩ : Fld).w = 32 from rfl, hb]
  unfold satU
  omega

/-- What a command answers keeps what no command reaches. -/
@[simp] theorem seal_part (t : State) : (s.seal t).part = s.part := rfl
@[simp] theorem seal_pending (t : State) : (s.seal t).pending = s.pending := rfl
@[simp] theorem seal_flash (t : State) : (s.seal t).flash = s.flash := rfl
@[simp] theorem seal_raw (t : State) : (s.seal t).otp.raw = s.otp.raw := rfl

end Sys2Proof.Machine
end

