-- ==== Sys2Proof/Machine/Pins.lean ====
section
/-! DEFINITION. The level of every output ball that holds a state rather than carrying events (R254, R255, R598 to R605). -/
namespace Sys2Proof.Machine

/-- What an output ball does. -/
inductive PinLevel where
  /-- High impedance; a port ball with the pull-down of R598. -/
  | highZ
  /-- Driven low. -/
  | low
  /-- Driven high. -/
  | high
  /-- Driven to its inactive level: low in Type S, P below N in Type L (R257). -/
  | inactive
  /-- Driven active. -/
  | active
  /-- Terminated, as the back-channel pair is (R254). -/
  | terminated
  /-- An open-drain ball sunk by the device. -/
  | sunk
  /-- An open-drain ball released by the device. -/
  | released
  /-- No current, no swing, or electrical idle. -/
  | quiet
  /-- Carries the events of the trace. -/
  | inUse
  /-- A supply that is on (R599). -/
  | on
  /-- A supply at 0 V. -/
  | off
  deriving DecidableEq, Repr

/-- The columns of R605: without power or in lockout, in reset, and from the release of the controller die on. -/
inductive PinPhase where
  | unpowered | reset | running
  deriving DecidableEq, Repr

def State.pinPhase (s : State) : PinPhase :=
  if !s.pw.good then .unpowered
  else if s.fld R.SYS_BOOT_STAT F.SYS_BOOT_STAT_STAGE = 0 then .reset
  else .running

/-- A ball by phase: its states unpowered, in reset and running. -/
def State.pinBy (s : State) (unpowered reset running : PinLevel) : PinLevel :=
  match s.pinPhase with
  | .unpowered => unpowered
  | .reset => reset
  | .running => running

/-- The same for a ball whose boundary-scan cell observes only: it keeps its reset state while the TAP holds an IEEE 1149.1
instruction (R604). -/
def State.pinScan (s : State) (unpowered reset running : PinLevel) : PinLevel :=
  s.pinBy unpowered reset (if s.scan then reset else running)

/-- PRINT_PERMIT: sunk whenever R38 does not release it (R38, R600). -/
def State.pinPrintPermit (s : State) : PinLevel := s.pinScan .highZ .sunk (if s.permit then .released else .sunk)

/-- CAP_REQ: asserted when the device sinks it (R516, R603). -/
def State.pinCapReq (s : State) : PinLevel :=
  s.pinBy .highZ .released (if s.bit R.PWR_STAT F.PWR_STAT_CAP_REQ then .sunk else .released)

/-- FIRE_EN of port `n`: active only under R284, else driven low; low through its pull-down without power (R598). -/
def State.pinFireEn (s : State) (n : Nat) : PinLevel := s.pinScan .low .low (if s.fireEn n then .active else .low)

/-- TZ0 and TZ1 of a Type S port, bit `j` of the zone being measured (R276). -/
def State.pinZone (s : State) (n j : Nat) : PinLevel :=
  if (s.portAt n).tsZone / 2 ^ j % 2 = 1 then .high else .low

/-- The function of a ball of a Type S port (R254): pair 0 carries the clocks, the P balls of 1 to 8 data and strobes, the N balls of
1 and 2 the zone address; the N balls of 3 to 8 are driven low; pair 9 carries LATCH. -/
def State.pinTypeS (s : State) (n pair : Nat) (pBall : Bool) : PinLevel :=
  if pBall ∨ pair = 0 ∨ pair = 9 then .inUse
  else if pair = 1 then s.pinZone n 0
  else if pair = 2 then s.pinZone n 1
  else .low

/-- A shared ball of port `n`, P or N of pair 0 to 9 (R253, R254, R257, R605): as in reset while TYPE is 0; inactive in OFF. -/
def State.pinPair (s : State) (n pair : Nat) (pBall : Bool) : PinLevel :=
  let off := (s.portAt n).st = .off
  s.pinScan .highZ .highZ (match s.portType n with
    | 1 => if off then .low else s.pinTypeS n pair pBall
    | 2 => if pair = 9 then .terminated else if off then .inactive else .inUse
    | _ => .highZ)

/-- Whether the two-wire bus and TSENSE of port `n` are in use: Type S, from DETECT on (R255, R605). -/
def State.typeSBus (s : State) (n : Nat) : Bool := s.portType n = 1 && (s.portAt n).st ≠ .off

/-- HSCL and HSDA of port `n`: released until a Type S port enters DETECT (R255, R605). -/
def State.pinBus (s : State) (n : Nat) : PinLevel := s.pinBy .highZ .released (if s.typeSBus n then .inUse else .released)

/-- TSENSE of port `n`: no current until a Type S port enters DETECT (R255, R605). -/
def State.pinTsense (s : State) (n : Nat) : PinLevel := s.pinBy .quiet .quiet (if s.typeSBus n then .inUse else .quiet)

/-- V3P3_OUT: on whenever the device is powered, in reset and PARK too (R599). -/
def State.pinV3p3 (s : State) : PinLevel := s.pinBy .off .on .on

/-- The PCIe transmitters: electrical idle until the link trains (R605). -/
def State.pinPcie (s : State) : PinLevel := s.pinBy .highZ .quiet (if s.linkUp then .inUse else .quiet)

/-- CLKREQ#: sunk (R605). -/
def State.pinClkreq (s : State) : PinLevel := s.pinBy .highZ .sunk .sunk

/-- The Mboca transmitters: quiet until READY (R539, R605). -/
def State.pinMboca (s : State) : PinLevel := s.pinBy .highZ .quiet (if s.ready then .inUse else .quiet)

/-- ACLK of channel `k`: driven high from READY; in use while an absolute word is read (R66, R598, R605). -/
def State.pinAclk (s : State) (k : Nat) : PinLevel :=
  s.pinBy .highZ .highZ (if !s.ready then .highZ else if (s.encAt k).reading then .inUse else .high)

/-- TDO: high impedance outside Shift-DR and Shift-IR (R605). No command shifts a register of the JTAG port: DESIGN CHOICE, log entry 64. -/
def State.pinTdo (_ : State) : PinLevel := .highZ

/-- The QSPI balls: driven by the boot ROM from 20 ms after VMAIN good (R535, R605, R606). -/
def State.pinQspi (s : State) : PinLevel :=
  let rom := decide (3 ≤ s.fld R.SYS_BOOT_STAT F.SYS_BOOT_STAT_STAGE) && decide (s.pw.goodAt + 40000000 ≤ s.now)
  s.pinBy .highZ .highZ (if rom then .inUse else .highZ)

end Sys2Proof.Machine
end

