-- ==== Sys2Proof/Tests/Slice0.lean ====
section
/-! SUPPORT. Tests of the model: for each clause of each statement a state and operands that meet its premises, ill-formed
commands that WellFormed refuses, and single commands with values taken from the rules. -/

namespace Sys2Proof.Tests
open Sys2Proof Sys2Proof.Machine

def z : State := State.reset
def zz : State :=
    { z with mode := .print, flash := [(5, 1)], pw := { good := true }, linkUp := true, vecs := [(0, { due := some 3 })] }.setN R.SYS_HOST_AP 5
def parkS (k : Nat) : State :=
  { z with mode := .park, pw := { good := true, parkAt := some 8000 } }.setFld R.PWR_STAT F.PWR_STAT_PARK_STEP k
def encS (k : Nat) (e : Enc) : State := { z with enc := [(k, e)] }
def rowS (i : Nat) (q : List Entry) : State := { z with rows := [(i, { queue := q })] }
def lineE : Entry := { ts := 20000, line := 3, lead := 100 }
def sqS : State := (((({ z with rows := [(5, { period := 300, pspec := 100, live := true })] } : State).setBit R.NZP_SQ_CFG
    F.NZP_SQ_CFG_SQ_EN true).setFld
  R.NZP_SQ_CFG F.NZP_SQ_CFG_SQ_TOL 100).setBit (R.NZP_TH_CFG 2) F.NZP_TH_CFG_TM_EN true)
def lockS : State :=
  { z with mode := .print, ports := [(0, { plane := some 0, maps := [{ npr := 2 }] })], chip := [(stageAddr 0 3, 5)],
           rows := [(0,
    { queue := [lineE], staged := [{ line := 3, imgOk := true, warmOk := true }] })]
    }.setFld (R.NZP_MAP_CFG 0) F.NZP_MAP_CFG_NPR 2 |>.setN R.MEM_RET 0x1F0000
def curS : State := ({ z with rows := [(0, { live := true })], planes := [(0, { done := 1, job := some {} })] } :
    State).setFld (R.DCT_PLANE_END_LO 0) ⟨0, 32⟩ 100
def probeQ : Probe := { h := 0, line := 4, fired := true }
def feS : State := (z.setBit (R.DCT_LOOP_CFG 0 0) F.DCT_LOOP_CFG_EN true).setFld (R.DCT_LOOP_SAT 0 0) F.DCT_LOOP_SAT_FE_CNT
    2501

def btw : Between := { dt := 100, d0 := 5, d1 := 7, num := 32 }
def absI : AbsIn := { word := 5, ew := 0, crc := 0, cap := btw, done := 2000 }
def portS (n : Nat) (ty : Nat) (p : Port) : State := ({ z with ports := [(n, p)] } : State).setFld (R.HP_CFG n) F.HP_CFG_TYPE
    ty
def qpS (q : Nat) (x : Qp) : State := { z with qps := [(q, x)] }.setBit R.SYS_MODE F.SYS_MODE_READY true
def chS (c st : Nat) (x : Chan) : State := ({ z with chans := [(c, x)] } : State).setFld (R.DMA_CH_STAT c)
    F.DMA_CH_STAT_STATE st
def planeS (p : Nat) (x : Plane) : State := { z with planes := [(p, x)] }
def scrS : State := (((planeS 7 { job := some { lastLine := 9 }, avail := 5 }).setN (R.SCR_PLANE_CFG 7) 0x86).setN
  (R.SCR_PLANE_WIDTH 7) 8).setN (R.SCR_PLANE_PAGE 7) 100
def d1 : Desc := { srcSp := 1, dstSp := 1, srcP := [(0, 8)], dstP := [(64, 8)], last := true }
def d0 : Desc := { srcSp := 0, dstSp := 1, srcP := [(0, 8)], dstP := [(64, 8)], seq := 1 }
def regionS : State := z
def aw0 : Await := { pcnt := 7, line := 1, ts := 2, kind := .line }
def bcS (st : PortState) : State := portS 31 2 { st := st, mgmtPend := [5] }
def awS : State := { bcS .attached with rows := [(63, { await := [aw0] })] }
def trimF : TrimFrame := { lane := 1, seq := 9, first := 0, count := 1, row := 0, at_ := 0, tries := 3 }
def nop (n : Nat) : List Nat := List.replicate n 0
def tsV : Int := 69447
def regS : State := (z.setN (R.MEM_RGN_BASE 2 15) (0xF00003)).setN (R.MEM_RGN_LIM 2 15) 0xF00000
def regM (m r lo hi : Nat) (s : State) : State :=
  ((s.setN (R.MEM_RGN_BASE m r) (lo * 0x1000 + 7)).setN (R.MEM_RGN_LIM m r) (hi * 0x1000)).setN R.MEM_RET 0x1F0000
def fr (b : State) (m : Mode) (c : Cmd) : State :=
  { b with mode := m, qps := [(31, { st := 1, mode := 1, sq := [c] })] }.setBit R.SYS_MODE F.SYS_MODE_READY true
def chnS (a b : MPort) (c : Chain) : State := { z with chain := { c with ports := [a, b] } }.setBit R.SYS_MODE
    F.SYS_MODE_READY true
def joinS (a b : MPort) (c : Chain) : State := (chnS a b c).setN R.CHN_CFG 0x203
def upP : MPort := { run := true, lock := true, up := true }
def fB (ty src : Nat) (payload : List Nat) : MFrame := { bytes := frameBytes ty src 0 0 0xFF 0 payload }
def synF : MFrame :=
  { fB 0x11 3 (leBytes 2 7 ++ List.replicate 9 0 ++ leBytes 8 110 ++ [0] ++ leBytes 8 120 ++ [0] ++ [2]) with t2 := 2040 }
def recB : List Nat := List.replicate 256 0
def pk (a : Nat) (body : List Nat) : List Nat := [0x5A, 0x3C, a, 0] ++ body ++ leBytes 2 (crc16 ([a, 0] ++ body))
def pkT : List Nat := [1, 0, 2, 0, 3, 0, 4, 0, 5, 0, 6, 0, 7, 0, 8, 0]
def pkBad : List Nat := [0x5A, 0x3C, 3, 0, 0, 0]
def pkL : BcIn := { ty := 5, pcnt := 15, status := 15, lock := 15 }
def logE : Ev := { code := 0x1003, obj := 0, at_ := 0 }
def openArgs : List Nat := [0, 0, 2, 0, 10, 1, 0, 0] ++ leBytes 8 0 ++ leBytes 4 10 ++ leBytes 4 100 ++ leBytes 2 0 ++ [0,
    0] ++ leBytes 8 0
def openS : State := (planeS 0 { defined := true }).setN (R.SCR_PLANE_WIDTH 0) 8
def openL : StoredJob := { no := 0, fmt := 2, width := 8, page := 100, gap := 0, jobLines := 0, base := 0, imgLines := 10 }
def cOf (op : Nat) (args : List Nat) : Cmd := { op := op, args := args }
def synX : Int := 772
def synY : Int := 892
def printS : State := { z with planes := [(0, { defined := true })] }
/-- A word that no burn has touched meets no clash. -/
theorem otpClash_blank (s : State) (w v : Nat) (h : s.otp.raw = []) : s.otpClash w v = false := by
  simp [State.otpClash, otpVal, h, cellGet]

/-! Witnesses of the premises of the statements, one for each clause. -/
theorem wit_WellFormedCompletes_2 : ∃ (s : State) (i : Nat), s.nRows ≤ i :=
  ⟨z, 64, by decide⟩
theorem wit_WellFormedCompletes_3 : ∃ (s : State) (n : Nat), s.part.ports ≤ n :=
  ⟨z, 32, by decide⟩
theorem wit_WellFormedCompletes_4 : ∃ (k : Nat), 4 ≤ k :=
  ⟨4, by decide⟩
theorem wit_WellFormedCompletes_5 : ∃ (p : Nat), 8 ≤ p :=
  ⟨8, by decide⟩
theorem wit_WellFormedCompletes_6 : ∃ (q : Nat), 32 ≤ q :=
  ⟨32, by decide⟩
theorem wit_WellFormedCompletes_7 : ∃ (c : Nat), 64 ≤ c :=
  ⟨64, by decide⟩
theorem wit_WellFormedCompletes_8 : ∃ (pt : Nat), 2 ≤ pt :=
  ⟨2, by decide⟩
theorem wit_SupplyRows_1 : ∃ (s : State), s.pw.good = false :=
  ⟨z, by decide⟩
theorem wit_SupplyRows_2 : ∃ (s : State) (vb : Nat), s.pw.good = true ∧ s.bit R.PWR_STAT F.PWR_STAT_SUPPLY = false ∧
    9000 ≤ vb ∧ s.mode ≠ .park :=
  ⟨{ z with pw := { good := true } }, 9000, by decide⟩
theorem wit_SupplyRows_3 : ∃ (s : State), s.bit R.PWR_STAT F.PWR_STAT_SUPPLY = true :=
  ⟨z.setBit R.PWR_STAT F.PWR_STAT_SUPPLY true, by decide⟩
theorem wit_SupplyRows_4 : ∃ (s : State), s.bit R.PWR_STAT F.PWR_STAT_SUPPLY = true :=
  ⟨z.setBit R.PWR_STAT F.PWR_STAT_SUPPLY true, by decide⟩
theorem wit_ParkRows_1 : ∃ (s : State), s.pw.good = true ∧ s.mode ≠ .park :=
  ⟨{ z with mode := .print, pw := { good := true } }, by decide⟩
theorem wit_ParkRows_2 : ∃ (s : State), s.pw.good = true :=
  ⟨{ z with pw := { good := true } }, by decide⟩
theorem wit_ParkRows_3 : ∃ (s : State), s.pw.parkPend = true :=
  ⟨{ z with mode := .config, dt := 12345, pw := { parkPend := true, parkTrig := 12000 } }, by decide⟩
theorem wit_ParkRows_4 : ∃ (s : State) (tp : Nat), s.pw.parkAt = some tp ∧ s.mode = .park ∧
    s.fld R.PWR_STAT F.PWR_STAT_PARK_STEP = 1 :=
  ⟨parkS 1, 8000, by decide⟩
theorem wit_ParkRows_5 : ∃ (s : State) (tp : Nat), s.pw.parkAt = some tp ∧ s.mode = .park ∧
    s.fld R.PWR_STAT F.PWR_STAT_PARK_STEP = 6 :=
  ⟨parkS 6, 8000, by decide⟩
theorem wit_ParkRows_6 : ∃ (s : State), s.pw.exiting = true :=
  ⟨{ z with mode := .park, pw := { exiting := true, parkAt := some 0 } }, by decide⟩
theorem wit_IdleRows_1 : ∃ (s : State), s.pw.idleDelay ≠ 0 ∧ s.pw.parkPend = false ∧ s.mode = .config :=
  ⟨{ z with mode := .config, pw := { idleDelay := 1 } }, by decide⟩
theorem wit_IdleRows_2 : ∃ (s : State), s.mode = .service ∧ s.pw.idleDelay ≠ 0 ∧
    s.ports.any (fun p => p.2.spit.isSome || p.2.sweep.isSome) = false :=
  ⟨{ z with mode := .service, pw := { idleDelay := 1 } }, by decide⟩
theorem wit_IdleRows_3 : ∃ (s : State) (ev : Option Nat), s.mode = .idle ∧ s.pw.wake = none ∧ s.pw.wakeAt = none ∧
    s.pw.entering = none ∧ s.pw.logic = false ∧ s.selectSub ((firstEvent (s.knownEvents ev)).map (·.1)) = s.pw.sub :=
  ⟨{ z with mode := .idle, pw := { sub := 1 } }, none, by decide⟩
theorem wit_IdleRows_4 : ∃ (s : State) (m : Mode), s.mode = .idle ∧ s.pw.entering = none ∧ s.pw.logic = false ∧
    s.pw.wakeAt = none ∧ s.pw.wake = some m ∧ s.pw.sub < 2 :=
  ⟨{ z with mode := .idle, pw := { sub := 1, wake := some .config } }, .config, by decide⟩
theorem wit_IdleRows_5 : ∃ (s : State) (m : Mode) (w : Nat), s.pw.wakeAt = some w ∧ s.pw.wake = some m ∧ m ≠ .idle :=
  ⟨{ z with mode := .idle, pw := { wake := some .print, wakeAt := some 4000 } }, .print, 4000, by decide⟩
theorem wit_FaultStopRows_1 : ∃ (c : Instr), (c = .quillWatchdogExpiry ∨ c = .loopParityError) :=
  ⟨.loopParityError, by decide⟩
theorem wit_StartRows_1 : ∃ (s : State), s.pw.good = true ∧ s.stage = 0 :=
  ⟨{ z with pw := { good := true } }, by decide⟩
theorem wit_StartRows_2 : ∃ (s : State), s.stage = 1 :=
  ⟨z.setStage 1, by decide⟩
theorem wit_StartRows_3 : ∃ (s : State), s.stage = 2 :=
  ⟨z.setStage 2, by decide⟩
theorem wit_StartRows_4 : ∃ (s : State), 3 ≤ s.stage ∧ s.bit R.CAL_STAT F.CAL_STAT_DONE = false :=
  ⟨z.setStage 3, by decide⟩
theorem wit_StartRows_6 : ∃ (s : State), s.stage = 5 ∧ s.bit R.CAL_STAT F.CAL_STAT_DONE = true :=
  ⟨(z.setStage 5).setBit R.CAL_STAT F.CAL_STAT_DONE true, by decide⟩
theorem wit_StartRows_7 : ∃ (s : State), s.stage = 6 ∧ s.mode = .boot ∧ s.pw.parkPend = false :=
  ⟨z.setStage 6, by decide⟩
theorem wit_StartRows_9 : ∃ (s : State), s.perst = true ∧ 1 ≤ s.stage :=
  ⟨({ z with perst := true } : State).setStage 1, by decide⟩
theorem wit_TickRows_3 : ∃ (s : State) (i : Nat), i < s.nRows ∧
    max 1 (s.fld R.DCT_SHARE_CFG F.DCT_SHARE_CFG_SET_HOLD) ≤ (s.rowAt i).shareCnt :=
  ⟨z.modRow 63 (fun x => { x with shareCnt := 400 }), 63, by decide⟩
theorem wit_TickRows_4 : ∃ (s : State) (i : Nat), i < s.nRows ∧ s.bit R.NZP_SQ_CFG F.NZP_SQ_CFG_SQ_EN = true ∧
    (s.rowAt i).period ≠ 0xFFFFFFFF ∧
    s.fld R.NZP_SQ_CFG F.NZP_SQ_CFG_SQ_TOL * (s.rowAt i).pspec < (((s.rowAt i).period : Int) - (s.rowAt i).pspec).natAbs *
    10000 ∧ s.tmEn (i / 2) = true :=
  ⟨sqS, 5, by decide⟩
theorem wit_OverrunStopsAdmission_1 : ∃ (s : State), s.overDue = true :=
  ⟨{ z with overDue := true }, by decide⟩
theorem wit_EncoderStateRows_1 : ∃ (s : State) (k : Nat) (c : Nat), k < 4 ∧ (s.encAt k).st = .track ∧
    (s.encAt k).lossDue = some c :=
  ⟨encS 3 { st := .track, lossDue := some 2 }, 3, 2, by decide⟩
theorem wit_EncoderStateRows_2 : ∃ (s : State) (k : Nat), k < 4 ∧ (s.encAt k).st = .track ∧ (s.encAt k).lossDue = none ∧
    (s.encAt k).freezeDue = true :=
  ⟨encS 0 { st := .track, freezeDue := true }, 0, by decide⟩
theorem wit_EncoderStateRows_3 : ∃ (s : State) (k : Nat) (n : Int), k < 4 ∧ (s.encAt k).st = .coast ∧
    (s.encAt k).recovDue = some n :=
  ⟨encS 1 { st := .coast, recovDue := some (-2) }, 1, -2, by decide⟩
theorem wit_EncoderStateRows_4 : ∃ (s : State) (k : Nat), k < 4 ∧ (s.encAt k).st = .track ∧ (s.encAt k).lossDue = none ∧
    (s.encAt k).faultDue = true :=
  ⟨encS 1 { st := .track, faultDue := true }, 1, by decide⟩
theorem wit_EncoderStateRows_5 : ∃ (s : State) (k : Nat), k < 4 ∧ (s.encAt k).st = .fault ∧ 16 ≤ (s.encAt k).goodTicks ∧
    s.fld (R.ENC_FE k) F.ENC_FE_FE_TIME ≤ (s.encAt k).feGood ∧ s.encAbs k = 0 :=
  ⟨encS 3 { st := .fault, goodTicks := 16, feGood := 1000 }, 3, by decide⟩
theorem wit_EncoderStateRows_6 : ∃ (s : State) (k : Nat), k < 4 ∧ (s.encAt k).st = .qualify ∧ 16 ≤ (s.encAt k).goodRun :=
  ⟨encS 2 { st := .qualify, goodRun := 16 }, 2, by decide⟩
theorem wit_EncoderStateRows_7 : ∃ (s : State) (k : Nat), k < 4 ∧ (s.encAt k).st = .qualify ∧ (s.encAt k).goodRun < 16 :=
  ⟨encS 2 { st := .qualify, goodRun := 15 }, 2, by decide⟩
theorem wit_EncoderStateRows_8 : ∃ (s : State) (k : Nat), k < 4 ∧ 64 ≤ (s.encAt k).revAge :=
  ⟨encS 2 { revAge := 64, reversed := true }, 2, by decide⟩
theorem wit_EncoderStateRows_9 : ∃ (s : State) (m : Master) (k : Nat), k < 4 ∧ s.mayWrite m (R.ENC_CFG k) = true ∧
    s.encMode k ≠ 0 :=
  ⟨(encS 3 { st := .track }).setFld (R.ENC_CFG 3) F.ENC_CFG_MODE 1, .quill, 3, by decide⟩
theorem wit_EncoderStateRows_10 : ∃ (s : State) (m : Master) (k : Nat), k < 4 ∧ s.mayWrite m (R.ENC_CFG k) = true ∧
    s.encMode k ≠ 0 ∧ (s.encAt k).st = .off ∧ bits s.cal.enc k 1 = 1 :=
  ⟨{ z.setFld (R.ENC_CFG 3) F.ENC_CFG_MODE 1 with cal := { enc := 8 } }, .quill, 3, by decide⟩
theorem wit_EncoderAbsoluteRows_1 : ∃ (s : State) (k : Nat) (r : AbsIn), k < 4 ∧ (s.encAt k).st = .track ∧
    (s.encAt k).reading = true ∧ s.absValid k r = true ∧ s.absLate k r = false :=
  ⟨((encS 1 { st := .track, reading := true }).setFld (R.ENC_CFG 1) F.ENC_CFG_ABS 1).setFld (R.ENC_ABS_CFG 1)
    F.ENC_ABS_CFG_BITS 8 |>.setFld (R.ENC_ABS_CFG 1) F.ENC_ABS_CFG_TIMEOUT 1, 1, absI, by decide⟩
theorem wit_EncoderAbsoluteRows_2 : ∃ (s : State) (k : Nat), k < 4 ∧ (s.encAt k).st = .track ∧ (s.encAt k).reading = true :=
  ⟨encS 1 { st := .track, reading := true }, 1, by decide⟩
theorem wit_EncoderAbsoluteRows_3 : ∃ (s : State) (k : Nat), k < 4 ∧ (s.encAt k).st = .track ∧ s.encAbs k ≠ 0 ∧
    s.fld (R.ENC_ABS_CHK k) F.ENC_ABS_CHK_INTERVAL ≠ 0 ∧ (s.encAt k).reading = false :=
  ⟨((encS 1 { st := .track }).setFld (R.ENC_CFG 1) F.ENC_CFG_ABS 1).setFld (R.ENC_ABS_CHK 1) F.ENC_ABS_CHK_INTERVAL 1, 1,
    by decide⟩
theorem wit_EncoderAbsoluteRows_4 : ∃ (s : State) (k : Nat) (c : AbsCap), k < 4 ∧ (s.encAt k).st = .absRead ∧
    (s.encAt k).caps = [c] ∧ (s.encAt k).reading = false :=
  ⟨encS 1 { st := .absRead, caps := [{ yAbs := 1, pos := 1, phase := 0, done := 0 }] }, 1,
    { yAbs := 1, pos := 1, phase := 0, done := 0 }, by decide⟩
theorem wit_EncoderAbsoluteRows_5 : ∃ (s : State) (k : Nat), k < 4 ∧ (s.encAt k).st = .absRead ∧ (s.encAt k).requal = true :=
  ⟨encS 1 { st := .absRead, requal := true }, 1, by decide⟩
theorem wit_EncoderAbsoluteRows_6 : ∃ (s : State) (k : Nat) (i : EdgeIn), k < 4 ∧ bits s.cal.enc k 1 = 1 ∧
    s.bit (R.ENC_CFG k) F.ENC_CFG_IDX_EN = true ∧ i.rising = !s.bit (R.ENC_IDX_CFG k) F.ENC_IDX_CFG_EDGE ∧ 200 ≤ i.held :=
  ⟨{ z.setBit (R.ENC_CFG 0) F.ENC_CFG_IDX_EN true with cal := { enc := 1 } }, 0, { at_ := btw }, by decide⟩
theorem wit_LockPointRows_1 : ∃ (s : State) (i : Nat) (e : Entry) (codes : List Nat), i < s.nRows ∧
    (s.rowAt i).queue.find? (fun x => !x.locked) = some e ∧ e.kind = .line ∧ (s.portAt (i / 2)).plane ≠ none ∧
    (s.portAt (i / 2)).barred = false ∧ ((∀ x ∈ (s.rowAt (pairRow i)).queue, x.locked = true)) ∧
    (s.advTo (e.ts - 16000)).blankCause (i / 2) e = none ∧ (s.advTo (e.ts - 16000)).decideCodes i e = (some codes, false) ∧
    codes.all (fun c => decide (c = 0)) = false ∧
    (s.advTo (e.ts - 16000)).ewOver (i / 2) e.ts ((s.advTo (e.ts - 16000)).energyOf (i / 2) codes) = false :=
  ⟨lockS, 0, lineE, [1, 1], by decide⟩
theorem wit_LockPointRows_2 : ∃ (s : State) (i : Nat) (c : Nat) (e : Entry), i < s.nRows ∧
    (s.rowAt i).queue.find? (fun x => !x.locked) = some e ∧ e.kind = .line ∧ ((∀ x ∈ (s.rowAt (pairRow i)).queue,
    x.locked = true)) ∧ (s.advTo (e.ts - 16000)).blankCause (i / 2) e = some c :=
  ⟨{ lockS with mode := .config }.setN R.SYS_ADMIT_STOP 0, 0, 9, lineE, by decide⟩
theorem wit_StrobeRows_1 : ∃ (s : State) (i : Nat) (e : Entry), i < s.nRows ∧ (s.portAt (i / 2)).st ≠ .off ∧
    (s.rowAt i).queue.find? (fun x => x.locked && !x.sent) = some e :=
  ⟨(rowS 63 [{ lineE with locked := true }]).modPort 31 (fun p => { p with st := .attached, plane := some 0 }), 63,
    { lineE with locked := true }, by decide⟩
theorem wit_StrobeRows_2 : ∃ (s : State) (i : Nat) (e : Entry), i < s.nRows ∧ s.portType (i / 2) = 1 ∧
    (s.portAt (i / 2)).st ≠ .off ∧ (s.rowAt i).queue.find? (fun x => x.locked && x.sent && !x.latched) = some e :=
  ⟨((rowS 62 [{ lineE with locked := true, sent := true }]).modPort 31 (fun p =>
    { p with st := .attached, plane := some 0 })).setFld (R.HP_CFG 31) F.HP_CFG_TYPE 1, 62,
    { lineE with locked := true, sent := true }, by decide⟩
theorem wit_StrobeRows_3 : ∃ (s : State) (i : Nat) (e : Entry) (rest : List Entry), i < s.nRows ∧
    (s.rowAt i).queue = e :: rest ∧ e.locked = true ∧ ((s.portType (i / 2) = 1 → e.latched = true)) ∧ e.kind = .line ∧
    (s.portAt (i / 2)).plane ≠ none ∧ (s.portAt (i / 2)).st ≠ .off ∧ s.guardStops i e = false :=
  ⟨(rowS 63 [{ lineE with locked := true, sent := true }]).modPort 31 (fun p => { p with st := .attached, plane := some 0 }),
    63, { lineE with locked := true, sent := true }, [], by decide⟩
theorem wit_StrobeRows_4 : ∃ (s : State) (i : Nat) (e : Entry) (rest : List Entry), i < s.nRows ∧
    (s.rowAt i).queue = e :: rest ∧ e.locked = true ∧ ((s.portType (i / 2) = 1 → e.latched = true)) ∧ e.kind = .line ∧
    (s.portAt (i / 2)).plane ≠ none ∧ (s.portAt (i / 2)).st ≠ .off ∧ s.guardStops i e = true :=
  ⟨((rowS 63 [{ lineE with locked := true, sent := true }]).modPort 31 (fun p =>
    { p with st := .attached, plane := some 0 })).modRow 63 (fun x => { x with lastFired := some 20000 }), 63,
    { lineE with locked := true, sent := true }, [], by decide⟩
theorem wit_StrobeRows_5 : ∃ (s : State) (i : Nat) (a : Await) (rest : List Await), i < s.nRows ∧
    (s.rowAt i).await = a :: rest :=
  ⟨z.modRow 0 (fun x => { x with await := [{ pcnt := 0, line := 1, ts := 2, kind := .line }] }), 0,
    { pcnt := 0, line := 1, ts := 2, kind := .line }, [], by decide⟩
theorem wit_StrobeRows_6 : ∃ (s : State) (n : Nat), n < s.part.ports :=
  ⟨z, 31, by decide⟩
theorem wit_CursorMapRows_1 : ∃ (s : State) (i : Nat), i < s.nRows ∧ (s.cursorSkip i).cursorMay i = true ∧
    (((s.cursorSkip i).probeAt (i / 2) ((s.cursorSkip i).rowPlane i) ((s.cursorSkip i).rowAt i).cursor).opuEval (i / 2)
    ((s.cursorSkip i).rowAt i).cursor).1 = false :=
  ⟨curS, 0, by decide⟩
theorem wit_CursorMapRows_2 : ∃ (s : State) (m : Master) (p : Nat), p < 8 ∧ s.mayWrite m (R.NZP_PLANE_CTL p) = true ∧
    (s.planeAt p).pending = false :=
  ⟨z, .quill, 7, by decide⟩
theorem wit_CursorMapRows_3 : ∃ (s : State) (p : Nat), p < 8 ∧ s.bit (R.NZP_PLANE_CTL p) F.NZP_PLANE_CTL_COMMIT = true :=
  ⟨(z.modPlane 7 (fun x => { x with pending := true })).setBit (R.NZP_PLANE_CTL 7) F.NZP_PLANE_CTL_COMMIT true, 7, by decide⟩
theorem wit_CursorMapRows_4 : ∃ (s : State) (n : Nat) (q : Probe) (g : GateIn), n < s.part.ports ∧
    (s.portAt n).flying.find? (fun x => x.fired || x.void) = some q ∧ q.fired = true ∧ q.void = false ∧ q.retry = false ∧
    q.line ≠ 2 ^ 48 - 2 ∧ (s.portAt n).clsPend = false ∧ g.base < 10 * s.fld (R.DGV_TH n) F.DGV_TH_BASE_MIN :=
  ⟨z.modPort 31 (fun x => { x with flying := [probeQ] }), 31, probeQ, { base := 0 }, by decide⟩
theorem wit_CursorMapRows_5 : ∃ (s : State) (n : Nat) (e : Nat), n < s.part.ports ∧ (s.portAt n).barAfter = some e ∧
    ((∀ i ∈ [2 * n, 2 * n + 1], (s.rowAt i).live = false ∨ e < (s.rowAt i).undecided)) :=
  ⟨z.modPort 31 (fun x => { x with barAfter := some 9 }), 31, 9, by decide⟩
theorem wit_CursorMapRows_6 : ∃ (s : State) (m : Master) (n : Nat), n < s.part.ports ∧ s.mayWrite m (R.DGV_SVC n) = true ∧
    s.mode = .service ∧ (s.portAt n).st = .attached ∧ s.bit (R.DGV_CFG n) F.DGV_CFG_EN = true ∧ (s.portAt n).sweep = none :=
  ⟨(({ z with mode := .service } : State).modPort 31 (fun x => { x with st := .attached })).setBit (R.DGV_CFG 31)
    F.DGV_CFG_EN true, .quill, 31, by decide⟩
theorem wit_PlaneThermalRows_1 : ∃ (s : State) (m : Master) (p : Nat), p < 8 ∧ s.mayWrite m (R.DCT_PLANE_CTL p) = true :=
  ⟨z, .quill, 7, by decide⟩
theorem wit_PlaneThermalRows_2 : ∃ (s : State) (m : Master) (p : Nat), p < 8 ∧ s.mayWrite m (R.DCT_PLANE_CTL p) = true :=
  ⟨z, .quill, 7, by decide⟩
theorem wit_PlaneThermalRows_3 : ∃ (s : State) (n : Nat) (z : Nat), n < s.part.ports ∧ s.loopEn n z = true ∧
    s.tfeTime < s.fld (R.DCT_LOOP_SAT n z) F.DCT_LOOP_SAT_FE_CNT ∧ (s.zoneAt n z).fe = false :=
  ⟨feS, 0, 0, by decide⟩
theorem wit_PlaneThermalRows_4 : ∃ (s : State) (m : Master) (n : Nat), n < s.part.ports ∧ s.mayWrite m R.DCT_THERM_BLK = true ∧
    s.thermOk n = true :=
  ⟨((z.modZone 31 7 (fun x => { x with okRun := 2500 })).setBit (R.DCT_LOOP_CFG 31 7) F.DCT_LOOP_CFG_EN true).setBit
    R.DCT_THERM_BLK ⟨31, 1⟩ true, .quill, 31, by decide⟩
theorem wit_ScreeningRows_1 : ∃ (s : State) (p : Nat), p < 8 ∧ s.screenMay p = true ∧ s.dramBad = [] :=
  ⟨scrS, 7, by decide⟩
theorem wit_ScreeningRows_2 : ∃ (s : State) (m : Master) (p : Nat) (x : Strip) (rest : List Strip), p < 8 ∧
    s.mayWrite m (R.SCR_PLANE_CTL p) = true ∧ (s.planeAt p).strips = x :: rest ∧ x.qp = none :=
  ⟨planeS 7 { strips := [{ count := 5 }] }, .quill, 7, { count := 5 }, [], by decide⟩
theorem wit_ScreeningRows_3 : ∃ (s : State) (m : Master) (p : Nat), p < 8 ∧ s.mayWrite m (R.SCR_PLANE_CTL p) = true ∧
    (s.planeAt p).strips = [] :=
  ⟨z, .quill, 7, by decide⟩
theorem wit_ScreeningRows_4 : ∃ (s : State) (m : Master) (p : Nat), p < 8 ∧ s.mayWrite m (R.SCR_PLANE_CTL p) = true :=
  ⟨z, .quill, 7, by decide⟩
theorem wit_ScreeningRows_5 : ∃ (s : State) (m : Master) (p : Nat), p < 8 ∧ s.mayWrite m (R.SCR_PLANE_CTL p) = true ∧
    ((s.planeAt p).job.map (fun j => j.st)) ≠ some .running ∧ ((∀ x ∈ (s.planeAt p).strips, x.qp = none)) :=
  ⟨planeS 7 { strips := [{ count := 5 }] }, .quill, 7, by decide⟩
theorem wit_ScreeningRows_6 : ∃ (s : State) (m : Master) (p : Nat), p < 8 ∧ s.mayWrite m (R.SCR_STRIP_PUSH p) = true ∧
    (s.planeAt p).strips.length < 16 :=
  ⟨z, .quill, 7, by decide⟩
theorem wit_ScreeningRows_7 : ∃ (s : State) (m : Master) (p : Nat), p < 8 ∧ s.mayWrite m (R.SCR_PLANE_STAT p) = true ∧
    ((m = .host ∨ (s.planeAt p).stallAt = none)) :=
  ⟨(z.setBit (R.SCR_PLANE_STAT 7) F.SCR_PLANE_STAT_STALL true), .quill, 7, by decide⟩
theorem wit_ScreeningRows_8 : ∃ (s : State) (p : Nat) (w : Nat), p < 8 ∧ s.mayWrite .quill (R.SCR_PLANE_STAT p) = true ∧
    (s.planeAt p).stallAt = some w :=
  ⟨(planeS 7 { stallAt := some 3 }).setBit (R.SCR_PLANE_STAT 7) F.SCR_PLANE_STAT_STALL true, 7, 3, by decide⟩
theorem wit_JobRows_1 : ∃ (s : State) (p : Nat) (j : Job), p < 8 ∧ s.jobReady p = true ∧ (s.planeAt p).job = some j :=
  ⟨{ planeS 7 { job := some { lastLine := 9 }, done := 10 } with mode := .print }, 7, { lastLine := 9 }, by decide⟩
theorem wit_JobRows_2 : ∃ (s : State) (p : Nat) (k : Nat) (j : Job), p < 8 ∧ (s.planeAt p).job = some j ∧ j.armWait = some k ∧
    s.mode = .print :=
  ⟨{ planeS 7 { job := some { armWait := some 3 } } with mode := .print }, 7, 3, { armWait := some 3 }, by decide⟩
theorem wit_JobRows_3 : ∃ (s : State) (p : Nat) (j : Job), p < 8 ∧ (s.planeAt p).job = some j ∧ j.st = .running ∧
    j.armed = true ∧ j.lastLine < s.retiredNow p ∧ j.channel = none :=
  ⟨planeS 7 { job := some { st := .running, armed := true, lastLine := 4 }, retired := 5 }, 7,
    { st := .running, armed := true, lastLine := 4 }, by decide⟩
theorem wit_DmaControlRows_1 : ∃ (s : State) (c : Nat), c < 64 ∧ s.ghalt = false ∧ s.chState c = 0 :=
  ⟨z, 63, by decide⟩
theorem wit_DmaControlRows_2 : ∃ (s : State) (m : Master) (c : Nat), c < 64 ∧ s.mayWrite m (R.DMA_CH_CTL c) = true ∧
    s.ghalt = false ∧ s.chState c = 0 :=
  ⟨z, .quill, 63, by decide⟩
theorem wit_DmaControlRows_3 : ∃ (s : State) (m : Master) (c : Nat), c < 64 ∧ s.mayWrite m (R.DMA_DB_LIMIT c) = true ∧
    s.ghalt = false ∧ s.chState c = 0 :=
  ⟨z, .quill, 63, by decide⟩
theorem wit_DmaControlRows_4 : ∃ (s : State) (c : Nat) (cause : Nat) (d : Desc), c < 64 ∧ s.part = .sxv3200 ∧ s.chState c = 1 ∧
    (s.chanAt c).desc = some d ∧ d.srcSp = 0 ∧ d.srcP ≠ [] ∧ (cause = 1 ∨ cause = 2) :=
  ⟨chS 63 1 { desc := some { srcSp := 0, srcP := [(0, 4)] } }, 63, 1, { srcSp := 0, srcP := [(0, 4)] }, by decide⟩
theorem wit_DmaControlRows_5 : ∃ (s : State) (c : Nat) (d : Desc), c < 64 ∧ s.part = .sxv3200 ∧ s.chState c = 1 ∧
    (s.chanAt c).desc = some d ∧ d.srcP ≠ [] :=
  ⟨chS 63 1 { desc := some { srcSp := 0, srcP := [(0, 4)] } }, 63, { srcSp := 0, srcP := [(0, 4)] }, by decide⟩
theorem wit_DmaControlRows_6 : ∃ (s : State) (m : Master) (c : Nat), c < 64 ∧ s.mayWrite m (R.DMA_CH_CTL c) = true ∧
    s.bit (R.DMA_CH_CTL c) F.DMA_CH_CTL_DISABLE = false ∧ s.chState c < 4 :=
  ⟨chS 63 3 {}, .quill, 63, by decide⟩
theorem wit_DmaControlRows_7 : ∃ (s : State) (c : Nat), c < 64 ∧ s.chState c = 4 ∧
    s.bit (R.DMA_CH_CTL c) F.DMA_CH_CTL_DISABLE = true :=
  ⟨(chS 63 4 {}).setBit (R.DMA_CH_CTL 63) F.DMA_CH_CTL_DISABLE true, 63, by decide⟩
theorem wit_DmaControlRows_8 : ∃ (s : State) (m : Master) (c : Nat), c < 64 ∧ s.mayWrite m (R.DMA_CH_CTL c) = true ∧
    s.bit (R.DMA_CH_CTL c) F.DMA_CH_CTL_DISABLE = true ∧ s.chState c = 5 :=
  ⟨(chS 63 5 {}).setBit (R.DMA_CH_CTL 63) F.DMA_CH_CTL_DISABLE true, .quill, 63, by decide⟩
theorem wit_DmaControlRows_9 : ∃ (s : State) (m : Master), s.mayWrite m R.DMA_GSTAT = true :=
  ⟨z.setBit R.DMA_GSTAT F.DMA_GSTAT_GHALT true, .quill, by decide⟩
theorem wit_DmaDescriptorRows_1 : ∃ (s : State) (c : Nat) (a : Nat) (sp : Nat) (host : Option (List Nat)) (b : List Nat) (ns
    : Bool), c < 64 ∧ s.chState c = 1 ∧ s.chTurn c = true ∧ s.chPtr c = (sp, a) ∧ sp ≠ 3 ∧ s.beyond sp a 32 = false ∧
    ns = s.bit (R.DMA_CH_CFG c) F.DMA_CH_CFG_DESC_NS ∧ (s.spRead sp a 32 host ns).1.toOption = some b ∧
    (s.chanAt c).reread = false ∧
    (((s.chanAt c).first = true ∨ (descOf b).seq = (s.fld (R.DMA_CH_SEQ c) F.DMA_CH_SEQ_SEQ + 1) % 65536)) ∧
    s.descBad (descOf b) = false ∧ (descOf b).srcSg = false ∧ (descOf b).dstSg = false :=
  ⟨chS 63 1 {}, 63, 0, 0, some [], List.replicate 32 0, false, by and_intros <;> decide⟩
theorem wit_DmaDescriptorRows_2 : ∃ (s : State) (c : Nat) (k : Nat) (src : Nat) (dst : Nat) (d : Desc), c < 64 ∧
    s.chState c = 1 ∧ (s.chanAt c).desc = some d ∧ d.srcSp = 1 ∧ d.dstSp = 1 ∧ d.srcP = [(src, k)] ∧ d.dstP = [(dst, k)] ∧
    d.swap = 0 ∧ d.evt = 0 ∧ s.dramBad = [] ∧ s.chRoom c d = true ∧ d.waitAck = false ∧ d.last = true ∧
    s.bit (R.DMA_CH_STAT c) F.DMA_CH_STAT_PEND = false :=
  ⟨chS 63 1 { desc := some d1 }, 63, 8, 0, 64, d1, by decide⟩
theorem wit_DmaDescriptorRows_3 : ∃ (s : State) (c : Nat) (k : Nat) (src : Nat) (dst : Nat) (d : Desc), c < 64 ∧
    s.chState c = 1 ∧ (s.chanAt c).desc = some d ∧ d.srcSp = 0 ∧ d.dstSp = 1 ∧ d.srcP = [(src, k)] ∧ d.dstP = [(dst, k)] ∧
    d.swap = 0 ∧ d.evt = 0 ∧ s.chRoom c d = true ∧ d.waitAck = false ∧ d.last = false ∧
    s.bit (R.DMA_CH_STAT c) F.DMA_CH_STAT_LIMITED = true ∧ d.seq = s.fld (R.DMA_CH_SEQ c) F.DMA_CH_SEQ_LIMIT :=
  ⟨((chS 63 1 { desc := some d0 }).setBit (R.DMA_CH_STAT 63) F.DMA_CH_STAT_LIMITED true).setFld (R.DMA_CH_SEQ 63)
    F.DMA_CH_SEQ_LIMIT 1, 63, 8, 0, 64, d0, by decide⟩
theorem wit_MemoryAccessRows_1 : ∃ (s : State) (a : Nat) (k : Nat), a < 0x1000000 ∧
    s.refusal 0 (a % 0x1000000 + 0x1000000) k true = none ∧ ((k = 4 ∨ k = 8)) :=
  ⟨z, 0, 4, by decide⟩
theorem wit_MemoryAccessRows_2 : ∃ (s : State) (a : Nat) (k : Nat), a < 0x1000000 ∧
    s.refusal 0 (a % 0x1000000 + 0x2000000) k true = none ∧ ((k = 4 ∨ k = 8)) :=
  ⟨z, 0, 8, by decide⟩
theorem wit_MemoryAccessRows_3 : ∃ (s : State) (a : Nat) (k : Nat), 1 ≤ k ∧ k ≤ 64 ∧ a < 0x1000000 ∧
    a / 64 = (a + k - 1) / 64 ∧ s.refusal 2 a k false = none ∧ s.chipFaulty a k = none :=
  ⟨regS, 0xF00000, 4, by decide⟩
theorem wit_MemoryAccessRows_4 : ∃ (a : Nat) (k : Nat), 1 ≤ k ∧ k ≤ 64 ∧ a < 0x1000000 ∧ a / 64 ≠ (a + k - 1) / 64 :=
  ⟨60, 5, by decide⟩
theorem wit_MemoryAccessRows_5 : ∃ (s : State) (off : Nat) (k : Nat), off < 2 ^ 32 ∧ s.dramSr = false ∧
    s.fld R.SYS_HOST_AP F.SYS_HOST_AP_BASE_GIB * 2 ^ 30 + off + k ≤ s.dramSize ∧
    s.dramFaulty (s.fld R.SYS_HOST_AP F.SYS_HOST_AP_BASE_GIB * 2 ^ 30 + off) k = none :=
  ⟨z, 0, 64, by decide⟩
theorem wit_MemoryAccessRows_6 : ∃ (s : State) (off : Nat) (bs : List Nat), off < 2 ^ 32 ∧ s.dramSr = false ∧
    s.fld R.SYS_HOST_AP F.SYS_HOST_AP_BASE_GIB * 2 ^ 30 + off + bs.length ≤ s.dramSize :=
  ⟨z, 5, [1, 2, 3], by decide⟩
theorem wit_MemoryCareRows_1 : ∃ (s : State) (b : Nat) (n : Nat), b < 6 ∧ s.bit R.MEM_SCRUB_CFG F.MEM_SCRUB_CFG_EN = true ∧
    s.awake b ((bankSpan b).1 + (bankSpan b).2 - 1) = true ∧ 0 < n :=
  ⟨z.setBit R.MEM_SCRUB_CFG F.MEM_SCRUB_CFG_EN true, 5, 1, by decide⟩
theorem wit_MemoryCareRows_2 : ∃ (s : State) (w : Nat) (a : Nat), s.bit R.MEM_DRAM_SCRUB F.MEM_DRAM_SCRUB_EN = true ∧
    s.dramSr = false ∧ a = (s.scrubAt 6).win * 512 + w % 512 :=
  ⟨z.setBit R.MEM_DRAM_SCRUB F.MEM_DRAM_SCRUB_EN true, 7, 7, by decide⟩
theorem wit_MemoryCareRows_3 : ∃ (s : State) (m : Master) (sel : Nat), s.mayWrite m R.MEM_BIST_CTL = true ∧
    s.bit R.MEM_BIST_STAT F.MEM_BIST_STAT_BUSY = false ∧ sel < 64 ∧ sel / 32 % 2 = 1 :=
  ⟨z, .quill, 63, by decide⟩
theorem wit_MemoryCareRows_4 : ∃ (s : State) (i : Nat) (w : Nat) (t0 : Nat), s.bist = some (i, w) ∧
    (s.advTo t0).bistMay (bistOrder.getD i 0) = true ∧ w + 1 < bistWindows (bistOrder.getD i 0) :=
  ⟨{ z with bist := some (0, 0) }, 0, 0, 4000, by decide⟩
theorem wit_MemoryCareRows_5 : ∃ (s : State) (m : Master), s.mayWrite m R.MEM_BIST_CTL = true :=
  ⟨z, .quill, by decide⟩
theorem wit_MemoryCareRows_6 : ∃ (s : State) (m : Master) (j : Nat), s.mayWrite m R.MEM_RET = true ∧ j < 4 ∧
    bits (s.getN R.MEM_RET) j 1 = 0 :=
  ⟨z.setN R.MEM_RET 0x1F0000, .quill, 3, by decide⟩
theorem wit_MemoryCareRows_7 : ∃ (s : State) (m : Master) (j : Nat), s.mayWrite m R.MEM_RET = true ∧ j < 4 ∧
    bits (s.getN R.MEM_RET) j 1 = 1 :=
  ⟨z.setN R.MEM_RET 8, .quill, 3, by decide⟩
theorem wit_MemoryCareRows_8 : ∃ (s : State) (j : Nat), j < 4 ∧ bits (s.getN R.MEM_RET) j 1 = 0 :=
  ⟨z.setN R.MEM_RET 0, 3, by decide⟩
theorem wit_MemoryCareRows_9 : ∃ (s : State) (m : Master), s.mayWrite m R.MEM_RET = true ∧ bits (s.getN R.MEM_RET) 4 1 = 0 :=
  ⟨z.setN R.MEM_RET 0, .quill, by decide⟩
theorem wit_MemoryCareRows_10 : ∃ (s : State) (m : Master), s.mayWrite m R.MEM_RET = true ∧ bits (s.getN R.MEM_RET) 4 1 = 1 :=
  ⟨z.setN R.MEM_RET 16, .quill, by decide⟩
theorem wit_MemoryCareRows_11 : ∃ (s : State), bits (s.getN R.MEM_RET) 4 1 = 0 :=
  ⟨z.setN R.MEM_RET 0, by decide⟩
theorem wit_PortStateRows_1 : ∃ (s : State) (n : Nat), n < s.part.ports ∧ (s.portAt n).st = .detect ∧ s.portType n = 1 :=
  ⟨portS 31 1 { st := .detect }, 31, by decide⟩
theorem wit_PortStateRows_2 : ∃ (s : State) (n : Nat), n < s.part.ports ∧ (s.portAt n).st = .detect ∧ s.portType n = 2 :=
  ⟨portS 31 2 { st := .detect }, 31, by decide⟩
theorem wit_PortStateRows_3 : ∃ (s : State) (n : Nat), n < s.part.ports ∧ (s.portAt n).st = .detect :=
  ⟨portS 31 2 { st := .detect }, 31, by decide⟩
theorem wit_PortStateRows_4 : ∃ (s : State) (n : Nat), n < s.part.ports ∧ (s.portAt n).st = .link ∧
    (s.portAt n).waitDetect = false :=
  ⟨portS 31 2 { st := .link }, 31, by decide⟩
theorem wit_PortStateRows_5 : ∃ (s : State) (n : Nat), n < s.part.ports ∧ (s.portAt n).waitDetect = true :=
  ⟨portS 31 2 { st := .record, waitDetect := true }, 31, by decide⟩
theorem wit_PortStateRows_6 : ∃ (s : State) (n : Nat) (d : RecordIn) (r : List Nat), n < s.part.ports ∧
    (s.portAt n).st = .record ∧ (s.portAt n).waitDetect = false ∧ s.portType n = 1 ∧ recordRead d = some r :=
  ⟨portS 31 1 { st := .record }, 31, { first := recB, second := recB, acks := [true] }, recB, by decide +kernel⟩
theorem wit_PortStateRows_7 : ∃ (s : State) (n : Nat), n < s.part.ports ∧ s.portType n = 2 ∧ s.portHasHead n = true ∧
    (s.portAt n).wb = none :=
  ⟨portS 31 2 { st := .attached }, 31, by decide⟩
theorem wit_PortStateRows_8 : ∃ (s : State) (n : Nat), n < s.part.ports ∧ s.portType n = 1 ∧ s.portHasHead n = true :=
  ⟨portS 31 1 { st := .present, pollFails := 1 }, 31, by decide⟩
theorem wit_PortStateRows_9 : ∃ (s : State) (n : Nat), n < s.part.ports ∧ s.portType n = 1 ∧ s.portHasHead n = true ∧
    2 ≤ (s.portAt n).pollFails ∧ (s.portAt n).wb = none :=
  ⟨portS 31 1 { st := .attached, pollFails := 2 }, 31, by decide⟩
theorem wit_PortStateRows_10 : ∃ (s : State) (m : Master) (n : Nat), n < s.part.ports ∧ s.mayWrite m (R.HP_CFG n) = true ∧
    (s.portAt n).st = .lost ∧ s.bit (R.HP_CFG n) F.HP_CFG_EN = true :=
  ⟨(portS 31 1 { st := .lost }).setBit (R.HP_CFG 31) F.HP_CFG_EN true, .quill, 31, by decide⟩
theorem wit_BackChannelRows_1 : ∃ (s : State) (n : Nat) (pkt : List Nat) (p : BcIn) (c : Instr), BcOpen s n ∧
    (s.portAt n).st ≠ .off ∧ bcParse pkt = some p ∧ p.crcOk = false ∧
    ((c = .bcAck n pkt ∨ c = .bcNak n pkt ∨ c = .bcTemp n pkt ∨ c = .bcMgmt n pkt ∨ c = .bcLink n pkt)) :=
  ⟨bcS .attached, 31, pkBad, { ty := 3, crcOk := false }, .bcTemp 31 pkBad, by decide⟩
theorem wit_BackChannelRows_2 : ∃ (s : State) (n : Nat) (pkt : List Nat) (p : BcIn) (a : Await), BcOpen s n ∧
    s.portHasHead n = true ∧ Reads pkt p ∧ p.ty = 1 ∧ p.trim = none ∧ ((∀ x ∈ (s.rowAt (2 * n + p.row % 2)).await,
    s.now ≤ x.ts + 16000)) ∧ s.awaited (2 * n + p.row % 2) p.pcnt = some a :=
  ⟨awS, 31, pk 0x11 [7], { ty := 1, row := 1, pcnt := 7, status := 7, lock := 7 }, aw0, by decide⟩
theorem wit_BackChannelRows_3 : ∃ (s : State) (n : Nat) (pkt : List Nat) (p : BcIn) (a : Await), BcOpen s n ∧
    s.portHasHead n = true ∧ Reads pkt p ∧ p.ty = 2 ∧ p.trim = none ∧ ((∀ x ∈ (s.rowAt (2 * n + p.row % 2)).await,
    s.now ≤ x.ts + 16000)) ∧ s.awaited (2 * n + p.row % 2) p.pcnt = some a ∧ a.kind = .line :=
  ⟨awS, 31, pk 0x12 [7], { ty := 2, row := 1, pcnt := 7, status := 7, lock := 7 }, aw0, by decide⟩
theorem wit_BackChannelRows_4 : ∃ (s : State) (n : Nat) (pkt : List Nat) (p : BcIn) (x : Int) (l : List Int), BcOpen s n ∧
    s.portHasHead n = true ∧ Reads pkt p ∧ p.ty = 3 ∧ p.temps = x :: l ∧ l.length = 7 :=
  ⟨bcS .attached, 31, pk 3 pkT,
    { ty := 3, pcnt := 1, status := 1, lock := 1, data := pkT.drop 1, temps := [1, 2, 3, 4, 5, 6, 7, 8] }, 1, [2, 3, 4, 5, 6,
    7, 8], by decide +kernel⟩
theorem wit_BackChannelRows_5 : ∃ (s : State) (n : Nat) (pkt : List Nat) (p : BcIn) (a : Nat) (l : List Nat), BcOpen s n ∧
    s.portHasHead n = true ∧ Reads pkt p ∧ p.ty = 4 ∧ (s.portAt n).mgmtPend = a :: l ∧ a < 0x100 ∧ (s.portAt n).wb = none ∧
    p.status = 0 :=
  ⟨bcS .attached, 31, pk 4 [0, 1, 2], { ty := 4, data := [1, 2], temps := [256] }, 5, [], by decide +kernel⟩
theorem wit_BackChannelRows_6 : ∃ (s : State) (n : Nat) (pkt : List Nat) (p : BcIn), BcOpen s n ∧ s.portHasHead n = true ∧
    Reads pkt p ∧ p.ty = 5 ∧ p.lock &&& s.lanesUsed n = s.lanesUsed n :=
  ⟨bcS .attached, 31, pk 5 [15], pkL, by decide⟩
theorem wit_BackChannelRows_7 : ∃ (s : State) (n : Nat) (pkt : List Nat) (p : BcIn), BcOpen s n ∧ (s.portAt n).st = .link ∧
    (s.portAt n).waitDetect = false ∧ Reads pkt p ∧ p.ty = 5 ∧ p.lock &&& s.lanesUsed n = s.lanesUsed n :=
  ⟨bcS .link, 31, pk 5 [15], pkL, by decide⟩
theorem wit_PortServiceRows_1 : ∃ (s : State) (n : Nat), n < s.part.ports ∧ s.portType n = 1 ∧ s.portHasHead n = true ∧
    s.fld (R.HP_TS_CFG n) F.HP_TS_CFG_NF = 0 :=
  ⟨(portS 31 1 { st := .attached }).setFld (R.HP_TS_CFG 31) F.HP_TS_CFG_NF 0, 31, by decide⟩
theorem wit_PortServiceRows_2 : ∃ (s : State) (n : Nat) (dv : Int) (den : Int) (num : Int), n < s.part.ports ∧
    s.portType n = 1 ∧ s.portHasHead n = true ∧ den = s.fld (R.HP_TS_CFG n) F.HP_TS_CFG_NF * 19842000 ∧
    num = dv * 1638400 - 27315 * (den / 100) ∧ 0 < den ∧ -20 * den ≤ num ∧ num ≤ 150 * den ∧ 16 * num % den = 0 :=
  ⟨(portS 31 1 { st := .attached }).setFld (R.HP_TS_CFG 31) F.HP_TS_CFG_NF 16, 31, tsV, 16 * 19842000,
    tsV * 1638400 - 27315 * 198420 * 16, by decide⟩
theorem wit_PortServiceRows_3 : ∃ (s : State) (m : Master) (n : Nat), n < s.part.ports ∧
    s.mayWrite m (R.HP_TRIM_CTL n) = true ∧ (s.portAt n).trimOn = false ∧ s.portType n = 2 ∧ (s.portAt n).st ≠ .off ∧
    s.nprSet n ≠ 0 :=
  ⟨(portS 31 2 { st := .attached, maps := [{ npr := 2 }] }).setFld (R.NZP_MAP_CFG 31) F.NZP_MAP_CFG_NPR 2, .quill, 31,
    by decide⟩
theorem wit_PortServiceRows_4 : ∃ (s : State) (n : Nat) (lane : Nat) (sq : Nat) (f : TrimFrame), n < s.part.ports ∧
    (s.portAt n).trim.find? (fun x => x.lane = lane && x.seq = sq) = some f ∧ 3 ≤ f.tries ∧ (s.portAt n).trimAgain = false ∧
    s.qps = [] :=
  ⟨portS 31 2 { trim := [trimF], trimOn := true }, 31, 1, 9, trimF, by decide⟩
theorem wit_PortServiceRows_5 : ∃ (s : State) (m : Master) (n : Nat) (v : Nat), n < s.part.ports ∧
    s.mayWrite m (R.HP_WDOG n) = true ∧ bits v 7 1 = 0 :=
  ⟨z.setN (R.HP_WDOG 31) 255, .quill, 31, 127, by decide⟩
theorem wit_PortServiceRows_6 : ∃ (s : State) (m : Master) (n : Nat), n < s.part.ports ∧ s.mayWrite m (R.HP_WDOG n) = true :=
  ⟨portS 31 2 { st := .attached }, .quill, 31, by decide⟩
theorem wit_PortServiceRows_7 : ∃ (s : State) (n : Nat), n < s.part.ports ∧ s.portType n = 2 ∧ (s.portAt n).wb = none ∧
    2 ^ 24 ≤ (s.portAt n).d ∧ (s.portAt n).st = .attached ∧ (s.portAt n).untrusted = false ∧ (s.portAt n).record ≠ [] :=
  ⟨portS 31 2 { st := .attached, d := 2 ^ 24, record := [1] }, 31, by decide⟩
theorem wit_PortServiceRows_8 : ∃ (s : State) (n : Nat) (w : WriteBack), n < s.part.ports ∧ s.portType n = 1 ∧
    (s.portAt n).wb = some w ∧ w.expect ≠ [] ∧ w.newUsage ≠ usageMax ∧ (s.portAt n).wbNext = none :=
  ⟨portS 31 1 { st := .attached, wb := some { final := false, expect := [1] } }, 31, { final := false, expect := [1] },
    by decide⟩
theorem wit_HostQueueRows_1 : ∃ (s : State) (ind : Option (List Nat)) (c : Cmd), s.qpMode 0 = 3 ∧ (s.qpAt 0).st = 1 ∧
    (s.qpAt 0).sq = [] ∧ s.bit R.MBX_Z1_CTL F.MBX_Z1_CTL_GO = false ∧
    s.cmdOf s.now ((List.range 16).flatMap (fun w => leBytes 4 (s.getN (R.MBX_Z1_WIN w)))) 56 ind = c ∧ c.pre = none :=
  ⟨(qpS 0 { st := 1, mode := 3 }).setFld (R.MBX_Z1_WIN 0) ⟨0, 8⟩ 1, none, { op := 1 }, by decide⟩
theorem wit_HostQueueRows_2 : ∃ (s : State) (q : Nat) (v : Nat) (ind : Option (List Nat)) (c : Cmd), q < 32 ∧ s.qpMode q = 1 ∧
    (s.qpAt q).st = 1 ∧ (s.qpAt q).sq = [] ∧ s.ready = true ∧
    s.cmdOf s.now (((((s.qpAt q).asm ++ List.replicate 16 0).take 16).set 15 v).flatMap (leBytes 4)) 56 ind = c ∧
    c.pre = none :=
  ⟨qpS 31 { st := 1, mode := 1, asm := [1] }, 31, 0, none, { op := 1 }, by decide⟩
theorem wit_HostQueueRows_3 : ∃ (s : State) (q : Nat), q < 32 ∧ s.qpMode q = 1 ∧ (s.qpAt q).st = 1 ∧ s.ready = true ∧
    16 ≤ (s.qpAt q).sq.length :=
  ⟨qpS 31 { st := 1, mode := 1, sq := List.replicate 16 { op := 1 } }, 31, by decide⟩
theorem wit_HostQueueRows_4 : ∃ (s : State) (q : Nat) (e : List Nat) (rest : List (List Nat)), q < 32 ∧ s.qpMode q = 1 ∧
    (s.qpAt q).cq = e :: rest ∧ (s.qpAt q).sq = [] :=
  ⟨qpS 31 { st := 1, mode := 1, cq := [[1]] }, 31, [1], [], by decide⟩
theorem wit_HostQueueRows_5 : ∃ (s : State) (q : Nat) (v : Nat), q < 32 ∧ s.ready = true ∧ v < s.ringSize q :=
  ⟨qpS 31 { st := 1, mode := 2 }, 31, 3, by decide⟩
theorem wit_HostQueueRows_6 : ∃ (s : State) (q : Nat) (v : Nat), q < 32 ∧ s.ready = true ∧ v < s.ringSize q :=
  ⟨qpS 31 { st := 1, mode := 2 }, 31, 3, by decide⟩
theorem wit_HostQueueRows_7 : ∃ (s : State) (q : Nat) (v : Nat) (c : Instr), q < 32 ∧ s.ready = true ∧ s.ringSize q ≤ v ∧
    (c = .z3SqDoorbell q v ∨ c = .z3CqDoorbell q v) :=
  ⟨qpS 31 { st := 1, mode := 2 }, 31, 4096, .z3CqDoorbell 31 4096, by decide⟩
theorem wit_HostQueueRows_8 : ∃ (s : State) (q : Nat) (m : List Nat) (ind : Option (List Nat)) (c : Cmd), q < 32 ∧
    s.qpMode q = 2 ∧ (s.qpAt q).st = 1 ∧ (s.qpAt q).stop = false ∧ s.ready = true ∧
    (s.qpAt q).head ≠ s.getN (R.MBX_Z3_SQ_TAIL q) ∧ s.z3Room q = true ∧ (s.qpAt q).sq = [] ∧
    s.cmdOf (s.doorSeen q) ((m ++ List.replicate 256 0).take 256) 248 ind = c ∧ c.pre = none :=
  ⟨(qpS 31 { st := 1, mode := 2 }).setN (R.MBX_Z3_SQ_TAIL 31) 1, 31, [1], none, { op := 1 }, by decide⟩
theorem wit_HostQueueRows_9 : ∃ (s : State) (q : Nat), q < 32 ∧ (s.qpAt q).st = 1 :=
  ⟨qpS 31 { st := 1, mode := 2 }, 31, by decide⟩
theorem wit_HostQueueRows_10 : ∃ (s : State) (q : Nat), q < 32 ∧ (s.qpAt q).st = 2 ∧ (s.qpAt q).sq = [] ∧
    (s.qpAt q).cur = none :=
  ⟨qpS 31 { st := 2, mode := 2 }, 31, by decide⟩
theorem wit_HostQueueRows_11 : ∃ (s : State) (v : Nat) (d : Nat), v < 64 ∧ (s.vecAt v).due = some d ∧ s.ready = true ∧
    s.pcie.msixEn = true ∧ s.pcie.msixMask = false ∧ s.bit (R.MBX_MSIX_CTRL v) F.MBX_MSIX_CTRL_MASK = false :=
  ⟨({ z with vecs := [(63, { due := some 5 })], pcie := { msixEn := true } }.setBit R.SYS_MODE F.SYS_MODE_READY true).setBit
    (R.MBX_MSIX_CTRL 63) F.MBX_MSIX_CTRL_MASK false, 63, 5, by decide⟩
theorem wit_HostQueueRows_12 : ∃ (s : State) (v : Nat) (d : Nat), v < 64 ∧ (s.vecAt v).due = some d ∧ s.ready = true ∧
    s.pcie.msixEn = true ∧ ((s.pcie.msixMask = true ∨ s.bit (R.MBX_MSIX_CTRL v) F.MBX_MSIX_CTRL_MASK = true)) :=
  ⟨({ z with vecs := [(63, { due := some 5 })], pcie := { msixEn := true } }.setBit R.SYS_MODE F.SYS_MODE_READY true).setBit
    (R.MBX_MSIX_CTRL 63) F.MBX_MSIX_CTRL_MASK true, 63, 5, by decide⟩
theorem wit_HostQueueRows_13 : ∃ (s : State) (d : Nat), s.diag = some d :=
  ⟨{ z with diag := some 5 }, 5, by decide⟩
theorem wit_CompletionPlaces_1 : ∃ (s : State) (q : Nat), (s.qpAt q).dead = false :=
  ⟨qpS 31 { st := 1, mode := 1 }, 31, by decide⟩
theorem wit_DeniedWrites_1 : ∃ (s : State) (off : Nat), s.mayWrite .host off = false ∧
    ((off < 0x0B20000 ∨ 0x0B20400 ≤ off)) :=
  ⟨z, 0x300000, by decide⟩
theorem wit_ReservedOffsets_1 : ∃ (off : Nat), 0x1100000 ≤ off ∧ off ≤ 0x3FFFFFF :=
  ⟨0x1100000, by decide⟩
theorem wit_ReservedOffsets_2 : ∃ (off : Nat), regFind off = none :=
  ⟨4, by decide⟩
theorem wit_ReservedOffsets_3 : ∃ (s : State) (m : Master) (off : Nat), s.mayWrite m off = true ∧ regFind off = none :=
  ⟨z, .quill, 4, by decide⟩
theorem wit_RegisterReads_1 : ∃ (s : State) (off : Nat), s.latch.find? (fun x => x.1 = off) = none :=
  ⟨z, 4, by decide⟩
theorem wit_ChainLinkRows_1 : ∃ (s : State) (pt : Nat), pt < 2 ∧ (s.mport pt).run = true ∧ (s.mport pt).lock = false ∧
    s.chain.ports.length = 2 :=
  ⟨chnS {} { run := true } {}, 1, by decide⟩
theorem wit_ChainLinkRows_2 : ∃ (s : State) (pt : Nat), pt < 2 ∧ (s.mport pt).lock = true :=
  ⟨chnS {} { lock := true } {}, 1, by decide⟩
theorem wit_ChainLinkRows_3 : ∃ (s : State) (pt : Nat) (f : MFrame), pt < 2 ∧ s.chain.ports.length = 2 ∧ s.ready = true ∧
    (s.mport pt).lock = true ∧ (s.mport pt).up = false ∧ (s.mport pt).due = [] ∧ (s.mport pt).after = [] ∧ s.fijGate = false ∧
    frameGood f.bytes = true ∧ f.ty = 0x01 ∧ (s.mport pt).expect = none ∧
    leAt f.payload 1 1 = s.fld R.CHN_CFG F.CHN_CFG_COUNT :=
  ⟨chnS {} { lock := true, run := true } {}, 1, fB 0x01 0 [0, 1], by decide +kernel⟩
theorem wit_ChainLinkRows_4 : ∃ (s : State) (pt : Nat), pt < 2 ∧ s.chain.ports.length = 2 ∧ (s.mport pt).run = true :=
  ⟨chnS {} upP {}, 1, by decide⟩
theorem wit_ChainLinkRows_5 : ∃ (s : State) (pt : Nat) (a : Nat), pt < 2 ∧ s.chain.ports.length = 2 ∧
    (s.mport pt).retryAt = some a :=
  ⟨chnS {} { retryAt := some 3 } {}, 1, 3, by decide⟩
theorem wit_ChainLinkRows_6 : ∃ (s : State) (q : Nat) (c : Cmd), q < 32 ∧ (s.qpAt q).cur = some (c, .join) ∧ ((∀ r,
    r < 32 → r ≠ q → s.waitOf r ≠ some .join)) ∧ s.qpMode q = 1 ∧ (s.qpAt q).dead = false ∧ (s.qpAt q).sq = [] ∧
    s.syncSt ≠ 2 :=
  ⟨qpS 31 { st := 1, mode := 1, cur := some ({ op := 0xA0 }, .join) }, 31, { op := 0xA0 }, by decide⟩
theorem wit_ChainFrameRows_1 : ∃ (s : State), s.joined = true ∧ (s.mport 0).up = true ∧ (s.mport 1).up = false :=
  ⟨joinS upP {} {}, by decide⟩
theorem wit_ChainFrameRows_2 : ∃ (s : State) (pt : Nat) (f : MFrame), pt < 2 ∧ Arrives s pt f ∧ New s 0x02 f ∧
    s.joined = true :=
  ⟨joinS upP upP {}, 1, fB 0x02 5 [], by decide +kernel⟩
theorem wit_ChainFrameRows_3 : ∃ (s : State) (pt : Nat) (f : MFrame), pt < 2 ∧ Arrives s pt f ∧ New s 0x20 f ∧
    s.joined = true ∧ s.tick.getD 0 < leAt f.payload 0 8 + 2 ∧ s.now ≤ (leAt f.payload 0 8 + 2) * 8000 :=
  ⟨joinS upP upP {}, 1, fB 0x20 5 [], by decide +kernel⟩
theorem wit_ChainFrameRows_4 : ∃ (s : State) (pt : Nat) (f : MFrame), pt < 2 ∧ Arrives s pt f ∧ New s 0x30 f ∧
    s.bit R.CHN_CFG F.CHN_CFG_EVT_FWD = true ∧ s.evFifo.length < 256 :=
  ⟨(joinS upP upP {}).setBit R.CHN_CFG F.CHN_CFG_EVT_FWD true, 1, fB 0x30 5 [], by decide +kernel⟩
theorem wit_ChainFrameRows_5 : ∃ (s : State) (pt : Nat) (f : MFrame), pt < 2 ∧ Arrives s pt f ∧ New s 0x40 f :=
  ⟨joinS upP upP {}, 1, fB 0x40 5 [1], by decide +kernel⟩
theorem wit_SharedTimeRows_1 : ∃ (s : State), s.joined = true ∧ s.alive = [] ∧ s.myPref ≠ 0 ∧
    1 ≤ s.fld R.CHN_CFG F.CHN_CFG_COUNT ∧ s.myHeads ≤ s.chain.heads ∧ s.chain.conflictAt = none :=
  ⟨(joinS upP upP {}).setFld R.CHN_CFG F.CHN_CFG_PREF 1, by decide⟩
theorem wit_SharedTimeRows_2 : ∃ (s : State) (pt : Nat), s.joined = true ∧ s.isMaster = false ∧ s.syncSt ≠ 0 ∧
    s.chain.asked = false ∧ s.chain.syncPort = some pt :=
  ⟨(joinS upP upP { syncPort := some 1 }).setSync 1, 1, by decide⟩
theorem wit_SharedTimeRows_3 : ∃ (s : State) (pt : Nat) (f : MFrame), pt < 2 ∧ Arrives s pt f ∧ f.ty = 0x10 :=
  ⟨joinS upP upP {}, 1, fB 0x10 3 [], by decide +kernel⟩
theorem wit_SharedTimeRows_4 : ∃ (s : State) (pt : Nat) (f : MFrame) (m : Meas) (x : Int) (y : Int), pt < 2 ∧ Arrives s pt f ∧
    f.ty = 0x11 ∧ s.joined = true ∧ s.isMaster = false ∧ s.chain.meas = some m ∧ m.pt = pt ∧ m.t1 ≤ f.t2 ∧
    f.t2 ≤ m.t1 + 1600000 ∧ leAt f.payload 0 2 = m.seq ∧ ((leAt f.payload 29 1 = 2 ∨ s.chain.master = some f.src)) ∧
    ((stampAt f.payload 11 : Int) - m.t1) - ((f.t2 : Int) - stampAt f.payload 20) = 2 * x ∧
    ((stampAt f.payload 11 : Int) - m.t1) + ((f.t2 : Int) - stampAt f.payload 20) = 2 * y ∧ 0 ≤ y ∧ y ≤ 64000 :=
  ⟨joinS upP upP { meas := some { t1 := 96, seq := 7, pt := 1 } }, 1, synF, { t1 := 96, seq := 7, pt := 1 }, synX, synY,
    by decide +kernel⟩
theorem wit_SharedTimeRows_5 : ∃ (s : State) (a : Nat), s.chain.coastAt = some a ∧ s.syncSt = 3 ∧
    s.bit R.CHN_STAT F.CHN_STAT_COAST_EXP = false :=
  ⟨(joinS upP upP { coastAt := some 3 }).setSync 3, 3, by decide⟩
theorem wit_CareRows_1 : ∃ (s : State), 3 ≤ s.fld R.SYS_BOOT_STAT F.SYS_BOOT_STAT_STAGE ∧ s.flush = none :=
  ⟨z.setStage 3, by decide⟩
theorem wit_CareRows_2 : ∃ (s : State) (m : Master), s.mayWrite m R.BLT_CTL = true ∧ s.flush = none :=
  ⟨z, .quill, by decide⟩
theorem wit_CareRows_3 : ∃ (s : State) (a : Nat), s.flush = some a ∧ s.flushAgain = false :=
  ⟨{ z with flush := some 4 }, 4, by decide⟩
theorem wit_CareRows_4 : ∃ (s : State) (e : Ev), s.evFifo = [e] ∧ s.evQueue.length < 4096 :=
  ⟨{ z with evFifo := [logE] }, logE, by decide⟩
theorem wit_CareRows_5 : ∃ (s : State), s.bit R.CAL_STAT F.CAL_STAT_DONE = true :=
  ⟨z.setBit R.CAL_STAT F.CAL_STAT_DONE true, by decide⟩
theorem wit_CareRows_6 : ∃ (s : State) (m : Master), s.mayWrite m R.CAL_CTL = true ∧
    s.bit R.CAL_STAT F.CAL_STAT_BUSY = false :=
  ⟨z, .quill, by decide⟩
theorem wit_CareRows_7 : ∃ (s : State) (a : Nat) (b : Nat) (c : Nat), s.cal.run = some (a, b, c) :=
  ⟨{ z with cal := { run := some (1, 0, 0) } }, 1, 0, 0, by decide⟩
theorem wit_CareRows_8 : ∃ (s : State), s.pw.logic = true :=
  ⟨{ z with pw := { logic := true } }, by decide⟩
theorem wit_CareRows_9 : ∃ (s : State), 2 ^ 63 ≤ s.now :=
  ⟨{ z with dt := 0x8000000000000000 }, by exact Nat.le_refl _⟩
theorem wit_OtpRows_1 : ∃ (s : State) (w : Nat) (n : Nat) (st : Nat), w < 512 ∧ s.otp.startReads = [] ∧
    s.otp.raw = s.otp.startRaw ∧ s.otp.differs w n st = true :=
  ⟨z, 511, 0, 1, by decide⟩
theorem wit_OtpRows_2 : ∃ (s : State) (m : Master) (idx : Nat), s.mayWrite m R.OTP_RD_ADDR = true ∧ idx < 512 ∧
    ((idx < 128 ∨ 136 ≤ idx)) :=
  ⟨z, .quill, 511, by decide⟩
theorem wit_OtpRows_3 : ∃ (s : State) (m : Master) (idx : Nat), s.mayWrite m R.OTP_RD_ADDR = true ∧ 128 ≤ idx ∧ idx < 136 :=
  ⟨z, .quill, 135, by decide⟩
theorem wit_OtpRows_4 : ∃ (s : State) (m : Master), s.mayWrite m R.OTP_PROG_CTL = true ∧ s.otp.burn = none ∧
    otpIsData (s.fld R.OTP_PROG_CTL F.OTP_PROG_CTL_WORD) = true ∧
    s.otpRegionState (otpRegionOf (s.fld R.OTP_PROG_CTL F.OTP_PROG_CTL_WORD)) = 0 ∧
    s.otp.refused.contains (s.fld R.OTP_PROG_CTL F.OTP_PROG_CTL_WORD) = false ∧
    ((s.otp.failed.contains (s.fld R.OTP_PROG_CTL F.OTP_PROG_CTL_WORD) = false ∨ s.bit R.OTP_PROG_CTL F.OTP_PROG_CTL_RETRY =
    true)) ∧ s.otpClash (s.fld R.OTP_PROG_CTL F.OTP_PROG_CTL_WORD) (s.get64 R.OTP_PROG_DATA_LO R.OTP_PROG_DATA_HI) = false :=
  ⟨z, .quill, by decide⟩
theorem wit_OtpRows_5 : ∃ (s : State) (m : Master) (r : Nat), s.mayWrite m R.OTP_PROG_CTL = true ∧ s.otp.burn = none ∧
    s.fld R.OTP_PROG_CTL F.OTP_PROG_CTL_REGION = r ∧ r < 3 ∧ s.otpRegionState r ≠ 2 :=
  ⟨z, .quill, 0, by decide⟩
theorem wit_OtpRows_6 : ∃ (s : State) (b : Burn), s.otp.burn = some b ∧ b.rest = [] ∧ b.value < 2 ^ 64 :=
  ⟨{ z with otp := { burn := some { word := 3, value := 2 ^ 64 - 1 } } }, { word := 3, value := 2 ^ 64 - 1 }, by decide⟩
theorem wit_DeviceCommands_1 : ∃ (s : State) (q : Nat) (c : Cmd), Front s q 0x01 c :=
  ⟨fr (z) .boot (cOf 1 ([])), 31, cOf 1 ([]), by decide⟩
theorem wit_DeviceCommands_2 : ∃ (s : State) (q : Nat) (c : Cmd), Front s q 0x03 c ∧ 20 ≤ c.args.length ∧ c.arg 0 1 = 1 ∧
    c.arg 1 1 < 8 :=
  ⟨fr (z) .print (cOf 3 ([1, 7] ++ nop 18)), 31, cOf 3 ([1, 7] ++ nop 18), by decide⟩
theorem wit_DeviceCommands_3 : ∃ (s : State) (q : Nat) (c : Cmd), Front s q 0x02 c ∧ c.args ≠ [] ∧ c.arg 0 1 = 3 ∧
    s.mode = .config ∧ s.limited = false ∧ s.pw.parkPend = false ∧ s.pw.wake = none ∧ s.pw.exiting = false :=
  ⟨fr (z) .config (cOf 2 ([3])), 31, cOf 2 ([3]), by decide⟩
theorem wit_DeviceCommands_4 : ∃ (s : State) (q : Nat) (c : Cmd), Front s q 0x02 c ∧ c.args ≠ [] ∧ c.arg 0 1 = 2 ∧
    s.mode = .config ∧ s.limited = false ∧ s.pw.parkPend = false ∧ s.pw.wake = none ∧ s.pw.exiting = false ∧
    s.mayPrint = true :=
  ⟨fr (printS) .config (cOf 2 ([2])), 31, cOf 2 ([2]), by decide⟩
theorem wit_DeviceCommands_5 : ∃ (s : State) (q : Nat) (c : Cmd), Front s q 0x02 c ∧ s.mode = .boot :=
  ⟨fr (z) .boot (cOf 2 ([])), 31, cOf 2 ([]), by decide⟩
theorem wit_DeviceCommands_6 : ∃ (s : State) (q : Nat) (c : Cmd), Front s q 0x60 c ∧ s.cmdMode = .config ∧ s.mode = .config ∧
    10 ≤ c.args.length ∧ c.arg 4 1 ≤ 3 ∧ c.arg 5 1 ≤ 3 :=
  ⟨fr (z) .config (cOf 0x60 (nop 10)), 31, cOf 0x60 (nop 10), by decide⟩
theorem wit_DeviceCommands_7 : ∃ (s : State) (q : Nat) (c : Cmd), Front s q 0x61 c ∧ s.cmdMode ∈ modesCPSI ∧
    8 ≤ c.args.length :=
  ⟨fr (z) .idle (cOf 0x61 (leBytes 8 5000)), 31, cOf 0x61 (leBytes 8 5000), by decide⟩
theorem wit_ModeRefuses_1 : ∃ (s : State) (q : Nat) (op : Nat) (i : Instr) (c : Cmd), Front s q op c ∧ s.cmdMode ≠ .config ∧
    ((op = 0x10 ∧ i = .planeDefine q ∨ op = 0x11 ∧ i = .headAttach q ∨ op = 0x81 ∧ i = .otpProgram q ∨ op = 0x82 ∧
    i = .otpLock q ∨ op = 0xA0 ∧ i = .chainConfig q)) :=
  ⟨fr z .print (cOf 0x10 []), 31, 0x10, .planeDefine 31, cOf 0x10 [], by decide⟩
theorem wit_PlaneCommands_1 : ∃ (s : State) (q : Nat) (c : Cmd), Front s q 0x10 c ∧ s.cmdMode = .config ∧ 16 ≤ c.args.length ∧
    c.arg 0 1 < 8 ∧ c.arg 1 1 = 1 ∧ c.arg 2 2 = 0 ∧ c.arg 10 2 = 0 ∧ s.planeBad (c.arg 0 1) (c.arg 4 4) (c.arg 8 2) = false ∧
    (s.planeAt (c.arg 0 1)).job = none :=
  ⟨fr (z) .config (cOf 0x10 ([7, 1, 0, 0] ++ leBytes 4 8 ++ nop 8)), 31, cOf 0x10 ([7, 1, 0, 0] ++ leBytes 4 8 ++ nop 8),
    by decide⟩
theorem wit_PlaneCommands_2 : ∃ (s : State) (q : Nat) (c : Cmd) (d : List Nat), Front s q 0x13 c ∧ s.cmdMode ∈ modesCPSI ∧
    24 ≤ c.args.length ∧ c.arg 0 1 = 1 ∧ c.arg 1 1 < 8 ∧ c.arg 2 2 = 0 ∧ c.arg 4 2 ≠ 0 ∧ c.arg 4 2 ≤ 512 ∧ c.arg 6 2 ≠ 0 ∧
    c.arg 6 2 ≤ 512 ∧ c.arg 4 2 * c.arg 6 2 * 4 + c.arg 8 4 ≤ 0x100000 ∧ c.arg 8 4 % 64 = 0 ∧ c.arg 12 4 = 0 ∧ ((∀ p,
    p < 8 → s.slotOf p ≠ c.arg 1 1 ∨ (s.planeAt p).job = none)) ∧ d.length = c.arg 4 2 * c.arg 6 2 * 4 ∧
    s.refusal 1 (bankS + (0x100000 + c.arg 8 4)) d.length true = none :=
  ⟨fr (regM 1 0 0 0xFFF z) .print (cOf 0x13 ([1, 7, 0, 0] ++ leBytes 2 1 ++ leBytes 2 2 ++ nop 16)), 31, cOf 0x13 ([1, 7, 0,
    0] ++ leBytes 2 1 ++ leBytes 2 2 ++ nop 16), [1, 2, 3, 4, 5, 6, 7, 8], by decide⟩
theorem wit_PlaneCommands_3 : ∃ (s : State) (q : Nat) (c : Cmd) (d : List Nat), Front s q 0x14 c ∧ s.cmdMode ∈ modesCPSI ∧
    16 ≤ c.args.length ∧ c.arg 2 2 ≠ 0 ∧ c.arg 0 2 + c.arg 2 2 ≤ 4096 ∧ c.arg 4 4 = 0 ∧ ((∀ p,
    p < 8 → (s.planeAt p).defined = false)) ∧ d.length = c.arg 2 2 * 256 ∧
    s.refusal 1 (bankS + c.arg 0 2 * 256) d.length true = none :=
  ⟨fr (regM 1 0 0 0xFFF z) .config (cOf 0x14 ([0, 0, 1, 0] ++ nop 12)), 31, cOf 0x14 ([0, 0, 1, 0] ++ nop 12),
    List.replicate 256 9, by decide +kernel⟩
theorem wit_JobCommands_1 : ∃ (s : State) (q : Nat) (a : Nat) (b : Nat) (c : Cmd) (l : StoredJob), Front s q 0x20 c ∧
    s.mode ≠ .idle ∧ ((s.cmdMode = .config ∨ s.cmdMode = .print)) ∧ 36 ≤ c.args.length ∧ s.openBad c = false ∧
    s.openLayout c = some l ∧ bits (c.arg 1 1) 0 1 = 0 ∧ bits (c.arg 1 1) 4 1 = 0 ∧ s.span (c.arg 0 1) + 320 ≤ 65536 ∧
    (s.planeAt (c.arg 0 1)).job = none ∧ (s.planeAt (c.arg 0 1)).strips = [] ∧
    s.dramFree s.dramHeld a (l.imgLines * imgStride l.fmt l.width) = true ∧ s.dramFree ((a,
    l.imgLines * imgStride l.fmt l.width) :: s.dramHeld) b (2 ^ depthFor (s.span (c.arg 0 1) + 320) 6 (c.arg 4 1) * lineSize
    l.width) = true :=
  ⟨fr (openS) .config (cOf 0x20 (openArgs)), 31, 0, 0x100000, cOf 0x20 (openArgs), openL, by decide⟩
theorem wit_JobCommands_2 : ∃ (s : State) (q : Nat) (c : Cmd) (j : Job), Front s q 0x21 c ∧
    ((s.cmdMode = .config ∨ s.cmdMode = .print)) ∧ 32 ≤ c.args.length ∧ c.arg 0 1 < 8 ∧ c.arg 1 1 = 1 ∧ c.arg 2 2 = 0 ∧
    c.arg 4 4 = 0 ∧ (s.planeAt (c.arg 0 1)).job = some j ∧ j.closed = none ∧ j.replay = false ∧ j.stored = false ∧
    (s.planeAt (c.arg 0 1)).strips = [] ∧ c.arg 8 8 = (s.planeAt (c.arg 0 1)).avail ∧ c.arg 16 4 ≠ 0 ∧
    c.arg 16 4 ≤ s.imgLines (c.arg 0 1) ∧ c.arg 8 8 + c.arg 16 4 ≤ s.imgLines (c.arg 0 1) + s.screened (c.arg 0 1) :=
  ⟨fr ((planeS 0 { defined := true, job := some { lastLine := 9 } }).setN (R.SCR_PLANE_IMG_LINES 0) 100) .config (cOf 0x21
    ([0, 1] ++ nop 14 ++ leBytes 4 100 ++ nop 12)), 31, cOf 0x21 ([0, 1] ++ nop 14 ++ leBytes 4 100 ++ nop 12),
    { lastLine := 9 }, by decide⟩
theorem wit_JobCommands_3 : ∃ (s : State) (q : Nat) (c : Cmd) (j : Job), Front s q 0x22 c ∧
    ((s.cmdMode = .config ∨ s.cmdMode = .print)) ∧ c.args ≠ [] ∧ c.arg 0 1 < 8 ∧ (s.planeAt (c.arg 0 1)).job = some j ∧
    j.closed = none ∧ j.stored = false ∧ s.nextLine (c.arg 0 1) ≠ 0 :=
  ⟨fr ((planeS 0 { defined := true, avail := 5, job := some { lastLine := 9 } }).setN (R.SCR_PLANE_PAGE 0) 100) .config (cOf
    0x22 ([0])), 31, cOf 0x22 ([0]), { lastLine := 9 }, by decide⟩
theorem wit_JobCommands_4 : ∃ (s : State) (q : Nat) (c : Cmd) (j : Job), Front s q 0x23 c ∧ s.cmdMode ∈ modesCPSI ∧
    3 ≤ c.args.length ∧ c.arg 0 1 < 8 ∧ c.arg 1 1 ≤ 1 ∧ (s.planeAt (c.arg 0 1)).job = some j ∧ j.channel = none ∧
    (s.planeAt (c.arg 0 1)).strips = [] :=
  ⟨fr (planeS 7 { defined := true, avail := 5, job := some { lastLine := 9 } }) .print (cOf 0x23 ([7, 1, 0])), 31,
    cOf 0x23 ([7, 1, 0]), { lastLine := 9 }, by decide⟩
theorem wit_HeadCommands_1 : ∃ (s : State) (q : Nat) (c : Cmd), Front s q 0x11 c ∧ s.cmdMode = .config ∧ 44 ≤ c.args.length ∧
    c.arg 1 1 = 1 ∧ s.attachArgsBad c.args = false ∧ (s.portAt (c.arg 0 1)).st = .present ∧
    (s.portAt (c.arg 0 1)).recOk = true ∧ s.attachRecBad (c.arg 0 1) c.args = false ∧
    s.widthsHeld (c.arg 0 1) (s.attachWidth (c.arg 0 1) c.args 16 0x1C 2047) (s.attachWidth (c.arg 0 1) c.args 18 0x1E 2047)
    (s.attachWidth (c.arg 0 1) c.args 22 0x22 4095) = false :=
  ⟨fr ({ portS 31 2 { st := .present, recOk := true, record := nop 256 } with planes := [(0, { defined := true })] }) .config
    (cOf 0x11 ([31, 1] ++ nop 42)), 31, cOf 0x11 ([31, 1] ++ nop 42), by decide⟩
theorem wit_HeadCommands_2 : ∃ (s : State) (q : Nat) (c : Cmd), Front s q 0x12 c ∧ s.cmdMode ∈ modesCPSI ∧ 8 ≤ c.args.length ∧
    c.arg 0 1 = 3 ∧ s.headOn (c.arg 1 1) = true ∧ (s.portAt (c.arg 1 1)).recN 0x18 4 % 2 ^ 24 ≤ c.arg 4 4 ∧
    c.arg 4 4 < 2 ^ 24 :=
  ⟨fr (portS 31 2 { st := .attached }) .idle (cOf 0x12 ([3, 31, 0, 0] ++ leBytes 4 50000)), 31, cOf 0x12 ([3, 31, 0,
    0] ++ leBytes 4 50000), by decide⟩
theorem wit_HeadCommands_3 : ∃ (s : State) (q : Nat) (c : Cmd), Front s q 0x30 c ∧ s.cmdMode ∈ modesCPSI ∧ 6 ≤ c.args.length ∧
    c.arg 0 1 < s.part.ports ∧ (s.portAt (c.arg 0 1)).st = .attached ∧ c.arg 1 1 = 1 ∧ c.arg 2 2 = 1 ∧
    c.arg 4 2 < 2 * s.nprSet (c.arg 0 1) ∧ s.refusal 0 (maskHset + c.arg 0 1 * 512 + c.arg 4 2 / 8) 1 true = none ∧
    s.refusal 0 (maskHclr + c.arg 0 1 * 512 + c.arg 4 2 / 8) 1 true = none :=
  ⟨fr (regM 0 0 0 0xFFF ((portS 31 2 { st := .attached }).setFld (R.NZP_MAP_CFG 31) F.NZP_MAP_CFG_NPR 2)) .print (cOf 0x30
    ([31, 1, 1, 0, 3, 0])), 31, cOf 0x30 ([31, 1, 1, 0, 3, 0]), by decide⟩
theorem wit_HeadCommands_4 : ∃ (s : State) (q : Nat) (c : Cmd), Front s q 0x31 c ∧
    ((s.cmdMode = .config ∨ s.cmdMode = .print ∨ s.cmdMode = .service)) ∧ 36 ≤ c.args.length ∧ s.headOn (c.arg 0 1) = true ∧
    c.arg 1 1 = 4 ∧ s.portType (c.arg 0 1) ≠ 1 :=
  ⟨fr (portS 31 2 { st := .attached }) .print (cOf 0x31 ([31, 4] ++ nop 34)), 31, cOf 0x31 ([31, 4] ++ nop 34), by decide⟩
theorem wit_HeadCommands_5 : ∃ (s : State) (q : Nat) (c : Cmd), Front s q 0x32 c ∧ s.cmdMode ∈ modesCPSI ∧ 8 ≤ c.args.length ∧
    c.arg 0 1 ≠ 0xFF ∧ s.headOn (c.arg 0 1) = true ∧ c.arg 1 1 ≤ 2 ∧ c.arg 2 1 = 0 :=
  ⟨fr (portS 31 2 { st := .offline }) .print (cOf 0x32 ([31, 2] ++ nop 6)), 31, cOf 0x32 ([31, 2] ++ nop 6), by decide⟩
theorem wit_HeadCommands_6 : ∃ (s : State) (q : Nat) (c : Cmd), Front s q 0x40 c ∧ s.cmdMode = .service ∧ 10 ≤ c.args.length ∧
    s.maskOk (c.arg 0 4) = true ∧ ((c.arg 4 1 = 2 ∨ c.arg 4 1 = 3)) ∧ c.arg 5 1 ≤ 3 ∧ c.arg 5 1 ≠ 0 ∧ c.arg 6 2 ≠ 0 ∧
    s.serviceBusy (portsIn (c.arg 0 4)) = false :=
  ⟨fr (portS 31 2 { st := .attached }) .service (cOf 0x40 (leBytes 4 (2 ^ 31) ++ [3, 3, 1, 0, 0, 0])), 31,
    cOf 0x40 (leBytes 4 (2 ^ 31) ++ [3, 3, 1, 0, 0, 0]), by decide⟩
theorem wit_HeadCommands_7 : ∃ (s : State) (q : Nat) (c : Cmd), Front s q 0x41 c ∧ s.cmdMode = .service ∧ s.mode = .service ∧
    8 ≤ c.args.length ∧ c.arg 0 1 = 1 ∧ c.arg 1 1 = 0 ∧ s.maskOk (c.arg 4 4) = true ∧
    s.serviceBusy (portsIn (c.arg 4 4)) = false :=
  ⟨fr (portS 31 2 { st := .attached }) .service (cOf 0x41 ([1, 0, 0, 0] ++ leBytes 4 (2 ^ 31))), 31, cOf 0x41 ([1, 0, 0,
    0] ++ leBytes 4 (2 ^ 31)), by decide⟩
theorem wit_RecordCommands_1 : ∃ (s : State) (q : Nat) (c : Cmd), Front s q 0x50 c ∧ s.cmdMode ∈ modesCPSI ∧
    5 ≤ c.args.length ∧ s.maskOk (c.arg 0 4) = true ∧ c.arg 4 1 ≤ 31 ∧ s.bit R.CAL_STAT F.CAL_STAT_BUSY = false :=
  ⟨fr (z) .idle (cOf 0x50 (nop 4 ++ [31])), 31, cOf 0x50 (nop 4 ++ [31]), by decide⟩
theorem wit_RecordCommands_2 : ∃ (s : State) (q : Nat) (c : Cmd), Front s q 0x51 c ∧ s.cmdMode ∈ modesCPSI ∧
    2 ≤ c.args.length ∧ c.arg 0 1 = 1 ∧ c.arg 1 1 ≤ 63 ∧ c.arg 1 1 / 32 = 1 ∧
    s.bit R.MEM_BIST_STAT F.MEM_BIST_STAT_BUSY = false :=
  ⟨fr (z) .print (cOf 0x51 ([1, 32])), 31, cOf 0x51 ([1, 32]), by decide⟩
theorem wit_RecordCommands_3 : ∃ (s : State) (q : Nat) (c : Cmd), Front s q 0x51 c ∧ s.cmdMode = .idle ∧ 2 ≤ c.args.length ∧
    c.arg 0 1 = 2 :=
  ⟨fr (z) .idle (cOf 0x51 ([2, 0])), 31, cOf 0x51 ([2, 0]), by decide⟩
theorem wit_RecordCommands_4 : ∃ (s : State) (q : Nat) (c : Cmd), Front s q 0x70 c ∧ 16 ≤ c.args.length ∧ c.arg 0 4 % 8 = 0 ∧
    c.arg 4 4 % 8 = 0 ∧ c.arg 0 4 + c.arg 4 4 ≤ 0x100000 ∧ s.chipFaulty (bankB + c.arg 0 4) (c.arg 4 4) = none ∧
    s.refusal 1 (bankB + c.arg 0 4) (c.arg 4 4) false = none :=
  ⟨fr (regM 1 15 0xF00 0xFFF z) .boot (cOf 0x70 (leBytes 4 0 ++ leBytes 4 64 ++ leBytes 8 4096)), 31,
    cOf 0x70 (leBytes 4 0 ++ leBytes 4 64 ++ leBytes 8 4096), by decide⟩
theorem wit_RecordCommands_5 : ∃ (s : State) (q : Nat) (a : Nat) (c : Cmd), Front s q 0x70 c ∧ 16 ≤ c.args.length ∧
    c.arg 0 4 % 8 = 0 ∧ c.arg 4 4 % 8 = 0 ∧ c.arg 0 4 + c.arg 4 4 ≤ 0x100000 ∧ c.arg 0 4 / 8 ≤ a ∧
    a < (c.arg 0 4 + c.arg 4 4) / 8 :=
  ⟨fr (z) .boot (cOf 0x70 (leBytes 4 0 ++ leBytes 4 64 ++ leBytes 8 4096)), 31, 3,
    cOf 0x70 (leBytes 4 0 ++ leBytes 4 64 ++ leBytes 8 4096), by decide⟩
theorem wit_RecordCommands_6 : ∃ (s : State) (q : Nat) (c : Cmd), Front s q 0x71 c ∧ 16 ≤ c.args.length ∧ c.arg 0 2 ≠ 0 ∧
    c.arg 0 2 ≤ 256 ∧ c.arg 2 1 ≤ 1 :=
  ⟨fr ({ z with evQueue := [logE] }) .print (cOf 0x71 ([0, 1, 0] ++ nop 13)), 31, cOf 0x71 ([0, 1, 0] ++ nop 13), by decide⟩
theorem wit_SecurityCommands_1 : ∃ (s : State) (q : Nat) (c : Cmd), Front s q 0x80 c ∧ 4 ≤ c.args.length ∧ c.arg 0 2 < 512 ∧
    c.arg 2 2 = 1 ∧ ((c.arg 0 2 < 128 ∨ 136 ≤ c.arg 0 2)) :=
  ⟨fr (z) .print (cOf 0x80 ([255, 1, 1, 0])), 31, cOf 0x80 ([255, 1, 1, 0]), by decide⟩
theorem wit_SecurityCommands_2 : ∃ (s : State) (q : Nat) (c : Cmd), Front s q 0x80 c ∧ 4 ≤ c.args.length ∧ 128 ≤ c.arg 0 2 ∧
    c.arg 0 2 < 136 ∧ c.arg 2 2 = 1 :=
  ⟨fr (z) .print (cOf 0x80 ([135, 0, 1, 0])), 31, cOf 0x80 ([135, 0, 1, 0]), by decide⟩
set_option maxRecDepth 4000 in
theorem wit_SecurityCommands_3 : ∃ (s : State) (q : Nat) (c : Cmd), Front s q 0x81 c ∧ s.cmdMode = .config ∧
    16 ≤ c.args.length ∧ c.arg 0 2 < 512 ∧ c.arg 2 1 ≤ 1 ∧ s.bit R.PWR_STAT F.PWR_STAT_SUPPLY = false ∧
    s.otpRegionState (otpRegionOf (c.arg 0 2)) = 0 ∧ s.otpClash (c.arg 0 2) (c.arg 8 8) = false ∧
    s.otp.refused.contains (c.arg 0 2) = false ∧ ((s.otp.failed.contains (c.arg 0 2) = false ∨ c.arg 2 1 = 1)) ∧
    s.otp.burn = none :=
  ⟨fr (z) .config (cOf 0x81 ([1, 0, 0, 0, 0, 0, 0, 0, 5, 0, 0, 0, 0, 0, 0, 0])), 31, cOf 0x81 ([1, 0, 0, 0, 0, 0, 0, 0, 5, 0,
    0, 0, 0, 0, 0, 0]), by refine ⟨by decide, by decide, by decide, by decide, by decide, by decide, by decide, ?_, by decide,
    by decide, by decide⟩; exact otpClash_blank _ _ _ rfl⟩
theorem wit_SecurityCommands_4 : ∃ (s : State) (q : Nat) (c : Cmd), Front s q 0x82 c ∧ s.cmdMode = .config ∧
    2 ≤ c.args.length ∧ c.arg 0 1 ≤ 2 ∧ c.arg 1 1 = 0xA5 ∧ s.bit R.PWR_STAT F.PWR_STAT_SUPPLY = false ∧
    s.otpRegionState (c.arg 0 1) ≠ 2 ∧ s.otp.burn = none :=
  ⟨fr (z) .config (cOf 0x82 ([2, 0xA5])), 31, cOf 0x82 ([2, 0xA5]), by decide⟩
theorem wit_SecurityCommands_5 : ∃ (s : State) (q : Nat) (c : Cmd), Front s q 0x90 c ∧ s.cmdMode ∈ modesCPSI ∧
    4 ≤ c.args.length ∧ c.arg 0 1 = 1 ∧ s.bit R.OTP_POLICY F.OTP_POLICY_DIAG_ENABLE = true ∧ c.arg 2 2 ≤ 3600 :=
  ⟨fr (z.setBit R.OTP_POLICY F.OTP_POLICY_DIAG_ENABLE true) .print (cOf 0x90 ([1, 0, 0x10, 0x0E])), 31, cOf 0x90 ([1, 0, 0x10,
    0x0E]), by decide⟩
theorem wit_SecurityCommands_6 : ∃ (s : State) (q : Nat) (c : Cmd), Front s q 0x91 c ∧ s.cmdMode ∈ modesCPSI ∧
    20 ≤ c.args.length ∧ s.fijGate = true ∧ c.arg 0 1 ≤ 7 ∧ c.arg 1 1 = 1 ∧ c.arg 7 1 = 0 ∧ ((c.arg 2 1 = 3 ∨ c.arg 2 1 = 4)) ∧
    1 ≤ c.arg 4 1 ∧ c.arg 4 1 ≤ 4 ∧ c.arg 5 1 < 256 ∧ c.arg 6 1 < 256 ∧ c.arg 8 4 ≠ 0 :=
  ⟨fr (({ z with diag := some 9 } : State).setBit R.OTP_POLICY F.OTP_POLICY_DIAG_ENABLE true) .print (cOf 0x91 ([7, 1, 3, 0,
    4, 255, 255, 0, 1, 0, 0, 0] ++ nop 8)), 31, cOf 0x91 ([7, 1, 3, 0, 4, 255, 255, 0, 1, 0, 0, 0] ++ nop 8), by decide⟩
theorem wit_SecurityCommands_7 : ∃ (s : State) (q : Nat) (c : Cmd), Front s q 0xA0 c ∧ s.cmdMode = .config ∧
    6 ≤ c.args.length ∧ c.arg 0 1 = 1 ∧ c.arg 1 1 ≤ 15 ∧ c.arg 2 1 ≠ 0 ∧ c.arg 2 1 ≤ 16 ∧ c.arg 4 2 ≤ 512 ∧
    s.joined = false :=
  ⟨fr (z) .config (cOf 0xA0 ([1, 15, 16, 0] ++ leBytes 2 512)), 31, cOf 0xA0 ([1, 15, 16, 0] ++ leBytes 2 512), by decide⟩
theorem wit_SecurityCommands_8 : ∃ (s : State) (q : Nat) (c : Cmd), Front s q 0xA0 c ∧ s.cmdMode = .config ∧
    6 ≤ c.args.length ∧ c.arg 0 1 = 0 ∧ ((∀ i, i < s.nRows → s.rowSrc i ≠ 4)) :=
  ⟨fr (z) .config (cOf 0xA0 (nop 6)), 31, cOf 0xA0 (nop 6), by decide⟩
theorem wit_GuardWithholds_1 : ∃ (s : State) (i : Nat) (t0 : Nat) (e : Entry) (rest : List Entry), i < s.nRows ∧
    (s.rowAt i).queue = e :: rest ∧ e.locked = true ∧ ((s.portType (i / 2) = 1 → e.latched = true)) ∧ e.kind = .line ∧
    (s.portAt (i / 2)).plane ≠ none ∧ (s.portAt (i / 2)).st ≠ .off ∧ (s.rowAt i).lastFired = some t0 ∧ e.ts < t0 + s.tMin i :=
  ⟨((rowS 63 [{ lineE with locked := true, sent := true }]).modPort 31 (fun p =>
    { p with st := .attached, plane := some 0 })).modRow 63 (fun x => { x with lastFired := some 20000 }), 63, 20000,
    { lineE with locked := true, sent := true }, [], by decide⟩
theorem wit_EmptyEventDelivered_1 : ∃ (s : State) (i : Nat) (e : Entry) (codes : List Nat), i < s.nRows ∧
    (s.rowAt i).queue.find? (fun x => !x.locked) = some e ∧ e.kind = .line ∧ (s.portAt (i / 2)).plane ≠ none ∧
    (s.portAt (i / 2)).barred = false ∧ ((∀ x ∈ (s.rowAt (pairRow i)).queue, x.locked = true)) ∧
    (s.advTo (e.ts - 16000)).blankCause (i / 2) e = none ∧ (s.advTo (e.ts - 16000)).decideCodes i e = (some codes, false) ∧
    codes.all (fun c => decide (c = 0)) = true ∧
    (s.advTo (e.ts - 16000)).ewOver (i / 2) e.ts ((s.advTo (e.ts - 16000)).energyOf (i / 2) codes) = false :=
  ⟨{ lockS with chip := [] }, 0, lineE, [0, 0], by decide⟩
theorem wit_CommitMakesAvailable_1 : ∃ (s : State) (m : Master) (p : Nat) (x : Strip) (rest : List Strip), p < 8 ∧
    s.mayWrite m (R.SCR_PLANE_CTL p) = true ∧ (s.planeAt p).strips = x :: rest :=
  ⟨planeS 7 { strips := [{ count := 5 }] }, .quill, 7, { count := 5 }, [], by decide⟩
theorem wit_CommitMakesAvailable_2 : ∃ (s : State) (m : Master) (p : Nat), p < 8 ∧ s.mayWrite m (R.SCR_PLANE_CTL p) = true ∧
    (s.planeAt p).strips = [] :=
  ⟨z, .quill, 7, by decide⟩
theorem wit_CommitMakesAvailable_3 : ∃ (p : Nat), p < 8 :=
  ⟨7, by decide⟩
theorem wit_FifoRules_1 : ∃ (s : State) (q : Nat), q < 32 ∧ s.qpMode q = 1 ∧ (s.qpAt q).st = 1 ∧ s.ready = true ∧
    16 ≤ (s.qpAt q).sq.length ∧ s.evFifo.length < 256 :=
  ⟨qpS 31 { st := 1, mode := 1, sq := List.replicate 16 { op := 1 } }, 31, by decide⟩
theorem wit_FifoRules_2 : ∃ (s : State) (q : Nat), q < 32 ∧ s.qpMode q = 1 ∧ (s.qpAt q).st = 1 ∧ s.ready = false ∧
    s.evFifo.length < 256 :=
  ⟨{ z with qps := [(31, { st := 1, mode := 1 })] }, 31, by decide⟩
theorem wit_FifoRules_3 : ∃ (s : State) (q : Nat), s.qpMode q = 1 ∧ 16 ≤ (s.qpAt q).cq.length :=
  ⟨qpS 31 { st := 1, mode := 1, cq := List.replicate 16 [0], sq := [{ op := 1 }] }, 31, by decide⟩
theorem wit_FifoRules_4 : ∃ (s : State) (q : Nat), q < 32 ∧ (s.qpAt q).cq = [] ∧ (s.qpAt q).sq = [] :=
  ⟨qpS 31 { st := 1, mode := 1 }, 31, by decide⟩

theorem wit_IdleStepCounts : ∃ s : State, s.pending = [] := ⟨z, rfl⟩
theorem wit_PartAndQueueKept : ∃ (c : Instr) (s t : State), exec c s = .next t := ⟨.vmainGood, z, _, rfl⟩
theorem wit_FlashWrittenByUpdateOnly : ∃ (c : Instr) (s t : State), (∀ q data, c ≠ .fwUpdate q data) ∧ exec c s = .next t :=
  ⟨.vmainGood, z, _, fun _ _ h => Instr.noConfusion h, rfl⟩
theorem wit_RunningSlotNeverWritten : ∃ (s t : State) (a : Nat), step s = .next t ∧ slotBase s.runSlot ≤ a ∧
    a < slotBase s.runSlot + 0x800000 :=
  ⟨{ z with pending := [.vmainGood] }, _, 0x7FFFFF, rfl, by decide, by decide⟩
theorem wit_FlashStaysCanonical : ∃ s t : State, s.FlashInv ∧ step s = .next t :=
  ⟨{ z with flash := [(5, 1), (9, 2)], pending := [.vmainGood] }, _, rfl, rfl⟩
theorem wit_OtpBitsNeverCleared : ∃ (c : Instr) (s t : State), (∀ reads, c ≠ .otpStartRead reads) ∧ exec c s = .next t :=
  ⟨.vmainGood, z, _, fun _ h => Instr.noConfusion h, rfl⟩
theorem wit_RegisterReads_2 : ∃ (s : State) (off : Nat) (r : RegSpec) (i j : Nat), s.regOf off = some (r, i, j) :=
  ⟨z, R.SYS_ID, _, _, _, rfl⟩
theorem wit_RegisterReads_3 : ∃ (s : State) (m : Master) (off : Nat) (r : RegSpec) (i j : Nat), s.mayWrite m off = true ∧
    s.regOf off = some (r, i, j) ∧ r.base ∈ plainBases :=
  ⟨z, .host, R.SYS_HOST_AP, _, _, _, by decide, rfl, by decide⟩
theorem wit_FramesReadBack_1 : ∃ (ty src hops seq dst oseq : Nat) (payload : List Nat), ty < 256 ∧ src < 16 ∧ hops < 16 ∧
    seq < 65536 ∧
    dst < 256 ∧ oseq < 65536 ∧ payload.length ≤ 52 ∧ (∀ x ∈ payload, x < 256) :=
  ⟨255, 15, 15, 65535, 255, 65535, List.replicate 52 255, by decide⟩
theorem wit_FramesReadBack_2 : ∃ (ty row reason seq : Nat) (head : List Nat), ty < 16 ∧ row < 2 ∧ reason < 8 ∧ seq < 256 ∧
    head = [ty + row * 16 + reason * 32, seq] :=
  ⟨15, 1, 7, 255, _, by decide, by decide, by decide, by decide, rfl⟩
theorem wit_EncoderFrame : ∃ (c : Instr) (s t : State) (k : Nat), c = .encLoss k ∧ exec c s = .next t ∧ t.enc ≠ s.enc :=
  ⟨.encLoss 3, encS 3 { st := .track, lossDue := some 2 }, _, 3, rfl, rfl, by decide⟩
theorem wit_PortFrame : ∃ (c : Instr) (s t : State) (n : Nat), c = .detectReturn n ∧ exec c s = .next t ∧ t.ports ≠ s.ports :=
  ⟨.detectReturn 31, portS 31 2 { st := .record, waitDetect := true }, _, 31, rfl, rfl, by decide⟩
theorem wit_DmaFrame : ∃ (i : Instr) (s t : State) (c : Nat), i = .dmaChStart none c ∧ exec i s = .next t ∧ t.regs ≠ s.regs :=
  ⟨.dmaChStart none 63, z, _, 63, rfl, rfl, by decide⟩
theorem wit_MailboxFrame : ∃ (c : Instr) (s t : State) (q : Nat), c = .z2Pop q ∧ exec c s = .next t ∧ t.qps ≠ s.qps :=
  ⟨.z2Pop 31, qpS 31 { st := 1, mode := 1, cq := [[1]] }, _, 31, rfl, rfl, by decide⟩
theorem wit_ScreenLineFrame : ∃ (s t : State) (p : Nat), p < 8 ∧ s.dramBad = [] ∧ exec (.screenLine p [] none) s = .next t ∧
    s.screenMay p = true :=
  ⟨scrS, _, 7, by decide, rfl, rfl, by decide⟩

/-! A signed firmware image, for the statements about one. -/
def fwKey : List Nat := 4 :: (beBytes 32 p256Gx ++ beBytes 32 p256Gy)
def fwHead : List Nat := [0x53, 0x58, 0x51, 0x46, 9] ++ nop 19 ++ fwKey ++ nop 103
def fwImg : List Nat := fwHead ++ beBytes 32 (p256Gx % p256N) ++ beBytes 32
    104031403375152393460439221865993874338155869063823321769561233137349068580841
def fwS : State := { z with flash := memWrite [] (slotBase 0) fwImg }.setStage 3
theorem fw_signed : ecdsaVerify fwKey (fwImg.drop 192) fwHead = true := by decide +kernel
theorem fw_image_ok (s : State) (h : s.fwKeySet = false) : s.imageOk fwImg [] = true := by
  unfold State.imageOk
  simp only [h]
  have h1 : (fwImg.drop 0x18).take 65 = fwKey := by decide +kernel
  have h2 : (fwImg.drop 0xC0).take 64 = fwImg.drop 192 := by decide +kernel
  have h3 : fwImg.take 0xC0 ++ [] = fwHead := by decide +kernel
  rw [h1, h2, h3, fw_signed]
  simp only [Bool.not_false, if_true, Bool.and_true]
  decide +kernel
theorem wit_StartRows_5 : ∃ s : State, 3 ≤ s.stage ∧ s.stage < 5 ∧ s.bit R.SYS_BOOT_STAT F.SYS_BOOT_STAT_NO_FW = false ∧
    leAt (s.slotHead 1) 0x0C 4 ≤ leAt (s.slotHead 0) 0x0C 4 ∧ s.imageOk (s.slotHead 0) (s.slotBody 0) = true := by
  refine ⟨fwS, by decide +kernel, by decide +kernel, by decide +kernel, by decide +kernel, ?_⟩
  rw [show fwS.slotHead 0 = fwImg by decide +kernel, show fwS.slotBody 0 = [] by decide +kernel]
  exact fw_image_ok _ (by decide +kernel)
theorem wit_SecurityCommands_9 : ∃ (s : State) (c : Cmd) (d img : List Nat), Front s 31 0xF0 c ∧
    ((s.cmdMode = .config ∨ s.cmdMode = .idle)) ∧ 12 ≤ c.args.length ∧ c.arg 8 4 ≤ 0x800000 ∧
    s.fwImage c (some d) = some img := by
  refine ⟨fr z .config (cOf 0xF0 (nop 8 ++ leBytes 4 256)), cOf 0xF0 (nop 8 ++ leBytes 4 256), fwImg,
    fwImg.take 0x0C ++ leBytes 4 1 ++ fwImg.drop 0x10, by decide, by decide, by decide, by decide, ?_⟩
  · unfold State.fwImage
    simp only []
    have e1 : List.take ((cOf 0xF0 (nop 8 ++ leBytes 4 256)).arg 8 4)
        (fwImg ++ List.replicate ((cOf 0xF0 (nop 8 ++ leBytes 4 256)).arg 8 4) 0) = fwImg := by decide +kernel
    have e2 : List.take 256 fwImg = fwImg := by decide +kernel
    have e3 : List.take (leAt fwImg 8 4) (List.drop 256 fwImg) = [] := by decide +kernel
    rw [e1, e2, e3, fw_image_ok _ (by decide +kernel)]
    exact (if_neg (by decide +kernel)).trans (by decide +kernel)

/-! Refusals of WellFormed: one ill-formed command for each check, and a well-formed one beside it at the bound. -/
theorem wf_row : Instr.wellFormed (.strobeFire 64) = false ∧ Instr.wellFormed (.strobeFire 63) = true := by decide
theorem wf_port : Instr.wellFormed (.headDetect 32) = false ∧ Instr.wellFormed (.headDetect 31) = true := by decide
theorem wf_channel : Instr.wellFormed (.encLoss 4) = false ∧ Instr.wellFormed (.encLoss 3) = true := by decide
theorem wf_plane : Instr.wellFormed (.jobEnd 8) = false ∧ Instr.wellFormed (.jobEnd 7) = true := by decide
theorem wf_dma : Instr.wellFormed (.dmaDrainEnd 64) = false ∧ Instr.wellFormed (.dmaDrainEnd 63) = true := by decide
theorem wf_queue : Instr.wellFormed (.getInfo 32) = false ∧ Instr.wellFormed (.getInfo 31) = true := by decide
theorem wf_vector : Instr.wellFormed (.msixCoalesceExpiry 64) = false := by decide
theorem wf_mboca : Instr.wellFormed (.mbocaRetry 2) = false ∧ Instr.wellFormed (.mbocaRetry 1) = true := by decide
theorem wf_bank : Instr.wellFormed (.sramScrubWindow 6 1 none) = false := by decide
theorem wf_zone : Instr.wellFormed (.thermalFeExpiry 0 8) = false ∧
    Instr.wellFormed (.thermalFeExpiry 31 7) = true := by decide
theorem wf_pin : Instr.wellFormed (.oneShotTrip 0 4) = false := by decide
theorem wf_causes : Instr.wellFormed (.admitStopClear 8) = false := by decide
theorem wf_retention : Instr.wellFormed (.retentionEnter .quill 16) = false ∧
    Instr.wellFormed (.bankAwake 4) = false := by decide
theorem wf_bist : Instr.wellFormed (.memBistGo .quill 64) = false := by decide
theorem wf_otp : Instr.wellFormed (.otpRdAddr .quill 512) = false ∧
    Instr.wellFormed (.otpRdAddr .quill 511) = true := by decide
theorem wf_register : Instr.wellFormed (.registerWrite .host 2 0 true) = false ∧
    Instr.wellFormed (.latchingRead 0x4000000) = false ∧ Instr.wellFormed (.rcRead 0x3FFFFFC) = true := by decide
theorem wf_bar2 : Instr.wellFormed (.bar2Access 0x1000000 4 none none) = false ∧
    Instr.wellFormed (.bar2Access 0 4097 none none) = false := by decide
theorem wf_bar4 : Instr.wellFormed (.bar4Access (2 ^ 32) 4 none) = false ∧
    Instr.wellFormed (.bar4Access 0 0 none) = false := by
  decide
theorem wf_alias : Instr.wellFormed (.aliasBitSet 0 0 5 0) = false ∧ Instr.wellFormed (.aliasBitClear 4 0 4 0) = false := by
  decide
theorem wf_doorbell : Instr.wellFormed (.z3SqDoorbell 0 4096) = false ∧
    Instr.wellFormed (.dmaDoorbell .host 0 (2 ^ 32)) = false := by
  decide
theorem wf_push : Instr.wellFormed (.z2Push 0 (2 ^ 32) none) = false ∧
    Instr.wellFormed (.scrStripPush .quill 0 (2 ^ 24)) = false := by
  decide
theorem wf_mask : Instr.wellFormed (.thermBlkClear .quill (2 ^ 32)) = false ∧
    Instr.wellFormed (.hpWdogClear .quill 0 (2 ^ 32)) = false ∧ Instr.wellFormed (.dmaBusErr 0 16 0) = false := by decide

/-! Behaviour of single commands, the values taken from the rules named. -/

/-- The state a command leads to. -/
def after (c : Instr) (s : State) : State := match exec c s with
  | .next t => t
  | _ => s
/-- The status of the last completion of queue pair 31, byte 2 of the entry (R422). -/
def status (s : State) : Nat := (((s.qpAt 31).cq.getLast?).getD []).getD 2 0xFF

/-- R47. -/
theorem test_sys_id : z.regValue R.SYS_ID = 0x0008B020 ∧
    ({ z with part := .sxv0800 } : State).regValue R.SYS_ID = 0x0008B008 := by
  decide
/-- R252, R566: reset values. -/
theorem test_reset_values : z.getN R.DCT_THERM_FE = 0x09C40050 ∧ z.mode = .boot ∧ z.chip = [(0x0F00000, 1)] := by decide
theorem test_step_front : step { z with pending := [.perstRelease, .vmainGood] } = exec .perstRelease
    { z with pending := [.vmainGood] } := rfl
theorem test_step_idle : step z = .next { z with dt := 1 } := rfl
theorem test_absent : exec (.headDetect 8) { z with part := .sxv0800 } = .next { z with part := .sxv0800 } := rfl
/-- R516: a trigger on a tick boundary gives T_P at the next one. -/
theorem test_park_boundary :
    (after .parkSequenceStart { z with mode := .config, dt := 8000, pw := { parkPend := true, parkTrig := 8000 } }).pw.parkAt
    =
      some 16000 := by decide
/-- R29. -/
theorem test_overrun_event : (after .tickOverrun { z with overDue := true }).evFifo.map (·.code) = [0x1003] := by decide
/-- R119: an entry T_min - 1 DT after the last one is withheld, one T_min after it fires. -/
theorem test_guard_withholds : (after (.strobeFire 63) (((rowS 63 [{ lineE with locked := true, ts := 21000 }]).modPort 31
    (fun p => { p with st := .attached, plane := some 0 })).modRow 63
    (fun x => { x with lastFired := some 21000 }))).fld (R.DCT_ROW_ND 63 reasonOverspeed) ⟨0, 32⟩ = 1 := by decide
theorem test_guard_edge : ((rowS 62 []).modRow 62 (fun x => { x with lastFired := some 1000 })).guardStops 62
    { lineE with ts := 1000 + (rowS 62 []).tMin 62 } = false := by decide
/-- R153. -/
theorem test_commit_adds : ((after (.scrCommit .quill 7) (planeS 7
    { strips := [{ count := 5 }, { count := 6 }], avail := 2 })).planeAt 7).avail = 7 := by
  decide
theorem test_commit_empty : (after (.scrCommit .quill 7) z).bit (R.SCR_PLANE_STAT 7) F.SCR_PLANE_STAT_FIFO_OVF = true := by
    decide
/-- R423. -/
theorem test_denied : (after (.registerWrite .host 0x300004 1 true) z).getN R.MBX_DENY_ADDR = 0x300004 ∧
    (after (.registerWrite .host 0x300004 1 true) z).getN R.MBX_HOST_DENY = 1 := by decide
/-- R416: an access across a 64-byte boundary aborts. -/
theorem test_bar2_boundary : (after (.bar2Access 60 5 none none) z).out = [.abort] := by decide
/-- R390: the alias sets the bits written and no other. -/
theorem test_alias_set : cellGet byte0 (after (.aliasBitSet 0 8 4 0x81) { z with chip := [(8, 2), (0x0F00000, 1)] }).chip 8 =
    0x83 := by
  decide
/-- R430: a full submission FIFO drops the push; R429, R422: a command submitted is taken by its row alone. -/
theorem test_push_full : (after (.z2Push 31 0 none) (qpS 31
    { st := 1, mode := 1, sq := List.replicate 16 { op := 1 } })).evFifo.map
    (fun e => (e.code, e.obj)) = [(0x7001, 31)] := by decide
theorem test_push_taken : ((after (.z2Push 31 0 none) (qpS 31 { st := 1, mode := 1, asm := [0x03, 0, 0] })).qpAt 31).sq.map
    (·.op) =
    [3] := by decide
/-- R425: outside CONFIG a command of CONFIG is DENIED, in BOOT NOT_READY; a short argument block is BAD_ARG. -/
theorem test_denied_mode : status (after (.planeDefine 31) (fr z .print (cOf 0x10 (nop 16)))) = 5 := by decide
theorem test_boot_mode : status (after (.planeDefine 31) (fr z .boot (cOf 0x10 (nop 16)))) = 3 := by decide
theorem test_short_args : status (after (.planeDefine 31) (fr z .config (cOf 0x10 (nop 15)))) = 4 := by decide
/-- R477: a lock without its confirmation byte is BAD_ARG. -/
theorem test_lock_confirm : status (after (.otpLock 31) (fr z .config (cOf 0x82 [2, 0xA4]))) = 4 := by decide
/-- R562: a master-key word shows 0. -/
theorem test_key_hidden : (after (.otpRdAddr .quill 128) { z with otp := { vals := [(128, 7)] } }).getN R.OTP_RD_DATA_LO = 0 ∧
    (after (.otpRdAddr .quill 127) { z with otp := { vals := [(127, 7)] } }).getN R.OTP_RD_DATA_LO = 7 := by decide
/-- R276: 69,447 counts at NF 16 are 85.25 degrees, 1364 sixteenths. -/
theorem test_type_s_temp : (after (.typeSTempMeasure 31 69447) ((portS 31 1 { st := .attached }).setFld (R.HP_TS_CFG 31)
    F.HP_TS_CFG_NF 16)).fld (R.HP_TEMP 31 0) F.HP_TEMP_TEMP = 1364 := by decide
/-- R83: a recovery adds whole periods. -/
theorem test_recovery : ((after (.encRecovery 1) (encS 1 { st := .coast, recovDue := some (-2), m := 5 })).encAt 1).m = 5 - 2
    * 65536 := by
  decide
/-- R10, R572: device time wraps to 0. -/
theorem test_dt_wrap : (after .dtWrap { z with dt := 0xFFFFFFFFFFFFFFFF }).dt = 0 := by decide
/-- R541: SHA-256 of the three bytes abc (the example of FIPS 180). -/
theorem test_sha256 : (sha256 [0x61, 0x62, 0x63]).take 4 = [0xBA, 0x78, 0x16, 0xBF] := by decide +kernel

/-- The outputs in the column "BOOT" of R605, with no port type set, and R516's CAP_REQ from step 3 of a PARK. -/
def onS : State := { z with pw := { good := true } }.setStage 1
theorem test_pins_at_boot : onS.pinPrintPermit = .sunk ∧ onS.pinCapReq = .released ∧ onS.pinFireEn 3 = .low ∧
    onS.pinPair 3 0 true = .highZ ∧ onS.pinBus 3 = .released ∧ onS.pinTsense 3 = .quiet ∧ onS.pinV3p3 = .on ∧
    onS.pinPcie = .quiet ∧
    onS.pinClkreq = .sunk ∧ onS.pinMboca = .quiet ∧
    (onS.setBit R.PWR_STAT F.PWR_STAT_CAP_REQ true).pinCapReq = .sunk := by decide
/-- R598, R599, R605: without power every ball that R605 lists so is in high impedance, FIRE_EN low and V3P3_OUT off. -/
theorem test_pins_unpowered : z.pinPrintPermit = .highZ ∧ z.pinFireEn 3 = .low ∧ z.pinV3p3 = .off := by decide
/-- A port OFF drives its pairs inactive once TYPE is set, low in Type S; the two-wire bus is a Type S port's alone (R254, R255, R605). -/
def pinS (ty : Nat) (p : Port) : State := { portS 31 ty p with pw := { good := true } }.setStage 7
theorem test_pins_port : (pinS 1 {}).pinPair 31 9 true = .low ∧ (pinS 2 {}).pinPair 31 9 true = .terminated ∧
    (pinS 2 {}).pinPair 31 0 false = .inactive ∧ (pinS 1 { st := .detect }).pinPair 31 3 false = .low ∧
    (pinS 1 { st := .detect }).pinBus 31 = .inUse ∧ (pinS 2 { st := .detect }).pinBus 31 = .released := by decide
/-- R604: while the TAP holds an IEEE 1149.1 instruction, a ball whose cell observes only keeps its reset state. -/
theorem test_pins_scan : { onS with scan := true }.pinPrintPermit = .sunk ∧
    { pinS 2 { st := .detect } with scan := true }.pinPair 31 0 true =
    .highZ := by decide

end Sys2Proof.Tests
end

section
/-! PROOFS. The scope of the block: every command answers, an idle step counts, and what a read of a register does. -/
namespace Sys2Proof.Machine

/-! What every command answers. -/

/-- A command of a unit the part lacks answers the state as it is (R4, R46). -/
theorem onUnit_of_le {i b : Nat} {s : State} {o : Host.Outcome State Fault Refusal} (h : b ≤ i) : onUnit i b s o = .next s := by
  unfold onUnit
  rw [if_neg (Nat.not_lt.mpr h)]
  rfl

/-- A command of one unit answers a next state where what it answers of that unit is one. -/
theorem onUnit_answers {i b : Nat} {s : State} {o : Host.Outcome State Fault Refusal} (h : ∃ t, o = .next t) :
    ∃ t, onUnit i b s o = .next t := by
  obtain hi | hi := Nat.lt_or_ge i b
  · rwa [onUnit_of_lt hi]
  · exact ⟨s, onUnit_of_le hi⟩

/-- Every command answers a next state: those of the whole block seal their effect, those of one unit go through `onUnit`. -/
theorem exec_answers (c : Instr) (s : State) : ∃ t, exec c s = .next t := by
  cases c
  case vmainGood | underVoltageLockout | switchover | returnMain | parkNAsserted | parkNRelease | retQual | bkpOkChange
      | sysRstN | overTemperatureReset | functionLevelReset | perstRelease | pcieLinkUp | parkSequenceStart | parkHorizon
      | parkDone | parkExit | controllerResetRelease | otpStartRead | otpDigestCheck | startCalibrationDone | firmwareVerify
      | ready | enumerationComplete | idleDelayExpiry | serviceWorkComplete | idleSelect | idleWakeStart | idleWakeDone
      | quillWatchdogExpiry | loopParityError | controlTick | tickOverrun | dtWrap | dmaGhaltClear | aliasBitSet
      | aliasBitClear | bar2Access | bar4Access | dramScrub | bistWindow | memBistGo | memBistAbort | retentionEnter
      | retentionWake | bankAwake | lOffSet | lOffClear | lInitDone | z1Go | diagSessionTimeout | registerWrite
      | latchingRead | rcRead | admitStopClear | announceSend | masterElection | syncReqSend | chainCoastTimeout
      | joinTimeout | blotterFlush | bltFlush | flushDone | eventQueueMove | calTrack | calGo | calDone | logicBistDone
      | thermBlkClear | otpReread | otpProgGo | otpLockGo | otpRdAddr | otpBurnDone =>
    exact ⟨_, rfl⟩
  all_goals exact onUnit_answers ⟨_, rfl⟩

/-- A sealed answer has the part and the queue of the state it was given in (R1). -/
theorem Sealed.part_pending {c : Instr} {s t : State} (h : Sealed c s t) : t.part = s.part ∧ t.pending = s.pending := by
  cases c
  case fwUpdate => obtain ⟨u, rfl | rfl⟩ := h <;> exact ⟨rfl, rfl⟩
  all_goals
    obtain ⟨u, rfl⟩ := h
    exact ⟨rfl, rfl⟩

/-- A step with no command waiting. -/
theorem step_of_pending_nil {s : State} (h : s.pending = []) : step s = .next { s with dt := s.dt + 1 } := by
  unfold step
  rw [h]

/-! What a read does to the register file. -/

/-- Taking a word, from its latch or from the register, writes no register (R52). -/
theorem readWord_regs (s : State) (off : Nat) : (s.readWord off).2.regs = s.regs := by
  unfold State.readWord
  split <;> rfl

/-- A read writes the register file only where it clears the register's RC fields (R15). -/
theorem readReg_regs (s : State) (off : Nat) :
    (s.readReg off).regs =
      if s.rcMask off = 0 then s.regs else (s.setN off (s.getN off - (s.getN off &&& s.rcMask off))).regs := by
  unfold State.readReg
  by_cases h : s.rcMask off = 0
  · simp [h, readWord_regs]
  · simp [h, State.setN, State.set, readWord_regs]

/-- The next state of LATCHING_READ has the register file that the read leaves. -/
theorem latchingRead_regs {s t : State} {off : Nat} (h : exec (.latchingRead off) s = .next t) :
    t.regs = (s.readReg off).regs := by
  rw [answer_eq_next h, State.seal_regs]

end Sys2Proof.Machine

namespace Sys2Proof.Proofs
open Sys2Proof Sys2Proof.Machine

/-- Settles O2. -/
theorem idleStepCounts : Obligations.IdleStepCounts := by
  unfold Obligations.IdleStepCounts
  exact fun _ => step_of_pending_nil

/-- Settles O3: every next state is sealed, and the seal keeps the part and the queue. -/
theorem partAndQueueKept : Obligations.PartAndQueueKept := by
  unfold Obligations.PartAndQueueKept
  exact fun c s t h => (exec_sealed c s t h).part_pending

/-- Settles O9: every arm of `exec` answers, and the arm of a unit refuses a number the part lacks in `onUnit`. -/
theorem wellFormedCompletes : Obligations.WellFormedCompletes := by
  unfold Obligations.WellFormedCompletes
  refine ⟨fun c s => ?completes, fun _ _ => onUnit_of_le, fun _ _ => onUnit_of_le, fun _ _ => onUnit_of_le,
    fun _ _ => onUnit_of_le, fun _ _ => onUnit_of_le, fun _ _ => onUnit_of_le, fun _ _ => onUnit_of_le⟩
  obtain ⟨t, ht⟩ := exec_answers c s
  exact ⟨t, ht, partAndQueueKept c s t ht⟩

/-- Refutes O38: its first clause has LATCHING_READ keep the register file at every offset, but a read of SYS_TICK_STAT
clears its RC field MAX_DONE (R15, R50), here 1. -/
theorem not_registerReads : ¬ Obligations.RegisterReads := by
  unfold Obligations.RegisterReads
  rintro ⟨hread, -, -⟩
  obtain ⟨t, hrun, -, -, hregs, -, -⟩ := hread (State.reset.setFld R.SYS_TICK_STAT F.SYS_TICK_STAT_MAX_DONE 1)
    R.SYS_TICK_STAT rfl
  rw [latchingRead_regs hrun, readReg_regs] at hregs
  exact absurd hregs (by decide)

end Sys2Proof.Proofs
end

section
/-! PROOFS. Encoder channels: what a command of one channel leaves as it is, and the state it leaves the channel in. -/
namespace Sys2Proof.Machine

/-! Commands of one unit. -/

/-- A command that answers the effect `u` on unit `i` runs on a unit the part has, and what holds of the sealed `u` holds of
its next state. -/
theorem Runs.of_onUnit {c : Instr} {s u : State} {i b : Nat} {P : State → Prop} (hc : exec c s = onUnit i b s (s.answer u))
    (hi : i < b) (hP : P (s.seal u)) : Runs c s P :=
  ⟨s.seal u, hc.trans (onUnit_of_lt hi), hP⟩

/-! Fields and bits of a register beside the one written. -/

section
variable (s : State) {a b : Nat} {f g : Fld} (v : Nat)

theorem State.bit_setFld_ne (h : a ≠ b) : (s.setFld a f v).bit b g = s.bit b g := by
  unfold State.bit
  rw [State.fld_setFld_ne _ _ _ _ _ _ h]

theorem State.bit_setFld_beside (h : f.lo + f.w ≤ 32) (hg : f.lo + f.w ≤ g.lo ∨ g.lo + g.w ≤ f.lo) :
    (s.setFld a f v).bit a g = s.bit a g := by
  unfold State.bit
  rw [State.fld_setFld_beside _ _ _ _ _ h hg]

end

/-- A bit of a field. -/
theorem testBit_bits (v lo w j : Nat) : (bits v lo w).testBit j = (decide (j < w) && v.testBit (j + lo)) := by
  unfold bits
  rw [Nat.testBit_mod_two_pow, Nat.testBit_div_two_pow]

/-- The fields of a word that lie within a mask are those of the word masked. -/
theorem bits_and (v m lo w : Nat) (h : ∀ j < w, m.testBit (j + lo) = true) : bits (v &&& m) lo w = bits v lo w := by
  apply Nat.eq_of_testBit_eq
  intro j
  rw [testBit_bits, testBit_bits, Nat.testBit_and]
  by_cases hj : j < w
  · simp [hj, h j hj]
  · simp [hj]

/-- The fields of a word within its low 32 bits. -/
theorem bits_mod (v lo w : Nat) (h : lo + w ≤ 32) : bits (v % 2 ^ 32) lo w = bits v lo w := by
  apply Nat.eq_of_testBit_eq
  intro j
  rw [testBit_bits, testBit_bits, Nat.testBit_mod_two_pow]
  by_cases hj : j < w
  · simp [hj, show j + lo < 32 by omega]
  · simp [hj]

/-- An RW field takes the value written (R15). -/
theorem bits_regWritten (r : RegSpec) (old v : BitVec 32) (lo w : Nat) (h : ∀ j < w, r.rw.getLsbD (j + lo) = true) :
    bits (regWritten r old v).toNat lo w = bits v.toNat lo w := by
  apply Nat.eq_of_testBit_eq
  intro j
  rw [testBit_bits, testBit_bits, BitVec.testBit_toNat, BitVec.testBit_toNat]
  by_cases hj : j < w
  · simp only [regWritten, BitVec.getLsbD_or, BitVec.getLsbD_and, BitVec.getLsbD_not, h j hj]
    simp only [Bool.not_true, Bool.and_false, Bool.false_and, Bool.false_or, Bool.and_true]
    cases v.getLsbD (j + lo) <;> simp
  · simp [hj]

/-- A field that the access codes let a write change reads as written (R15). -/
theorem plain_fld (s : State) (r : RegSpec) (a v : Nat) (f : Fld) (hf : f.lo + f.w ≤ 32)
    (h : ∀ j < f.w, r.rw.getLsbD (j + f.lo) = true) : (s.plain r a v).fld a f = bits v f.lo f.w := by
  unfold State.plain State.fld State.getN
  rw [State.get_set, bits_regWritten { r with w1s := 0 } _ _ _ _ h, BitVec.toNat_ofNat, bits_mod _ _ _ hf]

/-! The rules of the channel's shared operations. -/

section
variable (s : State) (k i code j : Nat) (stat : Fld) (cnt : Option Fld) (f : Enc → Enc)

@[simp] theorem encEvent_encAt : (s.encEvent k code j stat cnt).encAt i = s.encAt i := by
  cases cnt <;> rfl

/-- Of ENC_STAT an event sets its sticky bit. -/
theorem encEvent_bit (g : Fld) :
    (s.encEvent k code j stat cnt).bit (R.ENC_STAT k) g = (s.setBit (R.ENC_STAT k) stat true).bit (R.ENC_STAT k) g := by
  cases cnt with
  | none => rfl
  | some c => exact State.bit_setFld_ne _ _ (by simp)

@[simp] theorem clearAcq_encAt : (s.clearAcq k).encAt i = s.encAt i := rfl

theorem clearAcq_acq : (s.clearAcq k).bit (R.ENC_CFG k) F.ENC_CFG_ACQ = false :=
  State.bit_setBit _ _ _ _ (by decide) (by decide)

@[simp] theorem clearAcq_encMode : (s.clearAcq k).encMode k = s.encMode k := by
  unfold State.encMode State.clearAcq State.setBit
  rw [State.fld_setFld_beside _ _ _ _ _ (by decide) (by decide)]

@[simp] theorem modEnc_encMode : (s.modEnc k f).encMode i = s.encMode i := rfl

@[simp] theorem absClock_encMode : (s.absClock k).encMode k = s.encMode k := by
  unfold State.encMode State.absClock State.fld
  rw [State.getN_setN_ne _ _ _ _ (by simp)]

@[simp] theorem encStart_encAt_st (m v : Int) : ((s.encStart k m v).encAt k).st = .track := by
  simp [State.encStart]

@[simp] theorem encQualify_encAt_st : ((s.encQualify k).encAt k).st = .qualify := by
  simp [State.encQualify]

@[simp] theorem encOff_encAt_st : ((s.encOff k).encAt k).st = .off := by
  simp [State.encOff]

@[simp] theorem encOff_encMode : (s.encOff k).encMode k = s.encMode k := by
  simp [State.encOff]

@[simp] theorem trackStop_none_encAt : (s.trackStop k none).encAt i = s.encAt i := by
  simp only [State.trackStop]
  split <;> rfl

end

/-- A failed read of a channel that counts (R71): the read ends, and the third in a row raises ABS_COMM and ABS_DRIFT. -/
def State.absFailCount (s : State) (k : Nat) : State :=
  let t := s.modEnc k (fun e => { e with reading := false, absFails := e.absFails + 1 })
  if (s.encAt k).absFails + 1 = 3 then (t.setBit (R.ENC_STAT k) F.ENC_STAT_ABS_COMM true).absDrift k else t

theorem absReadFail_of_track {s : State} {k : Nat} (hst : (s.encAt k).st = .track) : s.absReadFail k = s.absFailCount k := by
  simp only [State.absReadFail, hst]
  rfl

/-! What a command of one channel leaves as it is. -/

/-- From `s` to `t` no channel but `k` has changed, no other unit, no memory, not the mode, nothing was sent, and no register
has changed but those that `rs` names. -/
structure ChannelOnly (k : Nat) (rs : Nat → Prop) (s t : State) : Prop where
  enc : ∀ j, j ≠ k → t.encAt j = s.encAt j
  rows : t.rows = s.rows
  ports : t.ports = s.ports
  planes : t.planes = s.planes
  qps : t.qps = s.qps
  chans : t.chans = s.chans
  mode : t.mode = s.mode
  chip : t.chip = s.chip
  dram : t.dram = s.dram
  hostOut : t.hostOut = s.hostOut
  out : t.out = s.out
  get : ∀ a, ¬rs a → t.get a = s.get a

/-- The registers of channel `k` that its events and its acquisition write: CFG, STAT and EVT_CNT. -/
def encRegs (k a : Nat) : Prop := a = R.ENC_CFG k ∨ a = R.ENC_STAT k ∨ a = R.ENC_EVT_CNT k

theorem encRegs_cfg (k : Nat) : encRegs k (R.ENC_CFG k) := .inl rfl
theorem encRegs_stat (k : Nat) : encRegs k (R.ENC_STAT k) := .inr (.inl rfl)
theorem encRegs_evtCnt (k : Nat) : encRegs k (R.ENC_EVT_CNT k) := .inr (.inr rfl)
theorem encRegs_self {k : Nat} : ∀ a, encRegs k a → encRegs k a := fun _ h => h

/-- Every register, for a row whose statement does not say which it writes. -/
def anyReg (_ : Nat) : Prop := True

theorem encRegs_any {k : Nat} : ∀ a, encRegs k a → anyReg a := fun _ _ => trivial

namespace ChannelOnly

variable {k : Nat} {rs : Nat → Prop} {s u : State}

theorem refl : ChannelOnly k rs s s :=
  ⟨fun _ _ => rfl, rfl, rfl, rfl, rfl, rfl, rfl, rfl, rfl, rfl, rfl, fun _ _ => rfl⟩

theorem modEnc (h : ChannelOnly k rs s u) (f : Enc → Enc) : ChannelOnly k rs s (u.modEnc k f) :=
  { h with enc := fun j hj => (State.encAt_mod_ne u k j f hj.symm).trans (h.enc j hj) }

theorem set (h : ChannelOnly k rs s u) {a : Nat} (ha : rs a) (v : BitVec 32) : ChannelOnly k rs s (u.set a v) :=
  { h with get := fun b hb => (State.get_set_ne u a b v (fun hab => hb (hab ▸ ha))).trans (h.get b hb) }

theorem setFld (h : ChannelOnly k rs s u) {a : Nat} (ha : rs a) (f : Fld) (v : Nat) :
    ChannelOnly k rs s (u.setFld a f v) := h.set ha _

theorem setBit (h : ChannelOnly k rs s u) {a : Nat} (ha : rs a) (f : Fld) (b : Bool) :
    ChannelOnly k rs s (u.setBit a f b) := h.set ha _

theorem set64 (h : ChannelOnly k rs s u) {lo hi : Nat} (hlo : rs lo) (hhi : rs hi) (v : Nat) :
    ChannelOnly k rs s (u.set64 lo hi v) := (h.set hlo _).set hhi _

theorem advTo (h : ChannelOnly k rs s u) (n : Nat) : ChannelOnly k rs s (u.advTo n) := { h with }

theorem countUnless (h : ChannelOnly k rs s u) (inj : Bool) (j n : Nat) : ChannelOnly k rs s (u.countUnless inj j n) :=
  { h with }

theorem raiseCount (h : ChannelOnly k rs s u) (code obj j : Nat) : ChannelOnly k rs s (u.raiseCount code obj j) :=
  { h with }

theorem sealed (h : ChannelOnly k rs s u) : ChannelOnly k rs s (s.seal u) := { h with }

/-- What a command of one unit answers changes no more than its effect does, and nothing on a unit the part lacks. -/
theorem of_onUnit {t : State} {i b : Nat} (h : ChannelOnly k rs s u) (ht : onUnit i b s (s.answer u) = .next t) :
    ChannelOnly k rs s t := by
  obtain ht | rfl := onUnit_eq_next ht
  · exact answer_eq_next ht ▸ h.sealed
  · exact refl.sealed

/-- Memories and mode after a command of one channel, with what else holds there. -/
theorem memKept_mode (h : ChannelOnly k rs s u) {P : Prop} (hP : P) :
    MemKept s (s.seal u) ∧ (s.seal u).mode = s.mode ∧ P := ⟨⟨h.chip, h.dram, h.hostOut⟩, h.mode, hP⟩

theorem encEvent (h : ChannelOnly k rs s u) (hrs : ∀ a, encRegs k a → rs a) (code j : Nat) (stat : Fld)
    (cnt : Option Fld) : ChannelOnly k rs s (u.encEvent k code j stat cnt) := by
  have hstat := (h.raiseCount code k (cEnc k j)).setBit (hrs _ (encRegs_stat k)) stat true
  cases cnt with
  | none => exact hstat
  | some c => exact hstat.set (hrs _ (encRegs_evtCnt k)) _

theorem clearAcq (h : ChannelOnly k rs s u) (hrs : ∀ a, encRegs k a → rs a) : ChannelOnly k rs s (u.clearAcq k) :=
  h.setBit (hrs _ (encRegs_cfg k)) _ _

theorem encStart (h : ChannelOnly k rs s u) (hrs : ∀ a, encRegs k a → rs a) (m v : Int) :
    ChannelOnly k rs s (u.encStart k m v) :=
  (h.modEnc _).clearAcq hrs

theorem encQualify (h : ChannelOnly k rs s u) : ChannelOnly k rs s (u.encQualify k) := h.modEnc _

theorem encOff (h : ChannelOnly k rs s u) (hrs : ∀ a, encRegs k a → rs a) : ChannelOnly k rs s (u.encOff k) :=
  (h.modEnc _).clearAcq hrs

end ChannelOnly

/-! The rows of one channel change nothing beyond it and its registers. -/

section
variable (s : State) (k : Nat)

theorem encLoss_channelOnly : ChannelOnly k (encRegs k) s (s.encLoss k) := by
  simp only [State.encLoss]
  split
  · exact ((ChannelOnly.refl.modEnc _).encEvent encRegs_self _ _ _ _).setFld (encRegs_stat k) _ _
  · exact .refl

theorem encFreeze_channelOnly : ChannelOnly k (encRegs k) s (s.encFreeze k) := by
  simp only [State.encFreeze]
  split
  · exact (ChannelOnly.refl.modEnc _).encEvent encRegs_self _ _ _ _
  · exact .refl

theorem encRecovery_channelOnly : ChannelOnly k (encRegs k) s (s.encRecovery k) := by
  simp only [State.encRecovery]
  split
  · exact ((ChannelOnly.refl.modEnc _).countUnless _ _ _).setBit (encRegs_stat k) _ _
  · exact .refl

/-- TRACK_FAULT also stops admission, in SYS_ADMIT_STOP (R84, R85). -/
theorem encTrackFault_channelOnly : ChannelOnly k anyReg s (s.encTrackFault k) := by
  simp only [State.encTrackFault, State.encFault, State.trackStop]
  have hfault (f : Enc → Enc) (stat : Fld) :=
    ((ChannelOnly.refl (k := k) (s := s)).modEnc f).encEvent encRegs_any 0x3003 2 stat none
  repeat' split
  · exact (hfault _ _).setBit trivial _ _
  · exact hfault _ _
  · exact .refl

theorem encFaultRecovery_channelOnly : ChannelOnly k (encRegs k) s (s.encFaultRecovery k) := by
  simp only [State.encFaultRecovery]
  repeat' split
  · exact .refl
  · exact (ChannelOnly.refl.modEnc _).clearAcq encRegs_self
  · exact .refl
  · exact (ChannelOnly.refl.modEnc _).clearAcq encRegs_self
  · exact .refl

theorem encQualified_channelOnly : ChannelOnly k (encRegs k) s (s.encQualified k) := by
  simp only [State.encQualified]
  repeat' split
  · exact ChannelOnly.refl.modEnc _
  · exact ChannelOnly.refl.encStart encRegs_self _ _
  · exact ChannelOnly.refl.encStart encRegs_self _ _
  · exact .refl

theorem encQualifyTimeout_channelOnly : ChannelOnly k (encRegs k) s (s.encQualifyTimeout k) := by
  simp only [State.encQualifyTimeout]
  split
  · exact (((ChannelOnly.refl.advTo _).setBit (encRegs_stat k) _ _).clearAcq encRegs_self).modEnc _
  · exact .refl

/-- A failed attempt of ABS_READ (R68), after whatever else was done to the channel. -/
theorem ChannelOnly.absAttemptFail {s u : State} {k : Nat} (h : ChannelOnly k (encRegs k) s u) :
    ChannelOnly k (encRegs k) s (u.absAttemptFail k) := by
  simp only [State.absAttemptFail]
  split
  · exact h.modEnc _
  · exact (((h.setBit (encRegs_stat k) _ _).clearAcq encRegs_self).encEvent encRegs_self _ _ _ _).modEnc _

/-- A failed read (R66, R71), after whatever else was done to the channel. -/
theorem ChannelOnly.absReadFail {s u : State} {k : Nat} (h : ChannelOnly k (encRegs k) s u) :
    ChannelOnly k (encRegs k) s (u.absReadFail k) := by
  have hcount : ChannelOnly k (encRegs k) s (u.absFailCount k) := by
    simp only [State.absFailCount]
    split
    · exact ((h.modEnc _).setBit (encRegs_stat k) _ _).encEvent encRegs_self _ _ _ _
    · exact h.modEnc _
  simp only [State.absReadFail]
  split
  · exact h.absAttemptFail
  · exact hcount
  · exact hcount
  · exact h.modEnc _

theorem absTimeout_channelOnly : ChannelOnly k (encRegs k) s (s.absTimeout k) := by
  simp only [State.absTimeout]
  split
  · exact (ChannelOnly.refl.advTo _).absReadFail
  · exact .refl

theorem absCheck_channelOnly : ChannelOnly k (encRegs k) s (s.absCheck k) := by
  simp only [State.absCheck]
  split
  · exact .refl
  · exact (ChannelOnly.refl.advTo _).modEnc _

theorem absSecond_channelOnly : ChannelOnly k (encRegs k) s (s.absSecond k) := by
  simp only [State.absSecond]
  repeat' split
  · exact (ChannelOnly.refl.advTo _).modEnc _
  · exact .refl
  · exact .refl

theorem absRequalify_channelOnly : ChannelOnly k (encRegs k) s (s.absRequalify k) := by
  simp only [State.absRequalify]
  split
  · exact (ChannelOnly.refl.advTo _).encQualify
  · exact .refl

theorem reversedClear_channelOnly : ChannelOnly k (encRegs k) s (s.reversedClear k) := by
  simp only [State.reversedClear]
  split
  · exact ChannelOnly.refl.modEnc _
  · exact .refl

end

/-! Where the rows lead a channel. -/

section
variable {s : State} {k : Nat}

theorem encLoss_of_lossDue {c : Nat} (hst : (s.encAt k).st = .track) (hdue : (s.encAt k).lossDue = some c) :
    ((s.encLoss k).encAt k).st = .coast ∧ ((s.encLoss k).encAt k).a = 0 ∧ ((s.encLoss k).encAt k).x = (s.encAt k).x ∧
      (s.encLoss k).bit (R.ENC_STAT k) F.ENC_STAT_LOSS = true ∧
      (s.encLoss k).fld (R.ENC_STAT k) F.ENC_STAT_LOSS_CAUSE = c % 4 := by
  simp only [State.encLoss, hst, hdue]
  refine ⟨by simp, by simp, by simp, ?_, State.fld_setFld _ _ _ _ (by decide)⟩
  rw [State.bit_setFld_beside _ _ (by decide) (by decide), encEvent_bit]
  exact State.bit_setBit _ _ _ _ (by decide) (by decide)

theorem encFreeze_of_freezeDue (hst : (s.encAt k).st = .track) (hloss : (s.encAt k).lossDue = none)
    (hdue : (s.encAt k).freezeDue = true) :
    ((s.encFreeze k).encAt k).st = .coast ∧ ((s.encFreeze k).encAt k).a = 0 ∧
      ((s.encFreeze k).encAt k).x = (s.encAt k).x ∧ (s.encFreeze k).bit (R.ENC_STAT k) F.ENC_STAT_FREEZE = true := by
  simp only [State.encFreeze, hst, hdue, hloss, and_self, if_true]
  refine ⟨by simp, by simp, by simp, ?_⟩
  rw [encEvent_bit]
  exact State.bit_setBit _ _ _ _ (by decide) (by decide)

theorem encRecovery_of_recovDue {n : Int} (hst : (s.encAt k).st = .coast) (hdue : (s.encAt k).recovDue = some n) :
    ((s.encRecovery k).encAt k).st = .track ∧ ((s.encRecovery k).encAt k).m = (s.encAt k).m + n * 65536 ∧
      (s.encRecovery k).bit (R.ENC_STAT k) F.ENC_STAT_REBASED = true ∧ Frame s (s.encRecovery k) := by
  simp only [State.encRecovery, hst, hdue]
  exact ⟨by simp, by simp, State.bit_setBit _ _ _ _ (by decide) (by decide), rfl, rfl, rfl, rfl, rfl, rfl, rfl⟩

theorem encTrackFault_of_faultDue (hst : (s.encAt k).st = .track) (hloss : (s.encAt k).lossDue = none)
    (hdue : (s.encAt k).faultDue = true) :
    ((s.encTrackFault k).encAt k).st = .fault ∧ ((s.encTrackFault k).encAt k).emit = false := by
  simp [State.encTrackFault, State.encFault, hst, hloss, hdue]

theorem encFaultRecovery_of_good (hst : (s.encAt k).st = .fault) (hticks : 16 ≤ (s.encAt k).goodTicks)
    (hfe : s.fld (R.ENC_FE k) F.ENC_FE_FE_TIME ≤ (s.encAt k).feGood) (habs : s.encAbs k = 0) :
    ((s.encFaultRecovery k).encAt k).st = .track ∧ ((s.encFaultRecovery k).encAt k).x = (s.encAt k).x ∧
      Frame s (s.encFaultRecovery k) := by
  have hrun : s.encFaultRecovery k =
      (s.modEnc k (fun e => { e with st := .track, fe := 0, frz := 0 })).clearAcq k := by
    simp [State.encFaultRecovery, hst, hticks, hfe, habs]
  rw [hrun]
  exact ⟨by simp, by simp, rfl, rfl, rfl, rfl, rfl, rfl, rfl⟩

theorem encQualified_of_goodRun (hst : (s.encAt k).st = .qualify) (hrun : 16 ≤ (s.encAt k).goodRun) :
    ((s.encQualified k).encAt k).st = if s.encAbs k = 0 then .track else .absRead := by
  simp only [State.encQualified, hst, hrun]
  by_cases habs : s.encAbs k = 0
  · by_cases hquad : s.encMode k = 2 <;> simp [habs, hquad]
  · simp [habs]

theorem encQualifyTimeout_of_short (hst : (s.encAt k).st = .qualify) (hrun : (s.encAt k).goodRun < 16) :
    ((s.encQualifyTimeout k).encAt k).st = .qualify ∧
      (s.encQualifyTimeout k).bit (R.ENC_STAT k) F.ENC_STAT_ACQ_FAIL = true ∧
      (s.encQualifyTimeout k).bit (R.ENC_CFG k) F.ENC_CFG_ACQ = false := by
  simp only [State.encQualifyTimeout, hst, hrun, and_self, if_true]
  refine ⟨by simp [hst], ?_, by rw [State.modEnc_bit, clearAcq_acq]⟩
  rw [State.modEnc_bit, State.clearAcq, State.bit_setBit_ne _ _ _ _ _ _ (by simp)]
  exact State.bit_setBit _ _ _ _ (by decide) (by decide)

theorem reversedClear_of_age (hage : 64 ≤ (s.encAt k).revAge) :
    ((s.reversedClear k).encAt k).reversed = false ∧ (s.reversedClear k).regs = s.regs ∧ Frame s (s.reversedClear k) := by
  simp [State.reversedClear, hage, Frame]

end

/-! Absolute reads and the index. -/

section
variable {s : State} {k : Nat}

@[simp] theorem absDrift_encAt (i : Nat) : (s.absDrift k).encAt i = s.encAt i := encEvent_encAt _ _ _ _ _ _ _
@[simp] theorem indexDrift_encAt (i : Nat) : (s.indexDrift k).encAt i = s.encAt i := encEvent_encAt _ _ _ _ _ _ _

/-- A read in TRACK that failed has ended, and the channel still tracks (R71). -/
theorem absFailCount_encAt :
    ((s.absFailCount k).encAt k).reading = false ∧ ((s.absFailCount k).encAt k).st = (s.encAt k).st := by
  simp only [State.absFailCount]
  split <;> simp

theorem absTimeout_of_track (hst : (s.encAt k).st = .track) (hread : (s.encAt k).reading = true) :
    ((s.absTimeout k).encAt k).reading = false ∧ ((s.absTimeout k).encAt k).st = .track := by
  have hfail : s.absTimeout k = (s.advTo (s.absDeadline k)).absFailCount k := by
    rw [State.absTimeout, if_pos hread]
    exact absReadFail_of_track hst
  obtain ⟨hended, hkept⟩ := absFailCount_encAt (s := s.advTo (s.absDeadline k)) (k := k)
  rw [hfail]
  exact ⟨hended, hkept.trans hst⟩

/-- A valid read in TRACK ends the read, and clears the count of failed ones (R69, R70, R71). -/
theorem absReadOk_of_track (c : AbsCap) (hst : (s.encAt k).st = .track) :
    ((s.absReadOk k c).encAt k).reading = false ∧ ((s.absReadOk k c).encAt k).absFails = 0 ∧
      ((s.absReadOk k c).encAt k).st = .track := by
  simp only [State.absReadOk, hst]
  split <;> simp [hst]

theorem ChannelOnly.absReadOk_of_track {u : State} (h : ChannelOnly k anyReg s u) (c : AbsCap)
    (hst : (u.encAt k).st = .track) : ChannelOnly k anyReg s (u.absReadOk k c) := by
  have hread (v : Nat) (f : Enc → Enc) := (h.set (a := R.ENC_ABS_DIFF k) trivial (BitVec.ofNat 32 v)).modEnc f
  simp only [State.absReadOk, hst]
  split
  · exact (hread _ _).encEvent encRegs_any _ _ _ _
  · exact hread _ _

/-- A valid read in time counts as one of a channel of which nothing but warnings has changed (R66). -/
theorem absRead_eq (r : AbsIn) (hread : (s.encAt k).reading = true) (hvalid : s.absValid k r = true)
    (hlate : s.absLate k r = false) : ∃ u c, s.absRead k r = u.absReadOk k c ∧ (u.encAt k).st = (s.encAt k).st ∧
      ChannelOnly k anyReg s u := by
  have hframe : ChannelOnly k anyReg s (s.advTo r.done) := ChannelOnly.refl.advTo _
  have hvalid' : (s.advTo r.done).absValid k r = true := hvalid
  simp only [State.absRead, hread, hlate, hvalid', Bool.not_true, Bool.false_eq_true, if_false]
  refine ⟨_, _, rfl, ?_, ?_⟩
  · split <;> simp
  · split
    · exact hframe.modEnc _
    · exact hframe

theorem absCheck_of_due (hst : (s.encAt k).st = .track) (habs : s.encAbs k ≠ 0)
    (hint : s.fld (R.ENC_ABS_CHK k) F.ENC_ABS_CHK_INTERVAL ≠ 0) (hread : (s.encAt k).reading = false) :
    ((s.absCheck k).encAt k).reading = true ∧ (s.absCheck k).regs = s.regs := by
  simp [State.absCheck, hst, habs, hint, hread]

theorem absSecond_of_first {c : AbsCap} (hst : (s.encAt k).st = .absRead) (hcaps : (s.encAt k).caps = [c])
    (hread : (s.encAt k).reading = false) :
    ((s.absSecond k).encAt k).reading = true ∧ ((s.absSecond k).encAt k).caps = [c] ∧ (s.absSecond k).regs = s.regs := by
  simp [State.absSecond, Enc.startRead, hst, hcaps, hread]

theorem absRequalify_of_requal (hst : (s.encAt k).st = .absRead) (hdue : (s.encAt k).requal = true) :
    ((s.absRequalify k).encAt k).st = .qualify := by
  simp [State.absRequalify, hst, hdue]

/-- A latch of the index at position `p` (R72, R73): `drift` tells whether its spacing is out of tolerance. -/
def State.indexLatch (s : State) (k : Nat) (p : Int) (skip drift : Bool) : State :=
  let t := (s.setBit (R.ENC_STAT k) F.ENC_STAT_IDX_NEW true).modEnc k
    (fun e => { e with idxPos := some p, idxSkip := skip, idxOut := false })
  if drift then t.indexDrift k else t

theorem indexLatch_encAt (p : Int) (skip drift : Bool) : ((s.indexLatch k p skip drift).encAt k).idxOut = false ∧
    ((s.indexLatch k p skip drift).encAt k).idxPos.isSome = true := by
  simp only [State.indexLatch]
  split <;> simp

theorem indexLatch_idxNew (p : Int) (skip drift : Bool) :
    (s.indexLatch k p skip drift).bit (R.ENC_STAT k) F.ENC_STAT_IDX_NEW = true := by
  have hnew := State.bit_setBit s (R.ENC_STAT k) F.ENC_STAT_IDX_NEW true (by decide) (by decide)
  simp only [State.indexLatch]
  split
  · rw [State.indexDrift, encEvent_bit, State.setBit, State.bit_setFld_beside _ _ (by decide) (by decide), State.modEnc_bit]
    exact hnew
  · exact hnew

theorem ChannelOnly.indexLatch {u : State} (h : ChannelOnly k anyReg s u) (p : Int) (skip drift : Bool) :
    ChannelOnly k anyReg s (u.indexLatch k p skip drift) := by
  have hnew := (h.setBit (a := R.ENC_STAT k) trivial F.ENC_STAT_IDX_NEW true).modEnc
    (fun e => { e with idxPos := some p, idxSkip := skip, idxOut := false })
  simp only [State.indexLatch]
  split
  · exact hnew.encEvent encRegs_any _ _ _ _
  · exact hnew

/-- A qualified edge latches the index, once position and time stand in their registers (R72). -/
theorem indexEdge_eq {i : EdgeIn} (hcal : bits s.cal.enc k 1 = 1) (hen : s.bit (R.ENC_CFG k) F.ENC_CFG_IDX_EN = true)
    (hedge : i.rising = !s.bit (R.ENC_IDX_CFG k) F.ENC_IDX_CFG_EDGE) (hheld : 200 ≤ i.held) :
    ∃ u p skip drift, s.indexEdge k i = u.indexLatch k p skip drift ∧ ChannelOnly k anyReg s u := by
  have hqualified : ¬(decide (bits (s.advTo i.at_.dt).cal.enc k 1 = 0) ||
      !(s.advTo i.at_.dt).bit (R.ENC_CFG k) F.ENC_CFG_IDX_EN ||
      !(decide (i.rising = !(s.advTo i.at_.dt).bit (R.ENC_IDX_CFG k) F.ENC_IDX_CFG_EDGE) &&
        decide (200 ≤ i.held))) = true := by
    have hcal' : bits (s.advTo i.at_.dt).cal.enc k 1 = 1 := hcal
    simp only [State.advTo_bit, hcal', hen, hedge, hheld]
    simp
  have hframe : ChannelOnly k anyReg s (s.advTo i.at_.dt) := ChannelOnly.refl.advTo _
  unfold State.indexEdge
  dsimp only
  rw [if_neg hqualified]
  exact ⟨_, _, _, _, rfl, (hframe.set64 trivial trivial _).set64 trivial trivial _⟩

end

/-! A write of ENC_CFG. -/

/-- ENC_CFG in the register map (R89). -/
def encCfgSpec : RegSpec := regMapENC0.head (List.cons_ne_nil _ _)

section
variable (s : State) {k : Nat} (m : Master) (v : Nat)

theorem regOf_encCfg (hk : k < 4) : s.regOf (R.ENC_CFG k) = some (encCfgSpec, k, 0) := by
  have hfind : regFind (R.ENC_CFG k) = some (encCfgSpec, k, 0) := by
    obtain rfl | rfl | rfl | rfl : k = 0 ∨ k = 1 ∨ k = 2 ∨ k = 3 := by omega
    all_goals rfl
  have hblock : R.ENC_CFG k / 0x100000 = 4 := by simp only [R.ENC_CFG]; omega
  simp only [State.regOf, hfind, hblock]
  rfl

/-- A write of ENC_CFG that its master may make is served by `encCfgWrite`. -/
theorem writeReg_encCfg (hk : k < 4) (hm : s.mayWrite m (R.ENC_CFG k) = true) :
    s.writeReg m (R.ENC_CFG k) v true = s.encCfgWrite encCfgSpec k v := by
  have hblock : R.ENC_CFG k / 0x100000 = 4 := by simp only [R.ENC_CFG]; omega
  have hvalue : s.quillValue m (R.ENC_CFG k) v = v := if_neg (by simp only [R.ENC_CFG, R.SYS_ADMIT_STOP]; omega)
  have hfirst : s.quillFirst m (R.ENC_CFG k) v = s := by
    have hnone : (List.range 8).find? (fun p => R.ENC_CFG k = R.SCR_PLANE_STAT p) = none := by
      simp only [List.find?_eq_none, List.mem_range, decide_eq_true_eq, R.ENC_CFG, R.SCR_PLANE_STAT]
      omega
    simp only [State.quillFirst, hnone, ite_self]
  simp only [State.writeReg, hm, hvalue, hfirst, State.applyWrite, regOf_encCfg s hk, hblock]
  rfl

/-- The RW fields of ENC_CFG hold MODE (R89). -/
theorem encCfgSpec_mode : ∀ j < F.ENC_CFG_MODE.w, encCfgSpec.rw.getLsbD (j + F.ENC_CFG_MODE.lo) = true := by decide

/-- The registers once the fields of a write of ENC_CFG are stored, before MODE 0 or ACQ takes effect (R66, R68). -/
def State.encCfgStored (k : Nat) : State := (s.plain encCfgSpec (R.ENC_CFG k) v).absClock k

/-- The channel once MODE of such a write has taken effect: written 0, it stops a channel that was on (R68). -/
def State.encCfgModed (k : Nat) : State :=
  if s.encMode k ≠ 0 ∧ (s.encCfgStored v k).encMode k = 0 then (s.encCfgStored v k).encOff k else s.encCfgStored v k

theorem encCfgWrite_eq (k : Nat) : s.encCfgWrite encCfgSpec k v =
    if bits v 20 1 = 1 then (s.encCfgModed v k).encAcq k else s.encCfgModed v k := rfl

theorem encCfgStored_encMode : (s.encCfgStored v k).encMode k = if bits v 0 2 = 3 then 0 else bits v 0 2 := by
  rw [State.encCfgStored, absClock_encMode, State.encMode,
    plain_fld s encCfgSpec (R.ENC_CFG k) v F.ENC_CFG_MODE (by decide) encCfgSpec_mode]

end

section
variable {s : State} {k : Nat}

theorem ChannelOnly.encAcq {u : State} {rs : Nat → Prop} (h : ChannelOnly k rs s u) (hrs : ∀ a, encRegs k a → rs a) :
    ChannelOnly k rs s (u.encAcq k) := by
  have hqualify := (h.setBit (hrs _ (encRegs_cfg k)) F.ENC_CFG_ACQ true).encQualify
  have hclear := h.clearAcq hrs
  have hagain : ChannelOnly k rs s (if u.mode = .config ∨ u.mode = .idle then
      (u.setBit (R.ENC_CFG k) F.ENC_CFG_ACQ true).encQualify k else u.clearAcq k) := by
    split
    · exact hqualify
    · exact hclear
  simp only [State.encAcq]
  split
  · exact hclear
  · split
    · split
      · exact hqualify
      · exact (h.setBit (hrs _ (encRegs_cfg k)) _ _).modEnc _
    · exact hagain
    · exact hagain
    · exact hagain
    · exact h

/-- A write of ENC_CFG changes no other unit and no memory (R68). -/
theorem encCfgWrite_channelOnly (v : Nat) : ChannelOnly k anyReg s (s.encCfgWrite encCfgSpec k v) := by
  have hstored : ChannelOnly k anyReg s (s.encCfgStored v k) :=
    (ChannelOnly.refl.set trivial _).set trivial _
  have hmoded : ChannelOnly k anyReg s (s.encCfgModed v k) := by
    unfold State.encCfgModed
    split
    · exact hstored.encOff encRegs_any
    · exact hstored
  rw [encCfgWrite_eq]
  split
  · exact hmoded.encAcq encRegs_any
  · exact hmoded

/-- A write of ACQ while MODE is 0 clears at once (R68). -/
theorem encAcq_of_mode_zero (h : s.encMode k = 0) : s.encAcq k = s.clearAcq k := by
  simp only [State.encAcq, h, if_true]

/-- A write of ACQ in OFF starts the qualification of a calibrated channel (R68). -/
theorem encAcq_of_off (hon : s.encMode k ≠ 0) (hoff : (s.encAt k).st = .off) (hcal : bits s.cal.enc k 1 = 1) :
    s.encAcq k = (s.setBit (R.ENC_CFG k) F.ENC_CFG_ACQ true).encQualify k := by
  simp only [State.encAcq, hon, hoff, hcal, if_false, if_true]

/-- MODE written 0 stops a channel that was on (R68), whatever the write says of ACQ. -/
theorem encCfgWrite_mode_zero {v : Nat} (hon : s.encMode k ≠ 0) (hv : bits v 0 2 = 0) :
    ((s.encCfgWrite encCfgSpec k v).encAt k).st = .off ∧ (s.encCfgWrite encCfgSpec k v).encMode k = 0 := by
  have hmode : (s.encCfgStored v k).encMode k = 0 := by simp [encCfgStored_encMode, hv]
  have hmoded : s.encCfgModed v k = (s.encCfgStored v k).encOff k := if_pos ⟨hon, hmode⟩
  have hstopped : ((s.encCfgStored v k).encOff k).encMode k = 0 := (encOff_encMode _ _).trans hmode
  rw [encCfgWrite_eq, hmoded]
  split
  · rw [encAcq_of_mode_zero hstopped, clearAcq_encAt, encOff_encAt_st, clearAcq_encMode]
    exact ⟨rfl, hstopped⟩
  · exact ⟨encOff_encAt_st _ _, hstopped⟩

/-- ACQ written to a calibrated channel in OFF whose MODE stays on starts its qualification (R68). -/
theorem encCfgWrite_acq {v : Nat} (hon : s.encMode k ≠ 0) (hoff : (s.encAt k).st = .off)
    (hcal : bits s.cal.enc k 1 = 1) (hv : bits v 0 2 = s.fld (R.ENC_CFG k) F.ENC_CFG_MODE) (hacq : bits v 20 1 = 1) :
    ((s.encCfgWrite encCfgSpec k v).encAt k).st = .qualify := by
  have hmode : (s.encCfgStored v k).encMode k ≠ 0 := by
    rw [encCfgStored_encMode, hv]
    exact hon
  have hmoded : s.encCfgModed v k = s.encCfgStored v k := if_neg (fun h => hmode h.2)
  rw [encCfgWrite_eq, if_pos hacq, hmoded, encAcq_of_off hmode hoff hcal]
  simp

/-- The word that ENC_ACQ writes has ACQ set. -/
theorem acqWord_acq (v : Nat) : bits (setBits v F.ENC_CFG_ACQ.lo F.ENC_CFG_ACQ.w 1) 20 1 = 1 := bits_setBits v 20 1 1

/-- The word that ENC_ACQ writes carries MODE as it stands. -/
theorem acqWord_mode (v : Nat) :
    bits (setBits (v &&& encCfgSpec.rw.toNat) F.ENC_CFG_ACQ.lo F.ENC_CFG_ACQ.w 1) 0 2 = bits v 0 2 := by
  rw [bits_setBits_ne _ _ _ _ _ _ (by decide)]
  exact bits_and _ _ _ _ (by decide)

/-- ENC_ACQ writes ENC_CFG with the fields it has and ACQ. -/
theorem strobeReg_encAcq (m : Master) (hk : k < 4) (hm : s.mayWrite m (R.ENC_CFG k) = true) :
    s.strobeReg m (R.ENC_CFG k) F.ENC_CFG_ACQ = s.encCfgWrite encCfgSpec k
      (setBits (s.getN (R.ENC_CFG k) &&& encCfgSpec.rw.toNat) F.ENC_CFG_ACQ.lo F.ENC_CFG_ACQ.w 1) := by
  simp only [State.strobeReg, regOf_encCfg s hk]
  exact writeReg_encCfg s m _ hk hm

end
end Sys2Proof.Machine

namespace Sys2Proof.Proofs
open Sys2Proof Sys2Proof.Machine

/-- Settles O56: each of the rows answers an effect that is `ChannelOnly`. -/
theorem encoderFrame : Obligations.EncoderFrame := by
  unfold Obligations.EncoderFrame
  intro c s t k hc ht
  have hframe : ChannelOnly k (encRegs k) s t := by
    rcases hc with rfl | rfl | rfl | rfl | rfl | rfl | rfl | rfl | rfl | rfl | rfl
    · exact (encLoss_channelOnly s k).of_onUnit ht
    · exact (encFreeze_channelOnly s k).of_onUnit ht
    · exact (encRecovery_channelOnly s k).of_onUnit ht
    · exact (encFaultRecovery_channelOnly s k).of_onUnit ht
    · exact (encQualified_channelOnly s k).of_onUnit ht
    · exact (encQualifyTimeout_channelOnly s k).of_onUnit ht
    · exact (absTimeout_channelOnly s k).of_onUnit ht
    · exact (absCheck_channelOnly s k).of_onUnit ht
    · exact (absSecond_channelOnly s k).of_onUnit ht
    · exact (absRequalify_channelOnly s k).of_onUnit ht
    · exact (reversedClear_channelOnly s k).of_onUnit ht
  obtain ⟨henc, hrows, hports, hplanes, hqps, hchans, hmode, hchip, hdram, hhost, hout, hget⟩ := hframe
  refine ⟨henc, hrows, hports, hplanes, hqps, hchans, hmode, hchip, hdram, hhost, hout, fun a hcfg hstat hcnt => hget a ?_⟩
  rintro (h | h | h)
  · exact hcfg h
  · exact hstat h
  · exact hcnt h

/-- Settles O19: each row's effect is `ChannelOnly`, and leads the channel where the row says. -/
theorem encoderStateRows : Obligations.EncoderStateRows := by
  unfold Obligations.EncoderStateRows
  refine ⟨fun s k c hk hst hdue => ?loss, fun s k hk hst hloss hdue => ?freeze, fun s k n hk hst hdue => ?recovery,
    fun s k hk hst hloss hdue => ?trackFault, fun s k hk hst hticks hfe habs => ?faultRecovery,
    fun s k hk hst hrun => ?qualified, fun s k hk hst hrun => ?qualifyTimeout, fun s k hk hage => ?reversed,
    fun s m k hk hm hon => ?modeOff, fun s m k hk hm hon hoff hcal => ?acq⟩
  case loss => exact .of_onUnit rfl hk ((encLoss_channelOnly s k).memKept_mode (encLoss_of_lossDue hst hdue))
  case freeze => exact .of_onUnit rfl hk ((encFreeze_channelOnly s k).memKept_mode (encFreeze_of_freezeDue hst hloss hdue))
  case recovery => exact .of_onUnit rfl hk (encRecovery_of_recovDue hst hdue)
  case trackFault =>
    exact .of_onUnit rfl hk ((encTrackFault_channelOnly s k).memKept_mode (encTrackFault_of_faultDue hst hloss hdue))
  case faultRecovery => exact .of_onUnit rfl hk (encFaultRecovery_of_good hst hticks hfe habs)
  case qualified => exact .of_onUnit rfl hk ((encQualified_channelOnly s k).memKept_mode (encQualified_of_goodRun hst hrun))
  case qualifyTimeout =>
    exact .of_onUnit rfl hk ((encQualifyTimeout_channelOnly s k).memKept_mode (encQualifyTimeout_of_short hst hrun))
  case reversed => exact .of_onUnit rfl hk (reversedClear_of_age hage)
  case modeOff =>
    refine .of_onUnit rfl hk ?_
    rw [writeReg_encCfg s m _ hk hm]
    exact (encCfgWrite_channelOnly _).memKept_mode (encCfgWrite_mode_zero hon (bits_setBits _ 0 2 0))
  case acq =>
    refine .of_onUnit rfl hk ?_
    rw [strobeReg_encAcq m hk hm]
    refine (encCfgWrite_channelOnly _).memKept_mode ?_
    rw [State.seal_encAt]
    exact encCfgWrite_acq hon hoff hcal (acqWord_mode _) (acqWord_acq _)

/-- Settles O20: each row's effect is `ChannelOnly`, and leaves the read and the latch as the row says. -/
theorem encoderAbsoluteRows : Obligations.EncoderAbsoluteRows := by
  unfold Obligations.EncoderAbsoluteRows
  refine ⟨fun s k r hk hst hread hvalid hlate => ?absRead, fun s k hk hst hread => ?timeout,
    fun s k hk hst habs hint hread => ?check, fun s k c hk hst hcaps hread => ?second, fun s k hk hst hdue => ?requalify,
    fun s k i hk hcal hen hedge hheld => ?index⟩
  case absRead =>
    obtain ⟨u, c, hok, hkept, hframe⟩ := absRead_eq r hread hvalid hlate
    refine .of_onUnit rfl hk ?_
    rw [hok]
    exact (hframe.absReadOk_of_track c (hkept.trans hst)).memKept_mode (absReadOk_of_track c (hkept.trans hst))
  case timeout => exact .of_onUnit rfl hk ((absTimeout_channelOnly s k).memKept_mode (absTimeout_of_track hst hread))
  case check => exact .of_onUnit rfl hk ((absCheck_channelOnly s k).memKept_mode (absCheck_of_due hst habs hint hread))
  case second => exact .of_onUnit rfl hk ((absSecond_channelOnly s k).memKept_mode (absSecond_of_first hst hcaps hread))
  case requalify => exact .of_onUnit rfl hk ((absRequalify_channelOnly s k).memKept_mode (absRequalify_of_requal hst hdue))
  case index =>
    obtain ⟨u, p, skip, drift, hlatch, hframe⟩ := indexEdge_eq hcal hen hedge hheld
    obtain ⟨hout, hpos⟩ := indexLatch_encAt (s := u) (k := k) p skip drift
    refine .of_onUnit rfl hk ?_
    rw [hlatch]
    exact (hframe.indexLatch p skip drift).memKept_mode ⟨hout, hpos, indexLatch_idxNew p skip drift⟩

end Sys2Proof.Proofs
end

section
/-! PROOFS. Screening, strips and jobs: what a commit makes available, how a job runs and ends, and a C8 line that finds
Bank S not accessible. -/
namespace Sys2Proof.Machine

/-! What changes no more than the register file. -/

/-- From `s` to `t` nothing but the register file has changed. -/
def RegsOnly (s t : State) : Prop := ∃ regs, t = { s with regs := regs }

namespace RegsOnly

variable {s u : State}

theorem refl : RegsOnly s s := ⟨s.regs, rfl⟩

theorem setN (h : RegsOnly s u) (a v : Nat) : RegsOnly s (u.setN a v) := by
  obtain ⟨_, rfl⟩ := h
  exact ⟨_, rfl⟩

theorem set64 (h : RegsOnly s u) (lo hi v : Nat) : RegsOnly s (u.set64 lo hi v) := (h.setN lo _).setN hi _

theorem setBit (h : RegsOnly s u) (a : Nat) (f : Fld) (b : Bool) : RegsOnly s (u.setBit a f b) := h.setN a _

theorem forEach {α : Type} {f : State → α → State} (hf : ∀ v x, RegsOnly s v → RegsOnly s (f v x)) (l : List α)
    (h : RegsOnly s u) : RegsOnly s (u.forEach l f) := by
  induction l generalizing u with
  | nil => exact h
  | cons x l ih => exact ih (hf u x h)

/-- An answer that changes registers and one plane leaves the mode, the memories, the clock and the trace. -/
theorem frame_modPlane (h : RegsOnly s u) (p : Nat) (f : Plane → Plane) : Frame s (s.seal (u.modPlane p f)) := by
  obtain ⟨_, rfl⟩ := h
  exact ⟨rfl, rfl, rfl, rfl, rfl, rfl, rfl⟩

/-- START and END of a job written (R149). -/
theorem putGrid (h : RegsOnly s u) (p : Nat) (j : Job) : RegsOnly s (u.putGrid p j) := (h.set64 _ _ _).set64 _ _ _

/-- IW_EN of ports `l` cleared (R149). -/
theorem clearIwEn (h : RegsOnly s u) (l : List Nat) :
    RegsOnly s (u.forEach l (fun v n => v.setBit (R.NZP_TH_CFG n) F.NZP_TH_CFG_IW_EN false)) :=
  forEach (fun _ _ hv => hv.setBit _ _ _) l h

end RegsOnly

/-! What a completion leaves as it is. -/

/-- From `s` to `t` the mode, the memories of the device and the planes are as before. -/
structure PlanesKept (s t : State) : Prop where
  mode : t.mode = s.mode
  chip : t.chip = s.chip
  dram : t.dram = s.dram
  planes : t.planes = s.planes

namespace PlanesKept

variable {s t u : State}

theorem refl : PlanesKept s s := ⟨rfl, rfl, rfl, rfl⟩

theorem planeAt (h : PlanesKept s t) (p : Nat) : t.planeAt p = s.planeAt p := by
  rw [State.planeAt, h.planes]
  rfl

theorem setN (h : PlanesKept s u) (a v : Nat) : PlanesKept s (u.setN a v) := { h with }

theorem setBit (h : PlanesKept s u) (a : Nat) (f : Fld) (b : Bool) : PlanesKept s (u.setBit a f b) := h.setN a _

theorem hostWrite (h : PlanesKept s u) (a : Nat) (bs : List Nat) : PlanesKept s (u.hostWrite a bs) := { h with }

theorem modQp (h : PlanesKept s u) (q : Nat) (f : Qp → Qp) : PlanesKept s (u.modQp q f) := { h with }

theorem modVec (h : PlanesKept s u) (v : Nat) (f : Vec → Vec) : PlanesKept s (u.modVec v f) := { h with }

theorem emit (h : PlanesKept s u) (o : Output) : PlanesKept s (u.emit o) := { h with }

theorem msixSend (h : PlanesKept s u) (v : Nat) : PlanesKept s (u.msixSend v) := by
  simp only [State.msixSend]
  repeat' split
  · exact h
  · exact (h.modVec _ _).setN _ _
  · exact (h.modVec _ _).emit _

theorem qpIrq (h : PlanesKept s u) (q : Nat) : PlanesKept s (u.qpIrq q) := by
  simp only [State.qpIrq]
  repeat' split
  · exact h.modVec _ _
  · exact h.msixSend _
  · exact h.msixSend _

theorem z1Put (h : PlanesKept s u) (w : Nat) (l : List Nat) : PlanesKept s (u.z1Put w l) := by
  induction l generalizing u w with
  | nil => exact h
  | cons v l ih => exact ih (h.setN _ v) _

theorem deliverCpl (h : PlanesKept s u) (q : Nat) (c : Cmd) (status : Nat) (res : List Nat) :
    PlanesKept s (u.deliverCpl q c status res) := by
  have hdone : PlanesKept s (u.bumpW (R.MBX_QP_DONE q)) := h.setN _ _
  simp only [State.deliverCpl]
  repeat' split
  · exact hdone.modQp _ _
  · exact hdone.modQp _ _
  · exact (hdone.modQp _ _).qpIrq _
  · exact (hdone.z1Put _ _).setBit _ _ _
  · exact ((hdone.z1Put _ _).setBit _ _ _).msixSend _
  · exact ((hdone.hostWrite _ _).emit _).modQp _ _
  · exact (((hdone.hostWrite _ _).emit _).modQp _ _).qpIrq _

theorem settle (h : PlanesKept s u) (q n : Nat) : PlanesKept s (u.settle q n) := by
  induction n generalizing u with
  | zero => exact h
  | succ n ih =>
    simp only [State.settle]
    repeat' split
    · exact ih ((h.modQp _ _).deliverCpl _ _ _ _)
    · exact h
    · exact h

theorem finish (h : PlanesKept s u) (q : Nat) (c : Cmd) (status : Nat) (res : List Nat) :
    PlanesKept s (u.finish q c status res) := by
  have hidle : PlanesKept s { u with pw := { u.pw with idleSince := u.now } } := { h with }
  exact (hidle.deliverCpl q c status res).settle q _

theorem finishCur (h : PlanesKept s u) (q status : Nat) (res : List Nat) : PlanesKept s (u.finishCur q status res) := by
  simp only [State.finishCur]
  split
  · exact (h.modQp _ _).finish _ _ _ _
  · exact h

end PlanesKept

/-! A commit. -/

section
variable {s : State} {p : Nat}

/-- The plane once its oldest strip, of `k` lines, is popped and its lines are available (R153). -/
def Plane.popped (x : Plane) (k : Nat) (rest : List Strip) : Plane :=
  { x with strips := rest, avail := (x.avail + k) % 2 ^ 48 }

theorem recordLines_planesKept (s : State) (p k : Nat) : PlanesKept s (s.recordLines p k) := by
  simp only [State.recordLines]
  repeat' split
  · exact ⟨rfl, rfl, rfl, rfl⟩
  · exact .refl
  · exact .refl

/-- A commit with the FIFO empty (R153). -/
theorem stripCommit_of_nil (h : (s.planeAt p).strips = []) :
    s.stripCommit p = s.setBit (R.SCR_PLANE_STAT p) F.SCR_PLANE_STAT_FIFO_OVF true := by
  simp only [State.stripCommit, h]

/-- A commit pops the oldest strip; counting its lines to a stored job and completing its JOB_APPEND change no plane
(R153, R156). -/
theorem stripCommit_of_cons {x : Strip} {rest : List Strip} (h : (s.planeAt p).strips = x :: rest) :
    PlanesKept (s.modPlane p (fun q => q.popped x.count rest)) (s.stripCommit p) := by
  have hrecord := recordLines_planesKept (s.modPlane p (fun q => q.popped x.count rest)) p x.count
  simp only [State.stripCommit, h]
  split
  · exact hrecord.finishCur _ _ _
  · exact hrecord

end

/-! A write of SCR_PLANE_CTL. -/

section
variable (s : State) {p : Nat} (m : Master) (v : Nat)

theorem regOf_scrCtl (hp : p < 8) : ∃ r, s.regOf (R.SCR_PLANE_CTL p) = some (r, p, 0) ∧ r.base = R.SCR_PLANE_CTL 0 := by
  have hfind : ∃ r, regFind (R.SCR_PLANE_CTL p) = some (r, p, 0) ∧ r.base = R.SCR_PLANE_CTL 0 := by
    obtain rfl | rfl | rfl | rfl | rfl | rfl | rfl | rfl :
      p = 0 ∨ p = 1 ∨ p = 2 ∨ p = 3 ∨ p = 4 ∨ p = 5 ∨ p = 6 ∨ p = 7 := by omega
    all_goals exact ⟨_, rfl, rfl⟩
  obtain ⟨r, hr, hbase⟩ := hfind
  have hblock : R.SCR_PLANE_CTL p / 0x100000 = 6 := by simp only [R.SCR_PLANE_CTL]; omega
  have hzone : s.noZone r.base p 0 = false := by simp [State.noZone, hbase]
  refine ⟨r, ?_, hbase⟩
  simp only [State.regOf, hr, hblock, hzone]
  rfl

/-- A write of SCR_PLANE_CTL that its master may make is served by `scrCtlWrite`. -/
theorem writeReg_scrCtl (hp : p < 8) (hm : s.mayWrite m (R.SCR_PLANE_CTL p) = true) :
    s.writeReg m (R.SCR_PLANE_CTL p) v true = s.scrCtlWrite p v := by
  obtain ⟨r, hr, hbase⟩ := regOf_scrCtl s hp
  have hblock : R.SCR_PLANE_CTL p / 0x100000 = 6 := by simp only [R.SCR_PLANE_CTL]; omega
  have hvalue : s.quillValue m (R.SCR_PLANE_CTL p) v = v :=
    if_neg (by simp only [R.SCR_PLANE_CTL, R.SYS_ADMIT_STOP]; omega)
  have hfirst : s.quillFirst m (R.SCR_PLANE_CTL p) v = s := by
    have hnone : (List.range 8).find? (fun j => R.SCR_PLANE_CTL p = R.SCR_PLANE_STAT j) = none := by
      simp only [List.find?_eq_none, List.mem_range, decide_eq_true_eq, R.SCR_PLANE_CTL, R.SCR_PLANE_STAT]
      omega
    simp only [State.quillFirst, hnone, ite_self]
  simp only [State.writeReg, hm, hvalue, hfirst, State.applyWrite, hr, hblock, State.applyMid, hbase]
  rfl

/-- The write of SCR_COMMIT commits, with PAUSE as it stands and RESET left at 0 (R153, log entry 62). -/
theorem scrCtlWrite_commit : s.scrCtlWrite p (1 + if s.paused p then 2 else 0) =
    (s.scrPause p (s.paused p)).stripCommit p := by
  cases hpause : s.paused p <;> simp [State.scrCtlWrite, bits]

/-- SCR_COMMIT runs as a commit of the plane, once PAUSE is written as it stands. -/
theorem scrCommit_runs {P : State → Prop} (hp : p < 8) (hm : s.mayWrite m (R.SCR_PLANE_CTL p) = true)
    (hP : P (s.seal ((s.scrPause p (s.paused p)).stripCommit p))) : Runs (.scrCommit m p) s P := by
  refine .of_onUnit rfl hp ?_
  rwa [writeReg_scrCtl s m _ hp hm, scrCtlWrite_commit]

end

/-! Jobs. -/

section
variable {s : State} {p : Nat} {j : Job}

/-- A job that may run does so with its grid as it was (R149); beside its plane only registers change. -/
theorem jobRunning_of_ready (hready : s.jobReady p = true) (hjob : (s.planeAt p).job = some j) :
    ∃ u j', RegsOnly s u ∧ j'.st = .running ∧ j'.start = j.start ∧
      s.jobRunning p = u.modPlane p (fun x => { x with job := some j' }) := by
  simp only [State.jobRunning, hready, hjob, Bool.not_true, Bool.false_eq_true, if_false]
  refine ⟨_, _, ?_, ?_, ?_, rfl⟩
  · split
    · exact ((RegsOnly.refl.putGrid _ _).clearIwEn _).setBit _ _ _
    · exact (RegsOnly.refl.putGrid _ _).clearIwEn _
  · rfl
  · rfl

/-- The delay after IW_EN was cleared is over (R149). -/
theorem jobArm_of_wait {k : Nat} (hjob : (s.planeAt p).job = some j) (hwait : j.armWait = some k) (hmode : s.mode = .print) :
    s.jobArm p = ((s.advTo ((k + 8) * 8000)).setBit (R.DCT_PLANE_CTL p) F.DCT_PLANE_CTL_ARM true).modPlane p
      (fun x => { x with job := some { j with armed := true, armWait := none } }) := by
  simp [State.jobArm, hjob, hwait, hmode]

/-- A job with no channel of its own ends once its last line has retired (R149). -/
theorem jobEnd_of_retired (hjob : (s.planeAt p).job = some j) (hrun : j.st = .running) (harmed : j.armed = true)
    (hlast : j.lastLine < s.retiredNow p) (hchannel : j.channel = none) :
    s.jobEnd p = { s with pw := { s.pw with noJobAt := s.now } }.modPlane p
      (fun x => { x with job := none, iwRestore := x.iwRestore ++ j.iwCleared }) := by
  simp [State.jobEnd, State.jobGone, hjob, hrun, harmed, hlast, hchannel]

end

/-! A C8 line that finds Bank S not accessible: the screen unit's read is refused and entered in the log (R388, R397). -/

section
variable (s : State) (m a c : Nat) (w : Bool)

@[simp] theorem regionDeny_dramBad : (s.regionDeny m a w c).dramBad = s.dramBad := by
  simp only [State.regionDeny]
  split <;> simp

/-- A region denial posts REGION_DENY (R388). -/
theorem regionDeny_evFifo_ne (h : s.evFifo.length < 256) : (s.regionDeny m a w c).evFifo ≠ s.evFifo := by
  have hpost : (s.raiseCount 0x5005 m 16).evFifo ≠ s.evFifo := by
    simp [State.raiseCount, State.raise, State.raiseAt, State.post, State.countUnless, h]
  simp only [State.regionDeny]
  split <;> simpa using hpost

theorem bit_congr {s t : State} {a : Nat} (f : Fld) (h : t.get a = s.get a) : t.bit a f = s.bit a f := by
  unfold State.bit State.fld State.getN
  rw [h]

theorem bit_setN_ne {a b : Nat} (g : Fld) (v : Nat) (h : a ≠ b) : (s.setN a v).bit b g = s.bit b g :=
  bit_congr g (State.get_set_ne s a b _ h)

/-- A region denial sets DENY of MEM_STAT (R388, R409). -/
theorem regionDeny_deny : (s.regionDeny m a w c).bit R.MEM_STAT F.MEM_STAT_DENY = true := by
  have hset (u : State) : (u.setBit R.MEM_STAT F.MEM_STAT_DENY true).bit R.MEM_STAT F.MEM_STAT_DENY = true :=
    State.bit_setBit u _ _ _ (by decide) (by decide)
  have hlog {u : State} (hu : u.bit R.MEM_STAT F.MEM_STAT_DENY = true) {b : Nat} (hb : b ≠ R.MEM_STAT) (v : Nat) :
      (u.setN b v).bit R.MEM_STAT F.MEM_STAT_DENY = true := (bit_setN_ne u _ v hb).trans hu
  have hbeside {u : State} (hu : u.bit R.MEM_STAT F.MEM_STAT_DENY = true) {g : Fld} (hg : 0 < g.lo) (hw : g.lo + g.w ≤ 32)
      (v : Nat) : (u.setFld R.MEM_STAT g v).bit R.MEM_STAT F.MEM_STAT_DENY = true :=
    (State.bit_setFld_beside (g := F.MEM_STAT_DENY) u v hw (.inr hg)).trans hu
  simp only [State.regionDeny]
  refine hbeside (hlog (hlog (hlog (hlog ?_ ?_ _) ?_ _) ?_ _) ?_ _) (by decide) (by decide) _
  · split
    · exact hbeside (hset _) (by decide) (by decide) _
    · exact hset _
  all_goals
    simp only [R.MEM_STAT, R.MEM_DENY_LOG0, R.MEM_DENY_LOG1, R.MEM_DENY_LOG2, R.MEM_DENY_LOG3]
    omega

end

section
variable {s : State} {p : Nat}

/-- Bank S in retention or waking refuses its owner (R397). -/
theorem ownRefusal_bankS_of_asleep (h : s.bit R.MEM_RET ⟨18, 1⟩ = false) : s.ownRefusal bankS = some 3 := by
  have hbank : bankAt bankS 1 = some 3 := by decide
  have halias : aliasOf bankS = (0, bankS) := by decide
  simp [State.ownRefusal, State.refusal, hbank, halias, State.awake, h]

/-- `n` P2 values of 01 counted (R141). -/
def State.p2Counted (s : State) (p n : Nat) : State :=
  let t := s.bumpW (R.SCR_PLANE_P2W_CNT p) n
  if n = 0 then t else t.setBit (R.SCR_PLANE_STAT p) F.SCR_PLANE_STAT_P2_WARM true

theorem p2Counted_evFifo (n : Nat) : (s.p2Counted p n).evFifo = s.evFifo := by
  simp only [State.p2Counted]
  split <;> rfl

theorem p2Counted_get {n a : Nat} (hcnt : R.SCR_PLANE_P2W_CNT p ≠ a) (hstat : R.SCR_PLANE_STAT p ≠ a) :
    (s.p2Counted p n).get a = s.get a := by
  have hbump : (s.bumpW (R.SCR_PLANE_P2W_CNT p) n).get a = s.get a := State.get_set_ne s _ _ _ hcnt
  simp only [State.p2Counted]
  split
  · exact hbump
  · exact (State.get_set_ne _ _ _ _ hstat).trans hbump

theorem lineDone_evFifo (g : Nat) (cols : List (Nat × Bool)) : (s.lineDone p g cols).evFifo = s.evFifo := rfl

theorem lineDone_get (g a : Nat) (cols : List (Nat × Bool)) : (s.lineDone p g cols).get a = s.get a := rfl

/-- Reads that meet no error leave the state as it is (R393). -/
theorem eccMeet_clean (s : State) (banks : List Nat) : s.eccMeet banks { corr := [], bad := none } = s := rfl

/-- A line meets no uncorrectable word where its reads report none and no DRAM word is faulty (R173, R174). -/
theorem screenFault_clean (hbad : s.dramBad = []) (a k : Nat) : s.screenFault p a k { corr := [], bad := none } = none := by
  simp [State.screenFault, State.dramFaulty, hbad]

theorem ownTouch_dramBad (s : State) (a : Nat) : (s.ownTouch a).dramBad = s.dramBad := by
  unfold State.ownTouch
  split
  · exact regionDeny_dramBad _ _ _ _ _
  · rfl

/-- Plane `p` takes its turn (R168). -/
abbrev State.takeTurn (s : State) (p : Nat) : State := { s with screenTurn := p }

/-- A C8 image line whose reads meet no error: the touch of Bank S, the count, and the codes of the line (R164, R168). -/
theorem screenLine_of_c8 {i : Nat} (hmay : s.screenMay p = true) (hline : s.imgLine p (s.planeAt p).done = some i)
    (hfmt : s.fmt p = 1) (hbad : s.dramBad = []) : ∃ n cols, s.screenLine p { corr := [], bad := none } =
      (((s.takeTurn p).ownTouch bankS).p2Counted p n).lineDone p (s.planeAt p).done cols := by
  have hfmt' : (s.takeTurn p).fmt p = 1 := hfmt
  have hline' : (s.takeTurn p).imgLine p ((s.takeTurn p).planeAt p).done = some i := hline
  have hclean : ((s.takeTurn p).ownTouch bankS).dramBad = [] := (ownTouch_dramBad _ _).trans hbad
  simp only [State.screenLine, hmay, hline', hfmt', Bool.not_true, Bool.false_eq_true, if_false, if_true, eccMeet_clean,
    screenFault_clean hclean]
  exact ⟨_, _, rfl⟩

/-- Screening a C8 image line while Bank S is not accessible enters a region denial of the screen unit, an owner and so
master 4 (R388, R397). -/
theorem screenLine_of_asleep {i : Nat} (hmay : s.screenMay p = true) (hline : s.imgLine p (s.planeAt p).done = some i)
    (hfmt : s.fmt p = 1) (hbad : s.dramBad = []) (hasleep : s.bit R.MEM_RET ⟨18, 1⟩ = false)
    (hroom : s.evFifo.length < 256) : (s.screenLine p { corr := [], bad := none }).evFifo ≠ s.evFifo ∧
      (s.screenLine p { corr := [], bad := none }).bit R.MEM_STAT F.MEM_STAT_DENY = true := by
  have hasleep' : (s.takeTurn p).bit R.MEM_RET ⟨18, 1⟩ = false := hasleep
  have htouch : (s.takeTurn p).ownTouch bankS = (s.takeTurn p).regionDeny 4 bankS false 3 := by
    simp only [State.ownTouch, ownRefusal_bankS_of_asleep hasleep']
  have hcnt : R.SCR_PLANE_P2W_CNT p ≠ R.MEM_STAT := by simp only [R.SCR_PLANE_P2W_CNT, R.MEM_STAT]; omega
  have hstat : R.SCR_PLANE_STAT p ≠ R.MEM_STAT := by simp only [R.SCR_PLANE_STAT, R.MEM_STAT]; omega
  obtain ⟨n, cols, hrun⟩ := screenLine_of_c8 hmay hline hfmt hbad
  rw [hrun, htouch]
  constructor
  · rw [lineDone_evFifo, p2Counted_evFifo]
    exact regionDeny_evFifo_ne (s.takeTurn p) 4 bankS 3 false hroom
  · refine (bit_congr _ ?_).trans (regionDeny_deny (s.takeTurn p) 4 bankS 3 false)
    rw [lineDone_get, p2Counted_get hcnt hstat]

/-- SCREEN_LINE of a plane that exists, its reads meeting no error. -/
theorem exec_screenLine (s : State) (hp : p < 8) :
    exec (.screenLine p [] none) s = .next (s.seal (s.screenLine p { corr := [], bad := none })) := onUnit_of_lt hp

/-- Plane 0 with a C8 line to screen, its array of one cell in slot 0, and the banks as reset leaves them: Bank S is not
accessible yet (R407). -/
def c8BankSAsleep : State :=
  let s : State := { State.reset with planes := [(0, { job := some { lastLine := 9 }, avail := 5 })] }
  (((s.setFld (R.SCR_PLANE_CFG 0) F.SCR_PLANE_CFG_FMT 1).setN (R.SCR_PLANE_WIDTH 0) 8).setN (R.SCR_PLANE_PAGE 0) 100).setN
    (R.SCR_ARR_SIZE 0) (1 + 1 * 65536)

theorem c8BankSAsleep_denied :
    (c8BankSAsleep.screenLine 0 { corr := [], bad := none }).evFifo ≠ c8BankSAsleep.evFifo ∧
      (c8BankSAsleep.screenLine 0 { corr := [], bad := none }).bit R.MEM_STAT F.MEM_STAT_DENY = true :=
  screenLine_of_asleep (i := 0) (by decide) (by decide) (by decide) rfl (by decide) (by decide)

end
end Sys2Proof.Machine

namespace Sys2Proof.Proofs
open Sys2Proof Sys2Proof.Machine

/-- Settles O54: a write of COMMIT is one commit, which changes its plane and what a completion touches. -/
theorem commitMakesAvailable : Obligations.CommitMakesAvailable := by
  unfold Obligations.CommitMakesAvailable
  refine ⟨fun s m p x rest hp hm hstrips => ?pop, fun s m p hp hm hstrips => ?empty, fun s p hp => ?pulse⟩
  case pop =>
    refine scrCommit_runs s m hp hm ?_
    have hkept := stripCommit_of_cons (s := s.scrPause p (s.paused p)) (p := p) (x := x) (rest := rest) hstrips
    have hplane : (((s.scrPause p (s.paused p)).stripCommit p).planeAt p) = (s.planeAt p).popped x.count rest :=
      (hkept.planeAt p).trans (State.planeAt_mod s p _)
    exact ⟨hkept.chip, hkept.dram, hkept.mode, congrArg Plane.strips hplane, congrArg Plane.avail hplane⟩
  case empty =>
    refine scrCommit_runs s m hp hm ?_
    rw [stripCommit_of_nil (s := s.scrPause p (s.paused p)) hstrips]
    exact ⟨⟨rfl, rfl, rfl⟩, rfl, State.bit_setBit _ _ _ _ (by decide) (by decide), rfl⟩
  case pulse =>
    have hevent : 0x10 ≤ 0x10 + p ∧ 0x10 + p < 0x18 := by omega
    rw [State.chPulse, if_pos hevent, Nat.add_sub_cancel_left]

/-- Settles O26: each row's effect changes its plane, registers and the clock. -/
theorem jobRows : Obligations.JobRows := by
  unfold Obligations.JobRows
  refine ⟨fun s p j hp hready hjob => ?running, fun s p k j hp hjob hwait hmode => ?arm,
    fun s p j hp hjob hrun harmed hlast hchannel => ?ends⟩
  case running =>
    obtain ⟨u, j', hregs, hst, hstart, hrun⟩ := jobRunning_of_ready hready hjob
    refine .of_onUnit rfl hp ?_
    rw [hrun]
    exact ⟨⟨j', by simp, hst, hstart⟩, hregs.frame_modPlane p _⟩
  case arm =>
    refine .of_onUnit rfl hp ?_
    rw [jobArm_of_wait hjob hwait hmode]
    exact ⟨State.bit_setBit _ _ _ _ (by decide) (by decide), by simp, rfl, rfl⟩
  case ends =>
    refine .of_onUnit rfl hp ?_
    rw [jobEnd_of_retired hjob hrun harmed hlast hchannel]
    exact ⟨by simp, rfl, rfl, rfl, rfl, rfl, rfl, rfl, rfl⟩

/-- Refutes O25: its first clause has the screening of a line keep the event FIFO, but a C8 line reads Bank S, and where that
bank is not accessible the read raises REGION_DENY (R388, R397). -/
theorem not_screeningRows : ¬ Obligations.ScreeningRows := by
  unfold Obligations.ScreeningRows
  rintro ⟨hscreen, -⟩
  obtain ⟨t, hrun, -, -, -, -, hevents⟩ := hscreen c8BankSAsleep 0 (by decide) (by decide) rfl
  rw [exec_screenLine _ (by decide)] at hrun
  rw [← Host.Outcome.next.inj hrun, State.seal_evFifo] at hevents
  exact c8BankSAsleep_denied.1 hevents

/-- Refutes O60: it has screening a line keep every register but P2W_CNT and STAT of the plane, but the refused read of a C8
line sets DENY of MEM_STAT (R388, R397, R409). -/
theorem not_screenLineFrame : ¬ Obligations.ScreenLineFrame := by
  unfold Obligations.ScreenLineFrame
  intro hframe
  obtain ⟨-, -, -, -, -, -, -, -, hregs⟩ := hframe c8BankSAsleep _ 0 (by decide) rfl (exec_screenLine _ (by decide))
  have hsame := bit_congr F.MEM_STAT_DENY (hregs R.MEM_STAT (by decide) (by decide))
  rw [State.seal_bit, c8BankSAsleep_denied.2] at hsame
  exact absurd hsame (by decide)

end Sys2Proof.Proofs
end

section
/-! PROOFS. A probe window that closes on a word of Bank N that its ECC cannot correct. -/
namespace Sys2Proof.Machine

/-- PROBE_WINDOW_CLOSE of a port that the part has. -/
theorem exec_probeWindowClose {s : State} {n : Nat} (g : GateIn) (hn : n < s.part.ports) :
    exec (.probeWindowClose n g) s = .next (s.seal (s.probeClose n g)) := onUnit_of_lt hn

/-- A probe of nozzle 0 that has fired and whose line was delivered. -/
def firedProbe : Probe := { h := 0, line := 4, fired := true }

/-- PRINT on the smallest part, with one probe of port 7 in flight. -/
def probeInPrint : State :=
  { State.reset with part := .sxv0800, mode := .print, ports := [(7, { flying := [firedProbe] })] }

/-- A base of 0, and an uncorrectable error in the word of Bank N that holds the record of nozzle 0 of port 7 (R307). -/
def badRecordGate : GateIn := { base := 0, ecc := { bad := some (1, (dgvRec 7 0 - bankN) / 8) } }

/-- Judging the probe meets the error, whose fault stop leaves PRINT for CONFIG (R33, R37, R394). -/
theorem probeInPrint_probeClose_mode : (probeInPrint.probeClose 7 badRecordGate).mode = .config := by decide

end Sys2Proof.Machine

namespace Sys2Proof.Proofs
open Sys2Proof Sys2Proof.Machine

/-- Refutes O23: its fourth clause has PROBE_WINDOW_CLOSE keep the mode whatever the gate brings, but an uncorrectable word of
Bank N that comes with it is a fault stop, which in PRINT enters CONFIG (R33, R37, R394). -/
theorem not_cursorMapRows : ¬ Obligations.CursorMapRows := by
  unfold Obligations.CursorMapRows
  rintro ⟨-, -, -, hclose, -, -⟩
  have hport : 7 < probeInPrint.part.ports := by decide
  have hweak : badRecordGate.base < 10 * probeInPrint.fld (R.DGV_TH 7) F.DGV_TH_BASE_MIN := by decide
  obtain ⟨t, hrun, -, -, hmode, -⟩ := hclose probeInPrint 7 firedProbe badRecordGate hport rfl rfl rfl rfl (by decide) rfl hweak
  rw [exec_probeWindowClose _ hport] at hrun
  rw [← Host.Outcome.next.inj hrun, State.seal_mode, probeInPrint_probeClose_mode] at hmode
  exact absurd hmode (by decide)

end Sys2Proof.Proofs
end

section
/-! PROOFS. The DMA engine: what a command of one channel leaves as it is, how a channel starts, drains, is enabled and disabled,
how a bus error is recorded, and a copy from a DRAM whose cells are out of order. -/
namespace Sys2Proof.Machine

/-! Fields and quantities of registers beside those written. -/

section
variable (s : State) {a b lo hi : Nat} (f : Fld) (v : Nat)

theorem fld_congr {s t : State} (f : Fld) (h : t.get a = s.get a) : t.fld a f = s.fld a f := by
  unfold State.fld State.getN
  rw [h]

theorem fld_setN_ne (h : a ≠ b) : (s.setN a v).fld b f = s.fld b f := fld_congr f (State.get_set_ne s a b _ h)

theorem fld_set64_ne (hlo : lo ≠ b) (hhi : hi ≠ b) : (s.set64 lo hi v).fld b f = s.fld b f :=
  (fld_setN_ne _ _ _ hhi).trans (fld_setN_ne _ _ _ hlo)

/-- A quantity of two registers reads as the low 64 bits of what was written. -/
theorem get64_set64 (h : lo ≠ hi) : (s.set64 lo hi v).get64 lo hi = v % 2 ^ 64 := by
  unfold State.get64 State.set64
  rw [State.getN_setN_ne _ _ _ _ h.symm, State.getN_setN, State.getN_setN]
  omega

theorem get64_setN_ne (hlo : a ≠ lo) (hhi : a ≠ hi) : (s.setN a v).get64 lo hi = s.get64 lo hi := by
  unfold State.get64
  rw [State.getN_setN_ne _ _ _ _ hlo, State.getN_setN_ne _ _ _ _ hhi]

theorem get64_lt : s.get64 lo hi < 2 ^ 64 := by
  have hlow := s.getN_lt lo
  have hhigh := s.getN_lt hi
  unfold State.get64
  omega

/-- A one-bit field holds 1 where it is set. -/
theorem bit_eq_decide (h : f.w = 1) : s.bit a f = decide (s.fld a f = 1) := by
  have hlt : s.fld a f < 2 := by
    unfold State.fld bits
    rw [h]
    exact Nat.mod_lt _ (by decide)
  unfold State.bit
  exact decide_eq_decide.mpr (by omega)

end

/-! What a command of one channel leaves as it is. -/

/-- From `s` to `t` nothing has changed but channel `c` and registers of the DMA block. -/
structure DmaOnly (c : Nat) (s t : State) : Prop where
  eq : ∃ regs chans, t = { s with regs := regs, chans := chans }
  chans : ∀ j, j ≠ c → t.chanAt j = s.chanAt j
  get : ∀ a, a / 0x100000 ≠ 11 → t.get a = s.get a

/-- The registers of a channel lie in the DMA block. -/
theorem chReg_block {c k : Nat} (hc : c < 64) (hk : k < 0x40) : (0x0B10000 + c * 0x40 + k) / 0x100000 = 11 := by omega

namespace DmaOnly

variable {c : Nat} {s u : State}

theorem refl : DmaOnly c s s := ⟨⟨s.regs, s.chans, rfl⟩, fun _ _ => rfl, fun _ _ => rfl⟩

theorem set (h : DmaOnly c s u) {a : Nat} (ha : a / 0x100000 = 11) (v : BitVec 32) : DmaOnly c s (u.set a v) := by
  obtain ⟨⟨_, chans, rfl⟩, hchans, hget⟩ := h
  exact ⟨⟨_, chans, rfl⟩, hchans, fun b hb => (State.get_set_ne _ a b v (fun hab => hb (hab ▸ ha))).trans (hget b hb)⟩

theorem setFld (h : DmaOnly c s u) {a : Nat} (ha : a / 0x100000 = 11) (f : Fld) (v : Nat) : DmaOnly c s (u.setFld a f v) :=
  h.set ha _

theorem setBit (h : DmaOnly c s u) {a : Nat} (ha : a / 0x100000 = 11) (f : Fld) (b : Bool) : DmaOnly c s (u.setBit a f b) :=
  h.set ha _

theorem modChan (h : DmaOnly c s u) (f : Chan → Chan) : DmaOnly c s (u.modChan c f) := by
  obtain ⟨⟨regs, _, rfl⟩, hchans, hget⟩ := h
  exact ⟨⟨regs, _, rfl⟩, fun j hj => (State.chanAt_mod_ne _ c j f hj.symm).trans (hchans j hj), hget⟩

/-- No command reaches what the seal keeps from one. -/
theorem seal_eq (h : DmaOnly c s u) : s.seal u = u := by
  obtain ⟨⟨_, _, rfl⟩, -, -⟩ := h
  rfl

/-- The mode, the memories, the clock and the trace are as before. -/
theorem frame (h : DmaOnly c s u) : Frame s u := by
  obtain ⟨⟨_, _, rfl⟩, -, -⟩ := h
  exact ⟨rfl, rfl, rfl, rfl, rfl, rfl, rfl⟩

/-- A command of channel `c` changes no more than its effect does, and nothing where the part lacks the channel. -/
theorem of_onUnit {t : State} (h : c < 64 → DmaOnly c s u) (ht : onUnit c 64 s (s.answer u) = .next t) : DmaOnly c s t := by
  obtain hc | hc := Nat.lt_or_ge c 64
  · rw [onUnit_of_lt hc] at ht
    exact answer_eq_next ht ▸ (h hc).seal_eq.symm ▸ h hc
  · rw [onUnit_of_le hc] at ht
    exact Host.Outcome.next.inj ht ▸ refl

/-- A command of channel `c` whose effect is `DmaOnly` runs on a channel the part has, and what holds of its effect holds of its
next state. -/
theorem runs {i : Instr} {P : State → Prop} (h : DmaOnly c s u) (hi : exec i s = onUnit c 64 s (s.answer u))
    (hc : c < 64) (hP : P u) : Runs i s P :=
  .of_onUnit hi hc (h.seal_eq.symm ▸ hP)

section
variable (hc : c < 64)
include hc

theorem setChState (h : DmaOnly c s u) (v : Nat) : DmaOnly c s (u.setChState c v) := h.set (chReg_block hc (by decide)) _

theorem chFlag (h : DmaOnly c s u) (f : Fld) : DmaOnly c s (u.chFlag c f) := h.set (chReg_block hc (by decide)) _

theorem setPtr (h : DmaOnly c s u) (v : Nat) : DmaOnly c s (u.setPtr c v) :=
  (h.set (chReg_block hc (by decide)) _).set (chReg_block hc (by decide)) _

theorem setBlk (h : DmaOnly c s u) (k : Nat) : DmaOnly c s (u.setBlk c k) :=
  ((h.set (chReg_block hc (by decide)) _).set (by decide) _).set (by decide) _

theorem chBegin (h : DmaOnly c s u) (limit : Option Nat) : DmaOnly c s (u.chBegin c limit) :=
  ((((h.setChState hc _).setPtr hc _).setBit (chReg_block hc (by decide)) _ _).setFld (chReg_block hc (by decide)) _ _).modChan _

theorem chStart (h : DmaOnly c s u) (pulse : Bool) : DmaOnly c s (u.chStart c pulse) := by
  have hlost := h.chFlag hc F.DMA_CH_STAT_EVT_LOST
  have hpend : DmaOnly c s (if u.bit (R.DMA_CH_STAT c) F.DMA_CH_STAT_PEND then u.chFlag c F.DMA_CH_STAT_EVT_LOST
      else u.chFlag c F.DMA_CH_STAT_PEND) := by
    split
    · exact hlost
    · exact h.chFlag hc _
  simp only [State.chStart]
  split
  · exact hlost
  · split
    · exact h.chBegin hc _
    · exact hpend
    · exact hpend
    · split
      · exact hlost
      · exact h.chBegin hc _
    · exact hlost

theorem chRing (h : DmaOnly c s u) (v : Nat) : DmaOnly c s (u.chRing c v) := by
  have hignored := h.chFlag hc F.DMA_CH_STAT_DB_IGN
  have hlimit {t : State} (ht : DmaOnly c s t) (b : Bool) (n : Nat) :
      DmaOnly c s ((t.setBit (R.DMA_CH_STAT c) F.DMA_CH_STAT_LIMITED b).setFld (R.DMA_CH_SEQ c) F.DMA_CH_SEQ_LIMIT n) :=
    (ht.setBit (chReg_block hc (by decide)) _ _).setFld (chReg_block hc (by decide)) _ _
  simp only [State.chRing]
  split
  · split
    · exact hignored
    · exact ((h.set (chReg_block hc (by decide)) _).set (chReg_block hc (by decide)) _).chBegin hc _
  · exact hlimit h _ _
  · split
    · exact ((hlimit h _ _).setChState hc _).modChan _
    · exact hlimit h _ _
  · exact hignored

theorem chEnable (h : DmaOnly c s u) : DmaOnly c s (u.chEnable c) := by
  have hclear := h.setBit (chReg_block hc (by decide) : R.DMA_CH_CTL c / _ = _) F.DMA_CH_CTL_DISABLE false
  simp only [State.chEnable]
  split
  · exact (hclear.setBit (chReg_block hc (by decide)) _ _).setChState hc _
  · exact hclear

theorem chDrained (h : DmaOnly c s u) : DmaOnly c s (u.chDrained c) := by
  have hdisabled := (h.setBlk hc 0).setChState hc 5
  simp only [State.chDrained]
  split
  · exact h
  · split
    · exact hdisabled
    · exact hdisabled.chEnable hc

end
end DmaOnly

/-! Writes of the registers of the DMA block. -/

section
variable (s : State) {c : Nat} (m : Master) (v : Nat)

theorem regOf_dma {off i j : Nat} {r : RegSpec} (hoff : off / 0x100000 = 11) (hfind : regFind off = some (r, i, j))
    (hbase : 0x0B00000 ≤ r.base) : s.regOf off = some (r, i, j) := by
  have hzone : s.noZone r.base i j = false := by
    have hloop : ¬ r.base ≤ R.DCT_LOOP_SAT 0 0 := by simp only [R.DCT_LOOP_SAT]; omega
    simp [State.noZone, hloop]
  simp only [State.regOf, hfind, hoff, hzone]
  rfl

/-- A write of a register of the DMA block that its master may make. -/
theorem writeReg_dma {off i j : Nat} {r : RegSpec} (hoff : off / 0x100000 = 11) (hfind : regFind off = some (r, i, j))
    (hbase : 0x0B00000 ≤ r.base) (hm : s.mayWrite m off = true) : s.writeReg m off v true = s.applyHigh r off i j v := by
  have hvalue : s.quillValue m off v = v := if_neg (by simp only [R.SYS_ADMIT_STOP]; omega)
  have hfirst : s.quillFirst m off v = s := by
    have hnone : (List.range 8).find? (fun p => off = R.SCR_PLANE_STAT p) = none := by
      simp only [List.find?_eq_none, List.mem_range, decide_eq_true_eq, R.SCR_PLANE_STAT]
      omega
    simp only [State.quillFirst, hnone, ite_self]
  simp only [State.writeReg, hm, hvalue, hfirst, State.applyWrite, regOf_dma s hoff hfind hbase, hoff]
  rfl

theorem regFind_dmaCtl (hc : c < 64) :
    ∃ r, regFind (R.DMA_CH_CTL c) = some (r, c, 0) ∧ r.base = R.DMA_CH_CTL 0 ∧ r.rw = 2 := by
  have hall : ∀ c < 64, (regFind (R.DMA_CH_CTL c)).map (fun x => (x.1.base, x.1.rw, x.2)) =
      some (R.DMA_CH_CTL 0, 2, c, 0) := by decide
  obtain ⟨⟨r, i, j⟩, hr, he⟩ := Option.map_eq_some_iff.mp (hall c hc)
  simp only [Prod.mk.injEq] at he
  obtain ⟨hbase, hrw, rfl, rfl⟩ := he
  exact ⟨r, hr, hbase, hrw⟩

theorem regFind_dmaLimit (hc : c < 64) : ∃ r, regFind (R.DMA_DB_LIMIT c) = some (r, c, 0) ∧ r.base = R.DMA_DB_LIMIT 0 := by
  have hall : ∀ c < 64, (regFind (R.DMA_DB_LIMIT c)).map (fun x => (x.1.base, x.2)) =
      some (R.DMA_DB_LIMIT 0, c, 0) := by decide
  obtain ⟨⟨r, i, j⟩, hr, he⟩ := Option.map_eq_some_iff.mp (hall c hc)
  simp only [Prod.mk.injEq] at he
  obtain ⟨hbase, rfl, rfl⟩ := he
  exact ⟨r, hr, hbase⟩

theorem writeReg_dmaCtl (hc : c < 64) (hm : s.mayWrite m (R.DMA_CH_CTL c) = true) :
    s.writeReg m (R.DMA_CH_CTL c) v true = s.dmaCtlWrite c v := by
  obtain ⟨r, hr, hbase, -⟩ := regFind_dmaCtl hc
  rw [writeReg_dma s m v (chReg_block hc (by decide)) hr (by rw [hbase]; decide) hm]
  simp only [State.applyHigh, hbase]
  rfl

theorem writeReg_dmaLimit (hc : c < 64) (hm : s.mayWrite m (R.DMA_DB_LIMIT c) = true) :
    s.writeReg m (R.DMA_DB_LIMIT c) v true = s.chRing c v := by
  obtain ⟨r, hr, hbase⟩ := regFind_dmaLimit hc
  have hblock : R.DMA_DB_LIMIT c / 0x100000 = 11 := by simp only [R.DMA_DB_LIMIT]; omega
  rw [writeReg_dma s m v hblock hr (by rw [hbase]; decide) hm]
  simp only [State.applyHigh, hbase]
  rfl

/-- DMA_GSTAT in the register map (R373). -/
def dmaGstatSpec : RegSpec := regMapDMA0.head (List.cons_ne_nil _ _)

theorem writeReg_dmaGstat (hm : s.mayWrite m R.DMA_GSTAT = true) :
    s.writeReg m R.DMA_GSTAT v true = s.plain dmaGstatSpec R.DMA_GSTAT v :=
  writeReg_dma s m v (by decide) (rfl : regFind R.DMA_GSTAT = some (dmaGstatSpec, 0, 0)) (by decide) hm

/-- A write of DMA_CH_CTL with DISABLE as it stands and START starts the channel (R343). -/
theorem dmaCtlWrite_start (hstart : bits v 0 1 = 1) (hdis : bits v 1 1 = s.fld (R.DMA_CH_CTL c) F.DMA_CH_CTL_DISABLE) :
    s.dmaCtlWrite c v = s.chStart c false := by
  simp only [State.dmaCtlWrite, hstart, hdis, bit_eq_decide s F.DMA_CH_CTL_DISABLE rfl]
  simp

/-- A write of DISABLE alone, where it was 0 (R369). -/
theorem dmaCtlWrite_disable (hwas : s.bit (R.DMA_CH_CTL c) F.DMA_CH_CTL_DISABLE = false) :
    s.dmaCtlWrite c (2 ^ F.DMA_CH_CTL_DISABLE.lo) = s.chDisable c := by
  simp [State.dmaCtlWrite, hwas, bits]

/-- A write of 0 enables a channel that was disabled (R369). -/
theorem dmaCtlWrite_zero :
    s.dmaCtlWrite c 0 = if s.bit (R.DMA_CH_CTL c) F.DMA_CH_CTL_DISABLE then s.chEnable c else s := by
  simp [State.dmaCtlWrite, bits]

/-- START set by a register write starts the channel, and leaves DISABLE as it stands (R343, log entry 62). -/
theorem strobeReg_dmaStart (hc : c < 64) (hm : s.mayWrite m (R.DMA_CH_CTL c) = true) :
    s.strobeReg m (R.DMA_CH_CTL c) F.DMA_CH_CTL_START = s.chStart c false := by
  obtain ⟨r, hr, hbase, hrw⟩ := regFind_dmaCtl hc
  simp only [State.strobeReg, regOf_dma s (chReg_block hc (by decide)) hr (by rw [hbase]; decide), hrw]
  rw [writeReg_dmaCtl s m _ hc hm]
  refine dmaCtlWrite_start s _ (bits_setBits _ _ _ _) ?_
  rw [bits_setBits_ne _ _ _ _ _ _ (by decide)]
  exact bits_and _ _ _ _ (by decide)

end

/-! How a channel starts, drains and is enabled, and how GHALT is cleared. -/

section
variable (s : State) {a c : Nat} (f : Fld) (v : Nat) (limit : Option Nat)

@[simp] theorem chState_setChState : (s.setChState c v).chState c = v % 8 := State.fld_setFld _ _ _ _ (by decide)

/-- The state of a channel where another register is written. -/
theorem chState_setFld_ne (h : a ≠ R.DMA_CH_STAT c) : (s.setFld a f v).chState c = s.chState c :=
  State.fld_setFld_ne _ _ _ _ _ _ h

/-- The state of a channel where another field of DMA_CH_STAT is written. -/
theorem chState_setFld_stat (h : 3 ≤ f.lo) (hw : f.lo + f.w ≤ 32) :
    (s.setFld (R.DMA_CH_STAT c) f v).chState c = s.chState c :=
  State.fld_setFld_beside _ _ _ _ _ hw (.inr h)

@[simp] theorem chState_modChan (k : Nat) (g : Chan → Chan) : (s.modChan k g).chState c = s.chState c := rfl

@[simp] theorem chState_setPtr : (s.setPtr c v).chState c = s.chState c := fld_set64_ne _ _ _ (by simp) (by simp)

/-- The space and the address of a pointer that is stored. -/
theorem ptrOf_stored (h : v < 2 ^ 64) : ptrOf ((v / 32 * 32 + v % 4) % 2 ^ 64) = ptrOf v := by
  simp only [ptrOf, Prod.mk.injEq]
  omega

@[simp] theorem chPtr_setPtr (h : v < 2 ^ 64) : (s.setPtr c v).chPtr c = ptrOf v := by
  unfold State.chPtr State.setPtr
  rw [get64_set64 _ _ (by simp), ptrOf_stored v h]

theorem chBegin_chState : (s.chBegin c limit).chState c = 1 := by
  unfold State.chBegin State.setBit
  rw [chState_modChan, chState_setFld_ne _ _ _ (by simp), chState_setFld_stat _ _ _ (by decide) (by decide), chState_setPtr,
    chState_setChState]

@[simp] theorem chPtr_modChan (k : Nat) (g : Chan → Chan) : (s.modChan k g).chPtr c = s.chPtr c := rfl

/-- The pointer of a channel where another register is written. -/
theorem chPtr_setFld_ne (hlo : a ≠ R.DMA_CH_PTR_LO c) (hhi : a ≠ R.DMA_CH_PTR_HI c) : (s.setFld a f v).chPtr c = s.chPtr c :=
  congrArg ptrOf (get64_setN_ne _ _ hlo hhi)

/-- A chain begins at DMA_CH_START (R343). -/
theorem chBegin_chPtr : (s.chBegin c limit).chPtr c = ptrOf (s.get64 (R.DMA_CH_START_LO c) (R.DMA_CH_START_HI c)) := by
  have hstart : (s.setChState c 1).get64 (R.DMA_CH_START_LO c) (R.DMA_CH_START_HI c) =
      s.get64 (R.DMA_CH_START_LO c) (R.DMA_CH_START_HI c) := get64_setN_ne _ _ (by simp) (by simp)
  unfold State.chBegin State.setBit
  rw [chPtr_modChan, chPtr_setFld_ne _ _ _ (by simp) (by simp), chPtr_setFld_ne _ _ _ (by simp) (by simp),
    chPtr_setPtr _ _ (get64_lt _), hstart]

/-- The limit of a chain, and the flag that it has one (R350, R370). -/
theorem chBegin_limited : (s.chBegin c limit).bit (R.DMA_CH_STAT c) F.DMA_CH_STAT_LIMITED = limit.isSome := by
  unfold State.chBegin
  rw [State.modChan_bit, State.bit_setFld_ne _ _ (by simp), State.bit_setBit _ _ _ _ (by decide) (by decide)]

theorem chBegin_limit : (s.chBegin c limit).fld (R.DMA_CH_SEQ c) F.DMA_CH_SEQ_LIMIT = limit.getD 0 % 2 ^ 16 := by
  unfold State.chBegin
  rw [State.modChan_fld, State.fld_setFld _ _ _ _ (by decide)]

variable {s}

theorem chStart_of_idle (hghalt : s.ghalt = false) (hidle : s.chState c = 0) (pulse : Bool) :
    s.chStart c pulse = s.chBegin c none := by
  simp [State.chStart, hghalt, hidle]

/-- The limit a doorbell rings with, none where it sets NOLIM (R344, R350, R378). -/
def doorbellLimit (v : Nat) : Option Nat := if v / 2 ^ 16 % 2 = 1 then none else some (v % 65536)

theorem doorbellLimit_isSome : (doorbellLimit v).isSome = (v / 2 ^ 16 % 2 == 0) := by
  unfold doorbellLimit
  obtain h | h := Nat.mod_two_eq_zero_or_one (v / 2 ^ 16) <;> rw [h] <;> rfl

theorem doorbellLimit_getD : (doorbellLimit v).getD 0 % 2 ^ 16 = if v / 2 ^ 16 % 2 = 1 then 0 else v % 65536 := by
  unfold doorbellLimit
  split
  · rfl
  · exact Nat.mod_mod v 65536

/-- A doorbell that finds its channel IDLE copies DMA_DB_PTR to DMA_CH_START, from where the chain begins (R344). -/
theorem chRing_of_idle (hghalt : s.ghalt = false) (hidle : s.chState c = 0) :
    s.chRing c v = ((s.setN (R.DMA_CH_START_LO c) (s.getN (R.DMA_DB_PTR_LO c))).setN (R.DMA_CH_START_HI c)
      (s.getN (R.DMA_DB_PTR_HI c))).chBegin c (doorbellLimit v) := by
  simp [State.chRing, hghalt, hidle, doorbellLimit, bits]

/-- DMA_CH_START reads as DMA_DB_PTR once that is copied to it. -/
theorem get64_start_copied : ((s.setN (R.DMA_CH_START_LO c) (s.getN (R.DMA_DB_PTR_LO c))).setN (R.DMA_CH_START_HI c)
      (s.getN (R.DMA_DB_PTR_HI c))).get64 (R.DMA_CH_START_LO c) (R.DMA_CH_START_HI c) =
    s.get64 (R.DMA_DB_PTR_LO c) (R.DMA_DB_PTR_HI c) := by
  unfold State.get64
  rw [State.getN_setN_ne _ _ _ _ (by simp), State.getN_setN, State.getN_setN, Nat.mod_eq_of_lt (s.getN_lt _),
    Nat.mod_eq_of_lt (s.getN_lt _)]

/-- A channel in DRAIN whose DISABLE stands is DISABLED and holds no block (R369). -/
theorem chDrained_of_disable (hdrain : s.chState c = 4) (hdis : s.bit (R.DMA_CH_CTL c) F.DMA_CH_CTL_DISABLE = true) :
    (s.chDrained c).chState c = 5 ∧ (s.chDrained c).fld (R.DMA_CH_STAT c) F.DMA_CH_STAT_BLK = 0 := by
  have hbuf : R.DMA_BUF ≠ R.DMA_CH_STAT c := by simp only [R.DMA_BUF, R.DMA_CH_STAT]; omega
  have hctl : R.DMA_BUF ≠ R.DMA_CH_CTL c := by simp only [R.DMA_BUF, R.DMA_CH_CTL]; omega
  have hkept : ((s.setBlk c 0).setChState c 5).bit (R.DMA_CH_CTL c) F.DMA_CH_CTL_DISABLE = true := by
    unfold State.setBlk State.setChState
    rw [State.bit_setFld_ne _ _ (by simp), State.bit_setFld_ne _ _ hctl, State.bit_setFld_ne _ _ hctl,
      State.bit_setFld_ne _ _ (by simp), hdis]
  have heq : s.chDrained c = (s.setBlk c 0).setChState c 5 := by simp [State.chDrained, hdrain, hkept]
  rw [heq]
  refine ⟨chState_setChState _ _, ?_⟩
  unfold State.setBlk State.setChState
  rw [State.fld_setFld_beside _ _ _ _ _ (by decide) (by decide), State.fld_setFld_ne _ _ _ _ _ _ hbuf,
    State.fld_setFld_ne _ _ _ _ _ _ hbuf, State.fld_setFld _ _ _ _ (by decide), Nat.zero_mod]

/-- DISABLE cleared takes a DISABLED channel to IDLE (R369). -/
theorem chEnable_of_disabled (h : s.chState c = 5) :
    (s.chEnable c).chState c = 0 ∧ (s.chEnable c).bit (R.DMA_CH_CTL c) F.DMA_CH_CTL_DISABLE = false := by
  have hstill : (s.setBit (R.DMA_CH_CTL c) F.DMA_CH_CTL_DISABLE false).chState c = 5 :=
    (chState_setFld_ne _ _ _ (by simp)).trans h
  unfold State.chEnable
  rw [if_pos hstill]
  refine ⟨chState_setChState _ _, ?_⟩
  unfold State.setChState
  rw [State.bit_setFld_ne _ _ (by simp), State.bit_setBit_ne _ _ _ _ _ _ (by simp),
    State.bit_setBit _ _ _ _ (by decide) (by decide)]

/-- A W1C bit written 1 reads 0 (R15). -/
theorem plain_bit_w1c (r : RegSpec) (hf : f.w = 1) (hrw : r.rw.getLsbD f.lo = false) (hw1c : r.w1c.getLsbD f.lo = true)
    (hv : (BitVec.ofNat 32 v).getLsbD f.lo = true) : (s.plain r a v).bit a f = false := by
  have hzero : bits (regWritten { r with w1s := 0 } (s.get a) (BitVec.ofNat 32 v)).toNat f.lo f.w = 0 := by
    apply Nat.eq_of_testBit_eq
    intro j
    rw [testBit_bits, hf, BitVec.testBit_toNat]
    obtain rfl | hj := Nat.eq_zero_or_pos j
    · simp [regWritten, hrw, hw1c, hv]
    · simp [show ¬ j < 1 by omega]
  unfold State.plain State.bit State.fld State.getN
  rw [State.get_set, hzero]
  rfl

/-- GHALT written 1 clears (R364, R373). -/
theorem plain_dmaGstat_ghalt : (s.plain dmaGstatSpec R.DMA_GSTAT (2 ^ F.DMA_GSTAT_GHALT.lo)).ghalt = false :=
  plain_bit_w1c _ _ dmaGstatSpec rfl (by decide) (by decide) (by decide)

end

/-! What the end of a command, a refused access and lost data leave of the DMA block. -/

/-- From `s` to `t` the mode and the registers up to the DMA block are as before. -/
structure BelowMemory (s t : State) : Prop where
  mode : t.mode = s.mode
  get : ∀ a, a < 0x0C00000 → t.get a = s.get a

namespace BelowMemory

variable {s u : State}

theorem refl : BelowMemory s s := ⟨rfl, fun _ _ => rfl⟩

theorem setN (h : BelowMemory s u) {a : Nat} (ha : 0x0C00000 ≤ a) (v : Nat) : BelowMemory s (u.setN a v) :=
  ⟨h.mode, fun b hb => (State.get_set_ne u a b _ (by omega)).trans (h.get b hb)⟩

theorem forEach {α : Type} {f : State → α → State} (hf : ∀ v x, BelowMemory s v → BelowMemory s (f v x)) (l : List α)
    (h : BelowMemory s u) : BelowMemory s (u.forEach l f) := by
  induction l generalizing u with
  | nil => exact h
  | cons x l ih => exact ih (hf u x h)

theorem modQp (h : BelowMemory s u) (q : Nat) (f : Qp → Qp) : BelowMemory s (u.modQp q f) := { h with }

theorem modVec (h : BelowMemory s u) (v : Nat) (f : Vec → Vec) : BelowMemory s (u.modVec v f) := { h with }

theorem modPlane (h : BelowMemory s u) (p : Nat) (f : Plane → Plane) : BelowMemory s (u.modPlane p f) := { h with }

theorem modChan (h : BelowMemory s u) (c : Nat) (f : Chan → Chan) : BelowMemory s (u.modChan c f) := { h with }

theorem emit (h : BelowMemory s u) (o : Output) : BelowMemory s (u.emit o) := { h with }

theorem hostWrite (h : BelowMemory s u) (a : Nat) (bs : List Nat) : BelowMemory s (u.hostWrite a bs) := { h with }

theorem dramWrite (h : BelowMemory s u) (a : Nat) (bs : List Nat) : BelowMemory s (u.dramWrite a bs) := { h with }

theorem chipWrite (h : BelowMemory s u) (a : Nat) (bs : List Nat) : BelowMemory s (u.chipWrite a bs) := { h with }

theorem raiseCount (h : BelowMemory s u) (code obj j : Nat) : BelowMemory s (u.raiseCount code obj j) := { h with }

theorem freshList (h : BelowMemory s u) (k : Nat) : BelowMemory s (u.freshList k).2 := { h with }

theorem fresh (h : BelowMemory s u) : BelowMemory s u.fresh.2 := { h with }

theorem msixSend (h : BelowMemory s u) (v : Nat) : BelowMemory s (u.msixSend v) := by
  simp only [State.msixSend]
  repeat' split
  · exact h
  · exact (h.modVec _ _).setN (a := R.MBX_MSIX_PBA (v / 32)) (by simp only [R.MBX_MSIX_PBA]; omega) _
  · exact (h.modVec _ _).emit _

theorem qpIrq (h : BelowMemory s u) (q : Nat) : BelowMemory s (u.qpIrq q) := by
  simp only [State.qpIrq]
  repeat' split
  · exact h.modVec _ _
  · exact h.msixSend _
  · exact h.msixSend _

theorem z1Put (h : BelowMemory s u) (w : Nat) (l : List Nat) : BelowMemory s (u.z1Put w l) := by
  induction l generalizing u w with
  | nil => exact h
  | cons v l ih => exact ih (h.setN (by simp only [R.MBX_Z1_WIN]; omega) v) _

theorem deliverCpl (h : BelowMemory s u) (q : Nat) (c : Cmd) (status : Nat) (res : List Nat) :
    BelowMemory s (u.deliverCpl q c status res) := by
  have hdone : BelowMemory s (u.bumpW (R.MBX_QP_DONE q)) := h.setN (by simp only [R.MBX_QP_DONE]; omega) _
  have hctl : 0x0C00000 ≤ R.MBX_Z1_CTL := by decide
  simp only [State.deliverCpl]
  repeat' split
  · exact hdone.modQp _ _
  · exact hdone.modQp _ _
  · exact (hdone.modQp _ _).qpIrq _
  · exact (hdone.z1Put _ _).setN hctl _
  · exact BelowMemory.msixSend ((hdone.z1Put _ _).setN hctl _) _
  · exact ((hdone.hostWrite _ _).emit _).modQp _ _
  · exact (((hdone.hostWrite _ _).emit _).modQp _ _).qpIrq _

theorem settle (h : BelowMemory s u) (q n : Nat) : BelowMemory s (u.settle q n) := by
  induction n generalizing u with
  | zero => exact h
  | succ n ih =>
    simp only [State.settle]
    repeat' split
    · exact ih ((h.modQp _ _).deliverCpl _ _ _ _)
    · exact h
    · exact h

theorem finish (h : BelowMemory s u) (q : Nat) (c : Cmd) (status : Nat) (res : List Nat) :
    BelowMemory s (u.finish q c status res) := by
  have hidle : BelowMemory s { u with pw := { u.pw with idleSince := u.now } } := { h with }
  exact (hidle.deliverCpl q c status res).settle q _

theorem finishCur (h : BelowMemory s u) (q status : Nat) (res : List Nat) : BelowMemory s (u.finishCur q status res) := by
  simp only [State.finishCur]
  split
  · exact (h.modQp _ _).finish _ _ _ _
  · exact h

theorem hostReqs (h : BelowMemory s u) (write : Bool) (sp a k : Nat) (ns : Bool) :
    BelowMemory s (u.hostReqs write sp a k ns) := by
  unfold State.hostReqs
  split
  · exact forEach (fun v x hv => hv.emit _) _ h
  · exact h

/-- Strips dropped (R156). -/
theorem stripFail (h : BelowMemory s u) (p j : Nat) : BelowMemory s (u.stripFail p j) := by
  refine forEach (fun v x hv => ?_) _ (h.modPlane _ _)
  split
  · exact hv.finishCur _ _ _
  · exact hv

/-- Quill firmware learns that a channel has stopped (R156). -/
theorem chFailed (h : BelowMemory s u) (c : Nat) : BelowMemory s (u.chFailed c) := by
  refine forEach (fun v p hv => ?_) _ h
  split
  · exact hv.stripFail _ _
  · exact hv

theorem regionDeny (h : BelowMemory s u) (m a : Nat) (write : Bool) (cause : Nat) :
    BelowMemory s (u.regionDeny m a write cause) := by
  have hdeny : BelowMemory s ((u.raiseCount 0x5005 m 16).setBit R.MEM_STAT F.MEM_STAT_DENY true) :=
    (h.raiseCount _ _ _).setN (a := R.MEM_STAT) (by decide) _
  have hlog {v : State} (hv : BelowMemory s v) {k : Nat} (hk : 0x0C00000 ≤ k) (j w : Nat) :
      BelowMemory s (v.setN (k + j * 0x10) w) := hv.setN (by omega) w
  simp only [State.regionDeny]
  refine (hlog (hlog (hlog (hlog ?_ (by decide) _ _) (by decide) _ _) (by decide) _ _) (by decide) _ _).setN (by decide) _
  split
  · exact hdeny.setN (by decide) _
  · exact hdeny

theorem busWrite (h : BelowMemory s u) (m a : Nat) (bs : List Nat) : BelowMemory s (u.busWrite m a bs).2 := by
  simp only [State.busWrite]
  split
  · exact h.regionDeny _ _ _ _
  · simp only [State.tablesWritten]
    split
    · exact forEach (fun v p hv => hv.modPlane _ _) _ (h.chipWrite _ _)
    · exact h.chipWrite _ _

/-- The bytes of a descriptor that was given up (R364, R367). -/
theorem scramble (h : BelowMemory s u) (d : Desc) : BelowMemory s (u.scramble d) := by
  refine forEach (fun v x hv => ?_) _ h
  have hv := hv.freshList x.2
  dsimp only
  split
  · exact hv.hostWrite _ _
  · exact hv.dramWrite _ _
  · split
    · exact hv.chipWrite _ _
    · exact hv

theorem dropDesc (h : BelowMemory s u) (c : Nat) : BelowMemory s (u.dropDesc c) := by
  simp only [State.dropDesc]
  split
  · exact (h.scramble _).modChan _ _
  · exact h

end BelowMemory

/-- A channel that gives up its descriptor has none in hand. -/
theorem dropDesc_desc (s : State) (c : Nat) : ((s.dropDesc c).chanAt c).desc = none := by
  unfold State.dropDesc
  split
  · rw [State.chanAt_mod]
  · assumption

/-! Bus errors. -/

/-- From `s` to `t` the mode is as before, and so are BUS_ERR and CAUSE of channel `c`. -/
structure ErrorKept (c : Nat) (s t : State) : Prop where
  mode : t.mode = s.mode
  busErr : t.bit (R.DMA_CH_STAT c) F.DMA_CH_STAT_BUS_ERR = s.bit (R.DMA_CH_STAT c) F.DMA_CH_STAT_BUS_ERR
  cause : t.fld (R.DMA_CH_STAT c) F.DMA_CH_STAT_CAUSE = s.fld (R.DMA_CH_STAT c) F.DMA_CH_STAT_CAUSE

namespace ErrorKept

variable {c : Nat} {s u t : State}

theorem refl : ErrorKept c s s := ⟨rfl, rfl, rfl⟩

theorem trans (h : ErrorKept c s u) (h' : ErrorKept c u t) : ErrorKept c s t :=
  ⟨h'.mode.trans h.mode, h'.busErr.trans h.busErr, h'.cause.trans h.cause⟩

theorem of_belowMemory (hc : c < 64) (h : BelowMemory s t) : ErrorKept c s t := by
  have hget : t.get (R.DMA_CH_STAT c) = s.get (R.DMA_CH_STAT c) := h.get _ (by simp only [R.DMA_CH_STAT]; omega)
  exact ⟨h.mode, bit_congr _ hget, fld_congr _ hget⟩

/-- Another register written. -/
theorem setN (h : ErrorKept c s u) {a : Nat} (ha : a ≠ R.DMA_CH_STAT c) (v : Nat) : ErrorKept c s (u.setN a v) :=
  ⟨h.mode, (bit_setN_ne u _ v ha).trans h.busErr, (fld_setN_ne u _ v ha).trans h.cause⟩

/-- Another field of DMA_CH_STAT written: one that lies beside BUS_ERR and CAUSE. -/
theorem setStat (h : ErrorKept c s u) {f : Fld} (hw : f.lo + f.w ≤ 32) (herr : f.lo + f.w ≤ 4 ∨ 5 ≤ f.lo)
    (hcause : f.lo + f.w ≤ 12 ∨ 15 ≤ f.lo) (v : Nat) : ErrorKept c s (u.setFld (R.DMA_CH_STAT c) f v) :=
  ⟨h.mode, (State.bit_setFld_beside u v hw herr).trans h.busErr, (State.fld_setFld_beside u _ _ _ v hw hcause).trans h.cause⟩

theorem setChState (h : ErrorKept c s u) (v : Nat) : ErrorKept c s (u.setChState c v) :=
  h.setStat (by decide) (by decide) (by decide) v

theorem setPtr (h : ErrorKept c s u) (v : Nat) : ErrorKept c s (u.setPtr c v) := (h.setN (by simp) _).setN (by simp) _

theorem setBlk (h : ErrorKept c s u) (k : Nat) : ErrorKept c s (u.setBlk c k) := by
  have hbuf : R.DMA_BUF ≠ R.DMA_CH_STAT c := by simp only [R.DMA_BUF, R.DMA_CH_STAT]; omega
  exact ((h.setStat (by decide) (by decide) (by decide) _).setN hbuf _).setN hbuf _

theorem modChan (h : ErrorKept c s u) (f : Chan → Chan) : ErrorKept c s (u.modChan c f) := ⟨h.mode, h.busErr, h.cause⟩

theorem chBegin (h : ErrorKept c s u) (limit : Option Nat) : ErrorKept c s (u.chBegin c limit) :=
  ((((h.setChState _).setPtr _).setStat (by decide) (by decide) (by decide) _).setN (by simp) _).modChan _

theorem chEnd (h : ErrorKept c s u) : ErrorKept c s (u.chEnd c) := by
  simp only [State.chEnd]
  split
  · exact (h.setStat (by decide) (by decide) (by decide) _).chBegin _
  · exact h.setChState _

theorem chNext (h : ErrorKept c s u) (d : Desc) : ErrorKept c s (u.chNext c d) := by
  have hdone := ((h.setN (a := R.DMA_CH_SEQ c) (by simp) (setBits (u.getN (R.DMA_CH_SEQ c)) 0 16 d.seq)).setBlk 0).modChan
    (fun x => { x with desc := none, first := false, reads := 0 })
  simp only [State.chNext]
  split
  · exact hdone.chEnd
  · split
    · exact hdone.setChState _
    · exact hdone.setPtr _

section
variable (hc : c < 64)
include hc

theorem dropDesc (h : ErrorKept c s u) : ErrorKept c s (u.dropDesc c) :=
  h.trans (of_belowMemory hc (BelowMemory.refl.dropDesc c))

/-- A channel stops, and Quill firmware learns of it (R156, R365). -/
theorem chStop_chFailed (h : ErrorKept c s u) : ErrorKept c s ((u.chStop c).chFailed c) :=
  (((h.dropDesc hc).setChState 3).setBlk 0).trans (of_belowMemory hc (BelowMemory.refl.chFailed c))

end
end ErrorKept

section
variable (s : State) {c : Nat} (cause addr : Nat)

theorem busErrLog_reads : (s.busErrLog c cause addr).bit (R.DMA_CH_STAT c) F.DMA_CH_STAT_BUS_ERR = true ∧
    (s.busErrLog c cause addr).fld (R.DMA_CH_STAT c) F.DMA_CH_STAT_CAUSE = cause % 8 := by
  unfold State.busErrLog State.bump State.chFlag
  rw [State.bit_setFld_ne _ _ (by simp), State.fld_setFld_ne _ _ _ _ _ _ (by simp)]
  refine ⟨State.bit_setBit _ _ _ _ (by decide) (by decide), ?_⟩
  unfold State.setBit
  rw [State.fld_setFld_beside _ _ _ _ _ (by decide) (by decide), State.fld_setFld _ _ _ _ (by decide)]
  rfl

theorem busErrLog_part : (s.busErrLog c cause addr).part = s.part := by
  simp [State.busErrLog, State.chFlag, State.bump]

theorem busErrLog_mode : (s.busErrLog c cause addr).mode = s.mode := by
  simp [State.busErrLog, State.chFlag, State.bump]

/-- On the SXV-3200 a bus error on the data of a descriptor marks it bad and the chain goes on, or the channel stops where
the mark cannot be written; the record of the error stays (R363 to R365). -/
theorem dataErr_errorKept (hc : c < 64) (hpart : s.part = .sxv3200) (d : Desc) (moved : Bool) :
    ErrorKept c (s.busErrLog c cause addr) (s.dataErr c cause addr d moved) := by
  have hpart := (busErrLog_part s (c := c) cause addr).trans hpart
  unfold State.dataErr
  generalize s.busErrLog c cause addr = v at hpart ⊢
  have hdrop : ErrorKept c v (if moved then v.dropDesc c else v) := by
    split
    · exact ErrorKept.refl.dropDesc hc
    · exact .refl
  have hmark {u : State} (hu : ErrorKept c v u) (ok : Bool) : ErrorKept c v
      (if ok then (u.bump (R.DMA_CH_CNT c) F.DMA_CH_CNT_BAD_CNT).chNext c d
        else ((u.chFlag c F.DMA_CH_STAT_FETCH_ERR).chStop c).chFailed c) := by
    split
    · exact (hu.setN (a := R.DMA_CH_CNT c) (by simp) _).chNext d
    · exact ErrorKept.chStop_chFailed hc (hu.setStat (by decide) (by decide) (by decide) _)
  dsimp -iota only
  rw [if_neg (by simp [hpart])]
  generalize (if moved then v.dropDesc c else v) = w at hdrop ⊢
  generalize w.chPtr c = ptr
  obtain ⟨sp, a⟩ := ptr
  dsimp only
  split
  · exact hmark ((hdrop.trans (.of_belowMemory hc ((BelowMemory.refl.hostWrite _ _).hostReqs _ _ _ _ _))).modChan _) true
  · exact hmark (hdrop.trans (.of_belowMemory hc (BelowMemory.refl.dramWrite _ _))) true
  · exact hmark (hdrop.trans (.of_belowMemory hc (BelowMemory.refl.busWrite _ _ _))) _

/-- A bus error on the data of the descriptor in hand is recorded with its cause (R363). -/
theorem dataErr_reads (hc : c < 64) (hpart : s.part = .sxv3200) (d : Desc) (moved : Bool) :
    (s.dataErr c cause addr d moved).bit (R.DMA_CH_STAT c) F.DMA_CH_STAT_BUS_ERR = true ∧
    (s.dataErr c cause addr d moved).fld (R.DMA_CH_STAT c) F.DMA_CH_STAT_CAUSE = cause % 8 ∧
    (s.dataErr c cause addr d moved).mode = s.mode := by
  obtain ⟨hmode, herr, hcause⟩ := dataErr_errorKept s cause addr hc hpart d moved
  obtain ⟨hset, hwas⟩ := busErrLog_reads s (c := c) cause addr
  exact ⟨herr.trans hset, hcause.trans hwas, hmode.trans (busErrLog_mode s cause addr)⟩

variable {s cause} {d : Desc}

theorem chBusErr_of_hostSource (hst : s.chState c = 1) (hdesc : (s.chanAt c).desc = some d) (hsp : d.srcSp = 0)
    (hsrc : d.srcP ≠ []) (hcause : cause = 1 ∨ cause = 2) : s.chBusErr c cause addr = s.dataErr c cause addr d true := by
  obtain rfl | rfl := hcause <;> simp [State.chBusErr, hst, hdesc, hsp, hsrc]

theorem chTimeout_of_source (hst : s.chState c = 1) (hdesc : (s.chanAt c).desc = some d) (hsrc : d.srcP ≠ []) :
    s.chTimeout c addr = s.dataErr c 3 addr d true := by
  simp [State.chTimeout, hst, hdesc, hsrc]

/-- DISABLE takes a channel that is not DISABLED to DRAIN, and its descriptor in hand is given up (R369). -/
theorem chDisable_of_enabled (hc : c < 64) (hst : s.chState c < 4) :
    (s.chDisable c).chState c = 4 ∧ (s.chDisable c).bit (R.DMA_CH_CTL c) F.DMA_CH_CTL_DISABLE = true ∧
    ((s.chDisable c).chanAt c).desc = none ∧ (s.chDisable c).mode = s.mode := by
  have hstill : (s.setBit (R.DMA_CH_CTL c) F.DMA_CH_CTL_DISABLE true).chState c = s.chState c :=
    chState_setFld_ne _ _ _ (by simp)
  have hdrop : BelowMemory (s.setBit (R.DMA_CH_CTL c) F.DMA_CH_CTL_DISABLE true)
      (((s.setBit (R.DMA_CH_CTL c) F.DMA_CH_CTL_DISABLE true).dropDesc c).fresh.2) :=
    (BelowMemory.refl.dropDesc c).fresh
  have hctl := bit_congr F.DMA_CH_CTL_DISABLE (hdrop.get (R.DMA_CH_CTL c) (by simp only [R.DMA_CH_CTL]; omega))
  unfold State.chDisable
  dsimp only
  rw [if_neg (by omega)]
  refine ⟨chState_setChState _ _, ?_, dropDesc_desc _ c, hdrop.mode⟩
  unfold State.setChState State.setPtr State.set64
  rw [State.bit_setFld_ne _ _ (by simp), bit_setN_ne _ _ _ (by simp), bit_setN_ne _ _ _ (by simp), hctl,
    State.bit_setBit _ _ _ _ (by decide) (by decide)]

end

/-! A copy within a DRAM whose cells are out of order. -/

/-- DMA_DESCRIPTOR_COMPLETE of a channel that the part has. -/
theorem exec_dmaDescriptorComplete (s : State) {c : Nat} (r : DmaReads) (hc : c < 64) :
    exec (.dmaDescriptorComplete c r) s = .next (s.seal (s.chComplete c r.data r.ecc)) := onUnit_of_lt hc

/-- A descriptor that copies 2 bytes of DRAM from address 0 to address 64, the last of its chain. -/
def copyDesc : Desc := { srcSp := 1, dstSp := 1, last := true, srcP := [(0, 2)], dstP := [(64, 2)] }

/-- Channel 0 holds that descriptor, and the cells of DRAM stand in falling order: byte 1 reads 0x22 and byte 0 reads 0x11. -/
def unorderedDram : State :=
  { State.reset.setChState 0 1 with dram := [(1, 0x22), (0, 0x11)], chans := [(0, { desc := some copyDesc })] }

/-- The copy stores 0 for byte 0: a run of bytes is read from cells in rising order, and passes over the cell of byte 0 behind
that of byte 1. -/
theorem unorderedDram_copied : cellGet byte0 (unorderedDram.chComplete 0 [] {}).dram 64 = 0 := by decide

end Sys2Proof.Machine

namespace Sys2Proof.Proofs
open Sys2Proof Sys2Proof.Machine

/-- Settles O27: the rows that start, drain, enable and clear have a `DmaOnly` effect; a bus error and a timeout are recorded in
DMA_CH_STAT, and marking the descriptor or stopping the channel leaves that record. -/
theorem dmaControlRows : Obligations.DmaControlRows := by
  unfold Obligations.DmaControlRows
  refine ⟨fun s c hc hghalt hidle => ?pulse, fun s m c hc hm hghalt hidle => ?start,
    fun s m c v hc hm hghalt hidle => ?doorbell,
    fun s c cause addr d hc hpart hst hdesc hsp hsrc hcause => ?busErr, fun s c addr d hc hpart hst hdesc hsrc => ?timeout,
    fun s m c hc hm hdis hst => ?disable, fun s c hc hst hdis => ?drainEnd, fun s m c hc hm hdis hst => ?enable,
    fun s m hm => ?ghaltClear⟩
  case pulse =>
    have honly := DmaOnly.refl.chStart (s := s) hc true
    refine honly.runs rfl hc ⟨?_, ?_, honly.frame⟩
    all_goals rw [chStart_of_idle hghalt hidle]
    · exact chBegin_chState _ _
    · exact chBegin_chPtr _ _
  case start =>
    have honly := DmaOnly.refl.chStart (s := s) hc false
    rw [← strobeReg_dmaStart s m hc hm] at honly
    refine honly.runs rfl hc ⟨?_, honly.frame⟩
    rw [strobeReg_dmaStart s m hc hm, chStart_of_idle hghalt hidle]
    exact chBegin_chState _ _
  case doorbell =>
    have honly := DmaOnly.refl.chRing (s := s) hc v
    rw [← writeReg_dmaLimit s m v hc hm] at honly
    refine honly.runs rfl hc ⟨?_, ?_, ?_, ?_, honly.frame⟩
    all_goals rw [writeReg_dmaLimit s m v hc hm, chRing_of_idle _ hghalt hidle]
    · exact chBegin_chState _ _
    · rw [chBegin_chPtr, get64_start_copied]
    · rw [chBegin_limited, doorbellLimit_isSome]
    · rw [chBegin_limit, doorbellLimit_getD]
  case busErr =>
    have hreads := dataErr_reads s cause addr hc hpart d true
    rw [← chBusErr_of_hostSource addr hst hdesc hsp hsrc hcause, Nat.mod_eq_of_lt (by omega)] at hreads
    exact .of_onUnit rfl hc hreads
  case timeout =>
    have hreads := dataErr_reads s 3 addr hc hpart d true
    rw [← chTimeout_of_source addr hst hdesc hsrc] at hreads
    exact .of_onUnit rfl hc hreads
  case disable =>
    refine .of_onUnit rfl hc ?_
    rw [writeReg_dmaCtl s m _ hc hm, dmaCtlWrite_disable s hdis]
    exact chDisable_of_enabled hc hst
  case drainEnd =>
    have honly := DmaOnly.refl.chDrained (s := s) hc
    obtain ⟨hdisabled, hblk⟩ := chDrained_of_disable hst hdis
    exact honly.runs rfl hc ⟨hdisabled, hblk, honly.frame⟩
  case enable =>
    have honly := DmaOnly.refl.chEnable (s := s) hc
    obtain ⟨hidle, hclear⟩ := chEnable_of_disabled hst
    refine .of_onUnit rfl hc ?_
    rw [writeReg_dmaCtl s m 0 hc hm, dmaCtlWrite_zero, if_pos hdis, honly.seal_eq]
    exact ⟨hidle, hclear, honly.frame⟩
  case ghaltClear =>
    refine ⟨_, rfl, ?_⟩
    rw [writeReg_dmaGstat s m _ hm]
    exact ⟨plain_dmaGstat_ghalt, rfl, rfl, rfl, rfl, rfl, rfl, rfl⟩

/-- Refutes O28: its second clause does not ask that DRAM be in its canonical form. With the cells of DRAM in falling order, the
engine's read of a run of bytes, which takes the cells to rise, brings 0 for a byte that reads 0x11 by itself. -/
theorem not_dmaDescriptorRows : ¬ Obligations.DmaDescriptorRows := by
  unfold Obligations.DmaDescriptorRows
  rintro ⟨-, hcopy, -⟩
  obtain ⟨t, hrun, hbytes, -⟩ := hcopy unorderedDram 0 2 0 64 copyDesc (by decide) rfl rfl rfl rfl rfl rfl rfl rfl rfl rfl rfl
    rfl rfl
  have hbyte := hbytes 0 (by decide)
  rw [exec_dmaDescriptorComplete _ _ (by decide)] at hrun
  rw [← Host.Outcome.next.inj hrun, State.seal_dram, unorderedDram_copied] at hbyte
  exact absurd hbyte (by decide)

/-- Settles O58: each of the rows answers an effect that is `DmaOnly`. -/
theorem dmaFrame : Obligations.DmaFrame := by
  unfold Obligations.DmaFrame
  intro i s t c hi ht
  have honly : DmaOnly c s t := by
    obtain rfl | rfl | ⟨v, rfl⟩ | rfl | rfl | rfl := hi
    · exact .of_onUnit (fun hc => DmaOnly.refl.chStart hc _) ht
    · exact .of_onUnit (u := s.strobeReg .quill (R.DMA_CH_CTL c) F.DMA_CH_CTL_START)
        (fun hc => strobeReg_dmaStart s .quill hc rfl ▸ DmaOnly.refl.chStart hc _) ht
    · exact .of_onUnit (fun hc => writeReg_dmaLimit s .quill v hc rfl ▸ DmaOnly.refl.chRing hc v) ht
    · refine .of_onUnit (fun hc => ?_) ht
      rw [writeReg_dmaCtl s .quill 0 hc rfl, dmaCtlWrite_zero]
      split
      · exact DmaOnly.refl.chEnable hc
      · exact .refl
    · have hclear : DmaOnly c s (s.writeReg .quill R.DMA_GSTAT (2 ^ F.DMA_GSTAT_GHALT.lo) true) :=
        writeReg_dmaGstat s .quill _ rfl ▸ DmaOnly.refl.set (by decide) _
      exact answer_eq_next ht ▸ hclear.seal_eq.symm ▸ hclear
    · exact .of_onUnit (fun hc => DmaOnly.refl.chDrained hc) ht
  obtain ⟨⟨_, _, rfl⟩, hchans, hget⟩ := honly
  exact ⟨hchans, rfl, rfl, rfl, rfl, rfl, rfl, rfl, rfl, rfl, rfl, hget⟩

end Sys2Proof.Proofs
end

section
/-! PROOFS. On-chip memory: a write through the bit-set window of a bank whose cells are out of order. -/
namespace Sys2Proof.Machine

theorem exec_aliasBitSet (s : State) (m a k data : Nat) :
    exec (.aliasBitSet m a k data) s = .next (s.seal (s.aliasWrite true m a k data)) := rfl

/-- The banks as reset leaves them, but that the cells of Bank Q stand in falling order: byte 1 reads 0x22 and byte 0 reads 0x11. -/
def unorderedBankQ : State := { State.reset with chip := [(1, 0x22), (0, 0x11)] }

/-- A write of 0 through the bit-set window clears byte 0: the word beneath is read as a run of bytes from cells in rising order,
which passes over the cell of byte 0 behind that of byte 1. -/
theorem unorderedBankQ_aliased : cellGet byte0 (unorderedBankQ.aliasWrite true 0 0 4 0).chip 0 = 0 := by decide

end Sys2Proof.Machine

namespace Sys2Proof.Proofs
open Sys2Proof Sys2Proof.Machine

/-- Refutes O29: its first clause does not ask that on-chip memory be in its canonical form. With the cells of Bank Q in falling
order, a write of 0 through the bit-set window clears a byte that reads 0x11 by itself. -/
theorem not_memoryAccessRows : ¬ Obligations.MemoryAccessRows := by
  unfold Obligations.MemoryAccessRows
  rintro ⟨hset, -⟩
  obtain ⟨t, hrun, hbytes, -⟩ := hset unorderedBankQ 0 4 0 (by decide) (by decide) (.inl rfl)
  have hbyte := hbytes 0 (by decide)
  rw [exec_aliasBitSet] at hrun
  rw [← Host.Outcome.next.inj hrun, State.seal_chip, unorderedBankQ_aliased] at hbyte
  exact absurd hbyte (by decide)

end Sys2Proof.Proofs
end

section
/-! PROOFS. The upkeep of on-chip memory and DRAM: retention, Bank L, scrubbing and BIST. -/
namespace Sys2Proof.Machine

/-! Writes of the registers of the memory block. -/

section
variable (s : State) (m : Master) (v : Nat)

/-- A write of a register of blocks 11 to 16 that its master may make. -/
theorem writeReg_high {off i j : Nat} {r : RegSpec} (hoff : 11 ≤ off / 0x100000) (hreg : s.regOf off = some (r, i, j))
    (hm : s.mayWrite m off = true) : s.writeReg m off v true = s.applyHigh r off i j v := by
  have hvalue : s.quillValue m off v = v := if_neg (by simp only [R.SYS_ADMIT_STOP]; omega)
  have hnone : (List.range 8).find? (fun p => off = R.SCR_PLANE_STAT p) = none := by
    simp only [List.find?_eq_none, List.mem_range, decide_eq_true_eq, R.SCR_PLANE_STAT]
    omega
  have hfirst : s.quillFirst m off v = s := by simp only [State.quillFirst, hnone, ite_self]
  have hlow : ¬ off / 0x100000 ≤ 5 := by omega
  have hmid : ¬ off / 0x100000 ≤ 10 := by omega
  simp only [State.writeReg, hm, hvalue, hfirst, State.applyWrite, hreg, hlow, hmid, Bool.not_true, Bool.false_eq_true,
    if_false]

theorem writeReg_memRet (hm : s.mayWrite m R.MEM_RET = true) : s.writeReg m R.MEM_RET v true = s.memRet (v % 32) :=
  writeReg_high s m v (r := regMapMEM0[1]) (by decide) rfl hm

/-- MEM_BIST_CTL in the register map (R410). -/
def bistCtlSpec : RegSpec := regMapMEM0[4]

theorem writeReg_bistCtl (hm : s.mayWrite m R.MEM_BIST_CTL = true) :
    s.writeReg m R.MEM_BIST_CTL v true = s.bistCtlWrite bistCtlSpec v :=
  writeReg_high s m v (by decide) (rfl : s.regOf R.MEM_BIST_CTL = some (bistCtlSpec, 0, 0)) hm

end

/-! What a command of the upkeep leaves as it is. -/

/-- From `s` to `t` nothing has changed but registers, the BIST run and the banks that wake. -/
def CareOnly (s t : State) : Prop :=
  ∃ regs bist bistTick bankWake, t = { s with regs := regs, bist := bist, bistTick := bistTick, bankWake := bankWake }

namespace CareOnly

variable {s u : State}

/-- The mode, the memories, the clock and the trace are as before. -/
theorem frame (h : CareOnly s u) : Frame s u := by
  obtain ⟨_, _, _, _, rfl⟩ := h
  exact ⟨rfl, rfl, rfl, rfl, rfl, rfl, rfl⟩

/-- No command reaches what the seal keeps from one. -/
theorem seal_eq (h : CareOnly s u) : s.seal u = u := by
  obtain ⟨_, _, _, _, rfl⟩ := h
  rfl

/-- A command whose effect, written `w` in its arm, is `u` runs, and what holds of `u` holds of its next state. The arm may have
moved the clock to that of `s` first. -/
theorem runs {i : Instr} {v w : State} {P : State → Prop} (h : CareOnly s u) (hi : exec i v = s.answer w) (hw : w = u)
    (hP : P u) : Runs i v P :=
  ⟨u, by rw [hi, hw, State.answer, h.seal_eq], hP⟩

end CareOnly

/-! Words of MEM_RET (R396 to R398, R407). -/

/-- A field within the low `n` bits of a word. -/
theorem bits_mod_two_pow (v n lo w : Nat) (h : lo + w ≤ n) : bits (v % 2 ^ n) lo w = bits v lo w := by
  apply Nat.eq_of_testBit_eq
  intro j
  rw [testBit_bits, testBit_bits, Nat.testBit_mod_two_pow]
  by_cases hj : j < w
  · simp [hj, show j + lo < n by omega]
  · simp [hj]

/-- A field within the field that setBits writes. -/
theorem bits_setBits_within (v lo w x k n : Nat) (h : k + n ≤ w) : bits (setBits v lo w x) (lo + k) n = bits x k n := by
  apply Nat.eq_of_testBit_eq
  intro j
  rw [testBit_bits, testBit_bits, testBit_setBits]
  by_cases hj : j < n
  · have hlow : ¬ j + (lo + k) < lo := by omega
    have hin : j + (lo + k) < lo + w := by omega
    have hbit : j + (lo + k) - lo = j + k := by omega
    simp [hj, hlow, hin, hbit]
  · simp [hj]

/-- The bits of MEM_RET that a write of `v` over `old` sets. -/
def retSet (old v : Nat) : List Nat := (List.range 5).filter (fun j => bits v j 1 = 1 ∧ bits old j 1 = 0)

/-- The retention bits that a write of `v` over `old` clears. -/
def retCleared (old v : Nat) : List Nat := (List.range 4).filter (fun j => bits v j 1 = 0 ∧ bits old j 1 = 1)

/-- A write of `v` over `old` clears L_OFF. -/
abbrev LOffFalls (old v : Nat) : Prop := bits v 4 1 = 0 ∧ bits old 4 1 = 1

/-- The word that RETENTION_ENTER writes sets its bit alone. -/
theorem enterWord : ∀ old < 32, ∀ j < 4, bits old j 1 = 0 → retSet old ((old ||| 2 ^ j % 16) % 32) = [j] ∧
    retCleared old ((old ||| 2 ^ j % 16) % 32) = [] ∧ ¬ LOffFalls old ((old ||| 2 ^ j % 16) % 32) ∧
    bits ((old ||| 2 ^ j % 16) % 32) j 1 = 1 := by decide

/-- The word that RETENTION_WAKE writes clears its bit alone. -/
theorem wakeWord : ∀ old < 32, ∀ j < 4, bits old j 1 = 1 → retSet old ((old - (old &&& 2 ^ j % 16)) % 32) = [] ∧
    retCleared old ((old - (old &&& 2 ^ j % 16)) % 32) = [j] ∧ ¬ LOffFalls old ((old - (old &&& 2 ^ j % 16)) % 32) ∧
    bits ((old - (old &&& 2 ^ j % 16)) % 32) j 1 = 0 := by decide

/-- The word that L_OFF_SET writes sets L_OFF alone. -/
theorem lOffSetWord : ∀ old < 32, bits old 4 1 = 0 → retSet old ((old % 16 + 16) % 32) = [4] ∧
    retCleared old ((old % 16 + 16) % 32) = [] ∧ ¬ LOffFalls old ((old % 16 + 16) % 32) ∧
    bits ((old % 16 + 16) % 32) 4 1 = 1 := by decide

/-- The word that L_OFF_CLEAR writes clears L_OFF alone. -/
theorem lOffClearWord : ∀ old < 32, bits old 4 1 = 1 → retSet old (old % 16 % 32) = [] ∧
    retCleared old (old % 16 % 32) = [] ∧ LOffFalls old (old % 16 % 32) := by decide

/-! Retention and Bank L (R396 to R398). -/

section
variable (s : State) {j : Nat}

/-- Part `j` out of access (R396, R398): AWAKE reads 0 and no wake runs. -/
def State.partAsleep (s : State) (j : Nat) : State :=
  { s.setBit R.MEM_RET ⟨16 + j, 1⟩ false with bankWake := s.bankWake.filter (·.1 ≠ j) }

/-- The wake of part `j` runs (R397). -/
def State.partWaking (s : State) (j : Nat) : State := { s with bankWake := (j, s.now + 40000) :: s.bankWake }

/-- The contents of Bank L and the lines staged in it are lost (R398). -/
def State.bankLLost (s : State) : State :=
  { s.setBit R.MEM_STAT F.MEM_STAT_L_INIT false with
    chip := s.chip.filter (fun c => c.1 < bankL ∨ bankL + 0x400000 ≤ c.1)
    rows := cellMap (fun _ => {}) s.rows (fun r => { r with staged := [], cursor := min r.cursor r.undecided }) }

/-- What a write of MEM_RET does, by the bits that it sets and clears. -/
theorem memRet_eq (v : Nat) : s.memRet v =
    let t := ((s.setFld R.MEM_RET ⟨0, 5⟩ v).forEach (retSet (s.getN R.MEM_RET % 32) v) State.partAsleep).forEach
      (retCleared (s.getN R.MEM_RET % 32) v) State.partWaking
    let u := if (retSet (s.getN R.MEM_RET % 32) v).contains 4 then t.bankLLost else t
    if LOffFalls (s.getN R.MEM_RET % 32) v then u.setBit R.MEM_STAT F.MEM_STAT_L_INIT true else u := rfl

theorem bits_ret (hj : j < 5) : bits (s.getN R.MEM_RET % 32) j 1 = bits (s.getN R.MEM_RET) j 1 :=
  bits_mod_two_pow _ 5 j 1 (by omega)

/-- A bit of MEM_RET as the word written has it. -/
theorem retStored_fld (v : Nat) (hj : j < 5) : (s.setFld R.MEM_RET ⟨0, 5⟩ v).fld R.MEM_RET ⟨j, 1⟩ = bits v j 1 := by
  have hwithin := bits_setBits_within (s.getN R.MEM_RET) 0 5 v j 1 (by omega)
  rw [Nat.zero_add] at hwithin
  unfold State.fld State.setFld
  rw [State.getN_setN, Nat.mod_eq_of_lt (setBits_lt _ _ _ _ (s.getN_lt _) (by decide)), hwithin]

theorem partAsleep_awake (hj : j < 5) : (s.partAsleep j).bit R.MEM_RET ⟨16 + j, 1⟩ = false :=
  State.bit_setBit _ _ _ _ (by simp only []; omega) Nat.one_pos

theorem partAsleep_fld (hj : j < 5) {k : Nat} (hk : k < 5) : (s.partAsleep j).fld R.MEM_RET ⟨k, 1⟩ = s.fld R.MEM_RET ⟨k, 1⟩ :=
  State.fld_setFld_beside _ _ _ _ _ (by simp only []; omega) (.inr (by simp only []; omega))

/-- L_INIT written leaves the fields of MEM_RET. -/
theorem lInit_fld (b : Bool) (f : Fld) : (s.setBit R.MEM_STAT F.MEM_STAT_L_INIT b).fld R.MEM_RET f = s.fld R.MEM_RET f :=
  State.fld_setFld_ne _ _ _ _ _ _ (by decide)

theorem bankLLost_fld (f : Fld) : s.bankLLost.fld R.MEM_RET f = s.fld R.MEM_RET f := lInit_fld s false f

theorem bankLLost_bit (f : Fld) : s.bankLLost.bit R.MEM_RET f = s.bit R.MEM_RET f := by
  rw [State.bit, bankLLost_fld, State.bit]

/-- Every byte of Bank L reads 0 once its contents are lost. -/
theorem bankLLost_inside {a : Nat} (hlo : bankL ≤ a) (hhi : a < bankL + 0x400000) :
    cellGet byte0 s.bankLLost.chip a = 0 := by
  refine cellGet_of_not_mem byte0 _ a (fun c hc => ?_)
  simp only [State.bankLLost, List.mem_filter, decide_eq_true_eq] at hc
  omega

/-- The other banks keep their contents. -/
theorem bankLLost_outside {a : Nat} (h : a < bankL ∨ bankL + 0x400000 ≤ a) :
    cellGet byte0 s.bankLLost.chip a = cellGet byte0 s.chip a :=
  cellGet_filter byte0 _ s.chip a (fun c _ hc => by simpa [hc] using h)

variable {s}

/-- RETENTION_ENTER puts its part out of access (R396). -/
theorem memRet_enter (hj : j < 4) (hret : bits (s.getN R.MEM_RET) j 1 = 0) : ∃ u,
    s.memRet ((s.getN R.MEM_RET % 32 ||| 2 ^ j % 16) % 32) = u ∧ CareOnly s u ∧ bits (u.getN R.MEM_RET) j 1 = 1 ∧
    u.bit R.MEM_RET ⟨16 + j, 1⟩ = false := by
  obtain ⟨hset, hclear, hL, hbit⟩ := enterWord _ (Nat.mod_lt _ (by decide)) j hj ((bits_ret s (by omega)).trans hret)
  refine ⟨(s.setFld R.MEM_RET ⟨0, 5⟩ ((s.getN R.MEM_RET % 32 ||| 2 ^ j % 16) % 32)).partAsleep j, ?_, ⟨_, _, _, _, rfl⟩,
    (partAsleep_fld _ (by omega) (by omega)).trans ((retStored_fld s _ (by omega)).trans hbit), partAsleep_awake _ (by omega)⟩
  rw [memRet_eq, hset, hclear]
  simp [State.forEach, hL, show 4 ≠ j by omega]

/-- RETENTION_WAKE starts the wake of its part (R397). -/
theorem memRet_wake (hj : j < 4) (hret : bits (s.getN R.MEM_RET) j 1 = 1) : ∃ u,
    s.memRet ((s.getN R.MEM_RET % 32 - (s.getN R.MEM_RET % 32 &&& 2 ^ j % 16)) % 32) = u ∧ CareOnly s u ∧
    bits (u.getN R.MEM_RET) j 1 = 0 ∧ (j, s.now + 40000) ∈ u.bankWake := by
  obtain ⟨hset, hclear, hL, hbit⟩ := wakeWord _ (Nat.mod_lt _ (by decide)) j hj ((bits_ret s (by omega)).trans hret)
  refine ⟨(s.setFld R.MEM_RET ⟨0, 5⟩ ((s.getN R.MEM_RET % 32 - (s.getN R.MEM_RET % 32 &&& 2 ^ j % 16)) % 32)).partWaking j,
    ?_, ⟨_, _, _, _, rfl⟩, (retStored_fld s _ (by omega)).trans hbit, by simp [State.partWaking]⟩
  rw [memRet_eq, hset, hclear]
  simp [State.forEach, hL]

/-- L_OFF_SET puts Bank L out of access, and its contents are lost (R398). -/
theorem memRet_lOffSet (hoff : bits (s.getN R.MEM_RET) 4 1 = 0) : ∃ u,
    s.memRet ((s.getN R.MEM_RET % 16 + 16) % 32) = u ∧ bits (u.getN R.MEM_RET) 4 1 = 1 ∧ u.bit R.MEM_RET ⟨20, 1⟩ = false ∧
    (∀ a, bankL ≤ a → a < bankL + 0x400000 → cellGet byte0 u.chip a = 0) ∧
    (∀ a, (a < bankL ∨ bankL + 0x400000 ≤ a) → cellGet byte0 u.chip a = cellGet byte0 s.chip a) ∧ u.dram = s.dram := by
  obtain ⟨hset, hclear, hL, hbit⟩ := lOffSetWord _ (Nat.mod_lt _ (by decide)) ((bits_ret s (by omega)).trans hoff)
  rw [Nat.mod_mod_of_dvd (s.getN R.MEM_RET) (by decide : 16 ∣ 32)] at hset hclear hL hbit
  refine ⟨((s.setFld R.MEM_RET ⟨0, 5⟩ ((s.getN R.MEM_RET % 16 + 16) % 32)).partAsleep 4).bankLLost, ?_,
    (bankLLost_fld _ ⟨4, 1⟩).trans ((partAsleep_fld _ (by omega) (by omega)).trans ((retStored_fld s _ (by omega)).trans hbit)),
    (bankLLost_bit _ _).trans (partAsleep_awake _ (by omega)), fun a => bankLLost_inside _, fun a => bankLLost_outside _, rfl⟩
  rw [memRet_eq, hset, hclear]
  simp [State.forEach, hL]

/-- L_OFF_CLEAR starts the initialisation of Bank L (R398). -/
theorem memRet_lOffClear (hoff : bits (s.getN R.MEM_RET) 4 1 = 1) : ∃ u, s.memRet (s.getN R.MEM_RET % 16 % 32) = u ∧
    CareOnly s u ∧ bits (u.getN R.MEM_RET) 4 1 = 0 ∧ u.bit R.MEM_STAT F.MEM_STAT_L_INIT = true := by
  obtain ⟨hset, hclear, hL⟩ := lOffClearWord _ (Nat.mod_lt _ (by decide)) ((bits_ret s (by omega)).trans hoff)
  rw [Nat.mod_mod_of_dvd (s.getN R.MEM_RET) (by decide : 16 ∣ 32)] at hset hclear hL
  refine ⟨(s.setFld R.MEM_RET ⟨0, 5⟩ (s.getN R.MEM_RET % 16 % 32)).setBit R.MEM_STAT F.MEM_STAT_L_INIT true, ?_,
    ⟨_, _, _, _, rfl⟩, (lInit_fld (s.setFld R.MEM_RET ⟨0, 5⟩ _) true ⟨4, 1⟩).trans ((retStored_fld s _ (by omega)).trans hL.1),
    State.bit_setBit _ _ _ _ (by decide) (by decide)⟩
  rw [memRet_eq, hset, hclear]
  simp [State.forEach, hL]

/-- A part that is not in retention becomes accessible; the end of its wake may move the clock (R397, R407). -/
theorem bankAwake_of_ret (hj : j < 4) (hret : bits (s.getN R.MEM_RET) j 1 = 0) : ∃ dt,
    s.bankAwake j = { ({ s with dt := dt } : State).setBit R.MEM_RET ⟨16 + j, 1⟩ true with
      bankWake := s.bankWake.filter (·.1 ≠ j) } := by
  have hrun : ¬(4 ≤ j ∨ bits (s.getN R.MEM_RET) j 1 = 1) := by omega
  rw [State.bankAwake, if_neg hrun]
  cases s.bankWake.find? (·.1 = j) with
  | none => exact ⟨s.dt, rfl⟩
  | some x => exact ⟨_, rfl⟩

/-- Bank L with L_OFF at 0 becomes accessible (R398). -/
theorem lInitDone_of_on (hoff : bits (s.getN R.MEM_RET) 4 1 = 0) : ∃ u, s.lInitDone = u ∧ CareOnly s u ∧
    u.bit R.MEM_RET ⟨20, 1⟩ = true ∧ u.bit R.MEM_STAT F.MEM_STAT_L_INIT = false :=
  ⟨(s.setBit R.MEM_STAT F.MEM_STAT_L_INIT false).setBit R.MEM_RET ⟨20, 1⟩ true, if_neg (by omega), ⟨_, _, _, _, rfl⟩,
    State.bit_setBit _ _ _ _ (by decide) (by decide),
    (State.bit_setBit_ne _ _ _ _ _ _ (by decide)).trans (State.bit_setBit _ _ _ _ (by decide) (by decide))⟩

end

/-! ECC errors and scrubbing (R393 to R395, R400, R401). -/

namespace PlanesKept

variable {s u t : State}

theorem trans (h : PlanesKept s u) (h' : PlanesKept u t) : PlanesKept s t :=
  ⟨h'.mode.trans h.mode, h'.chip.trans h.chip, h'.dram.trans h.dram, h'.planes.trans h.planes⟩

theorem eccCorr (h : PlanesKept s u) (b k : Nat) : PlanesKept s (u.eccCorr b k) := by
  induction k generalizing u with
  | zero => exact h
  | succ k ih =>
    have hraise : PlanesKept s (u.raiseCount 0x5001 b (40 + b)) := { h with }
    exact ih ((hraise.setBit R.MEM_STAT _ _).setN (R.MEM_ECC_CNT b) _)

end PlanesKept

section
variable {s : State} {b : Nat}

/-- Corrected errors set ECC_CORR of MEM_STAT (R393). -/
theorem eccCorr_corr {k : Nat} (h : s.bit R.MEM_STAT F.MEM_STAT_ECC_CORR = true ∨ 0 < k) :
    (s.eccCorr b k).bit R.MEM_STAT F.MEM_STAT_ECC_CORR = true := by
  induction k generalizing s with
  | zero => exact h.resolve_right (Nat.lt_irrefl 0)
  | succ k ih =>
    have hcnt : R.MEM_ECC_CNT b ≠ R.MEM_STAT := by simp only [R.MEM_ECC_CNT, R.MEM_STAT]; omega
    exact ih (.inl ((State.bit_setFld_ne _ _ hcnt).trans (State.bit_setBit _ _ _ _ (by decide) (by decide))))

/-- An uncorrectable word of DRAM is entered and flagged, with its address (R395). -/
theorem eccUncorr_dram (s : State) (a : Nat) : ∃ u, PlanesKept s u ∧ s.eccUncorr 6 a =
    { (u.setN (R.MEM_ECC_ADDR 6) a).setBit R.MEM_STAT F.MEM_STAT_ECC_UNCORR true with
      dramBad := a :: u.dramBad.filter (· ≠ a) } :=
  ⟨(s.raiseCount 0x5002 6 53).bump (R.MEM_ECC_CNT 6) F.MEM_ECC_CNT_UNCORR, ⟨rfl, rfl, rfl, rfl⟩, by
    simp [State.eccUncorr, State.wordBad]⟩

/-- A window of a scrub moves its position on and then counts the words it corrects; an uncorrectable word comes last
(R400, R401). -/
theorem scrubWindow_eq (s : State) (b at_ words wins period corr : Nat) : ∃ u, PlanesKept s u ∧
    s.scrubWindow b at_ words wins period corr none = u.eccCorr b (min corr words) ∧
    ∀ w, s.scrubWindow b at_ words wins period corr (some w) = (u.eccCorr b (min corr words)).eccUncorr b (at_ + w % words) := by
  refine ⟨_, ?_, rfl, fun _ => rfl⟩
  have hpass : PlanesKept s (if (s.scrubAt b).win = 0 then
      s.advTo (((s.scrubAt b).began.map (· + period)).getD 0) else s) := by
    split
    · exact ⟨rfl, rfl, rfl, rfl⟩
    · exact .refl
  exact { hpass with }

/-- Every bank has a window to scrub. -/
theorem bankSpan_windows : ∀ b < 6, (bankSpan b).2 / 4096 ≠ 0 := by decide

/-- The scrub of a bank that is accessible to its end counts the words it corrects (R400). -/
theorem sramScrub_of_awake (n : Nat) (hb : b < 6) (hen : s.bit R.MEM_SCRUB_CFG F.MEM_SCRUB_CFG_EN = true)
    (hawake : s.awake b ((bankSpan b).1 + (bankSpan b).2 - 1) = true) :
    ∃ u, PlanesKept s u ∧ s.sramScrub b n none = u.eccCorr b (min n 512) := by
  have hwins : s.scrubWins b = (bankSpan b).2 / 4096 := if_pos hawake
  have hrun : ¬((!s.bit R.MEM_SCRUB_CFG F.MEM_SCRUB_CFG_EN) = true ∨ 6 ≤ b ∨ s.scrubWins b = 0) := by
    simp [hen, hb, hwins, bankSpan_windows b hb]
  have hrestart : PlanesKept s (if s.scrubWins b ≤ (s.scrubAt b).win then
      { s with scrub := cellPut (fun _ => {}) s.scrub b [{ s.scrubAt b with win := 0 }] } else s) := by
    split
    · exact ⟨rfl, rfl, rfl, rfl⟩
    · exact .refl
  simp only [State.sramScrub, if_neg hrun]
  generalize (if s.scrubWins b ≤ (s.scrubAt b).win then _ else s) = v at hrestart ⊢
  obtain ⟨u, hkept, hnone, -⟩ := scrubWindow_eq v b ((v.scrubAt b).win * 512) 512 (s.scrubWins b)
    (max 1 (v.fld R.MEM_SCRUB_CFG F.MEM_SCRUB_CFG_SRAM_PERIOD) * 2000000000) n
  exact ⟨u, hrestart.trans hkept, hnone⟩

/-- The scrub of DRAM meets an uncorrectable word, counted from the position it has reached (R395, R401). -/
theorem dramScrub_of_on (n w : Nat) (hen : s.bit R.MEM_DRAM_SCRUB F.MEM_DRAM_SCRUB_EN = true) (hsr : s.dramSr = false) :
    ∃ u, PlanesKept s u ∧ s.dramScrub n (some w) = u.eccUncorr 6 ((s.scrubAt 6).win * 512 + w % 512) := by
  obtain ⟨u, hkept, -, hsome⟩ := scrubWindow_eq s 6 ((s.scrubAt 6).win * 512) 512 (s.dramSize / 4096)
    (max 1 (s.fld R.MEM_DRAM_SCRUB F.MEM_DRAM_SCRUB_DRAM_PERIOD) * 7200000000000) n
  refine ⟨_, hkept.eccCorr 6 (min n 512), ?_⟩
  rw [← hsome, State.dramScrub, hen, hsr]
  rfl

end

/-! BIST (R402 to R404, R410). -/

section
variable {s : State}

/-- A run with Bank B selected begins there, the first bank of the order (R403, R410). -/
theorem bistGo_of_bankB (hbusy : s.bit R.MEM_BIST_STAT F.MEM_BIST_STAT_BUSY = false)
    (hsel : bits (s.fld R.MEM_BIST_CTL F.MEM_BIST_CTL_BANKS) 5 1 = 1) :
    s.bistGo = { s.setBit R.MEM_BIST_STAT F.MEM_BIST_STAT_BUSY true with bist := some (0, 0) } := by
  have hctl : (s.setBit R.MEM_BIST_STAT F.MEM_BIST_STAT_BUSY true).fld R.MEM_BIST_CTL F.MEM_BIST_CTL_BANKS =
      s.fld R.MEM_BIST_CTL F.MEM_BIST_CTL_BANKS := State.fld_setFld_ne _ _ _ _ _ _ (by decide)
  have hnext : bistNext (s.fld R.MEM_BIST_CTL F.MEM_BIST_CTL_BANKS) 6 0 = some 0 := if_pos hsel
  simp [State.bistGo, hbusy, State.bistFrom, hctl, hnext]

theorem plain_bistCtl_stat (s : State) (v : Nat) (f : Fld) :
    (s.plain bistCtlSpec R.MEM_BIST_CTL v).bit R.MEM_BIST_STAT f = s.bit R.MEM_BIST_STAT f :=
  bit_congr f (State.get_set_ne s _ _ _ (by decide))

/-- A write of GO with Bank B among the banks it selects starts a run there (R410). -/
theorem bistCtlWrite_go {sel : Nat} (hbusy : s.bit R.MEM_BIST_STAT F.MEM_BIST_STAT_BUSY = false) (hsel : sel < 64)
    (hB : sel / 32 % 2 = 1) : ∃ u, s.bistCtlWrite bistCtlSpec (sel + 2 ^ F.MEM_BIST_CTL_GO.lo) = u ∧ CareOnly s u ∧
    u.bist = some (0, 0) ∧ u.bit R.MEM_BIST_STAT F.MEM_BIST_STAT_BUSY = true := by
  have hgo : bits (sel + 2 ^ 8) 8 1 = 1 := by simp only [bits]; omega
  have habort : bits (sel + 2 ^ 8) 9 1 ≠ 1 := by simp only [bits]; omega
  have hbanks : bits (bits (sel + 2 ^ 8) 0 6) 5 1 = 1 := by simp only [bits]; omega
  have hstored := plain_fld s bistCtlSpec R.MEM_BIST_CTL (sel + 2 ^ 8) F.MEM_BIST_CTL_BANKS (by decide) (by decide)
  have hwrite : s.bistCtlWrite bistCtlSpec (sel + 2 ^ 8) = (s.plain bistCtlSpec R.MEM_BIST_CTL (sel + 2 ^ 8)).bistGo :=
    (if_neg habort).trans (if_pos hgo)
  have hstart := bistGo_of_bankB ((plain_bistCtl_stat s _ _).trans hbusy) (hstored ▸ hbanks)
  exact ⟨_, hwrite.trans hstart, ⟨_, _, _, _, rfl⟩, rfl, State.bit_setBit _ _ _ _ (by decide) (by decide)⟩

/-- A write of ABORT ends the run (R410). -/
theorem strobeReg_bistAbort (m : Master) (hm : s.mayWrite m R.MEM_BIST_CTL = true) : ∃ u,
    s.strobeReg m R.MEM_BIST_CTL F.MEM_BIST_CTL_ABORT = u ∧ CareOnly s u ∧ u.bist = none ∧
    u.bit R.MEM_BIST_STAT F.MEM_BIST_STAT_BUSY = false := by
  rw [State.strobeReg, writeReg_bistCtl s m _ hm]
  exact ⟨_, if_pos (bits_setBits _ 9 1 1), ⟨_, _, _, _, rfl⟩, rfl, State.bit_setBit _ _ _ _ (by decide) (by decide)⟩

theorem bistOrder_lt (i : Nat) : bistOrder.getD i 0 < 6 := by
  obtain hi | hi := Nat.lt_or_ge i 6
  · exact (by decide : ∀ i < 6, bistOrder.getD i 0 < 6) i hi
  · rw [List.getD_eq_getElem?_getD, List.getElem?_eq_none (show bistOrder.length ≤ i from hi)]
    decide

/-- A window tested with a word that fails marks the bank, and the run moves on within it (R402). -/
theorem bistWindow_of_fail {i w : Nat} (hrun : s.bist = some (i, w)) (hmay : s.bistMay (bistOrder.getD i 0) = true)
    (hmore : w + 1 < bistWindows (bistOrder.getD i 0)) : ∃ u, s.bistWindow true false = u ∧ CareOnly s u ∧
    u.bist = some (i, w + 1) ∧ u.bit R.MEM_BIST_STAT ⟨bistOrder.getD i 0, 1⟩ = true := by
  have hbank := bistOrder_lt i
  simp only [State.bistWindow, hrun, hmay, hmore, Bool.not_true, Bool.false_eq_true, if_false, if_true]
  split
  all_goals exact ⟨_, rfl, ⟨_, _, _, _, rfl⟩, rfl, State.bit_setBit _ _ _ _ (by simp only []; omega) Nat.one_pos⟩

end
end Sys2Proof.Machine

namespace Sys2Proof.Proofs
open Sys2Proof Sys2Proof.Machine

/-- Settles O30: the scrubs count and enter the errors they meet; every other row but L_OFF_SET and BANK_AWAKE has an effect that
is `CareOnly`, and the rows of MEM_RET write words that set or clear one bit of it. -/
theorem memoryCareRows : Obligations.MemoryCareRows := by
  unfold Obligations.MemoryCareRows
  refine ⟨fun s b n hb hen hawake hn => ?sramScrub, fun s n w a hen hsr ha => ?dramScrub,
    fun s m sel hm hbusy hsel hB => ?bistGo, fun s i w t0 hrun hmay hmore => ?bistWindow, fun s m hm => ?bistAbort,
    fun s m j hm hj hret => ?enter, fun s m j hm hj hret => ?wake, fun s j hj hret => ?awake,
    fun s m hm hoff => ?lOffSet, fun s m hm hoff => ?lOffClear, fun s hoff => ?lInitDone⟩
  case sramScrub =>
    obtain ⟨u, hkept, hscrub⟩ := sramScrub_of_awake n hb hen hawake
    have hend := hkept.eccCorr b (min n 512)
    refine .of_onUnit rfl hb ?_
    rw [hscrub]
    exact ⟨eccCorr_corr (.inr (by omega)), hend.chip, hend.mode⟩
  case dramScrub =>
    obtain ⟨u, hkept, hscrub⟩ := dramScrub_of_on n w hen hsr
    obtain ⟨v, hcount, herror⟩ := eccUncorr_dram u a
    have hend := hkept.trans hcount
    refine ⟨_, rfl, ?_⟩
    rw [hscrub, ← ha, herror]
    exact ⟨List.mem_cons_self, State.bit_setBit _ _ _ _ (by decide) (by decide),
      (State.getN_setN_ne _ _ _ _ (by decide)).trans (State.getN_setN _ _ _), hend.dram, hend.chip, hend.mode⟩
  case bistGo =>
    obtain ⟨u, hgo, hcare, hbist, hbit⟩ := bistCtlWrite_go hbusy hsel hB
    exact hcare.runs rfl ((writeReg_bistCtl s m _ hm).trans hgo) ⟨hbist, hbit, hcare.frame⟩
  case bistWindow =>
    obtain ⟨u, hwindow, hcare, hbist, hfail⟩ := bistWindow_of_fail (s := s.advTo t0) hrun hmay hmore
    exact hcare.runs rfl hwindow ⟨hbist, hfail, hcare.frame⟩
  case bistAbort =>
    obtain ⟨u, habort, hcare, hbist, hbit⟩ := strobeReg_bistAbort m hm
    exact hcare.runs rfl habort ⟨hbist, hbit, hcare.frame⟩
  case enter =>
    obtain ⟨u, henter, hcare, hbit, hawake⟩ := memRet_enter hj hret
    exact hcare.runs rfl ((writeReg_memRet s m _ hm).trans henter) ⟨hbit, hawake, hcare.frame⟩
  case wake =>
    obtain ⟨u, hwake, hcare, hbit, hwaking⟩ := memRet_wake hj hret
    exact hcare.runs rfl ((writeReg_memRet s m _ hm).trans hwake) ⟨hbit, hwaking, hcare.frame⟩
  case awake =>
    obtain ⟨dt, hawake⟩ := bankAwake_of_ret hj hret
    refine ⟨_, rfl, ?_⟩
    rw [hawake]
    exact ⟨State.bit_setBit _ _ _ _ (by simp only []; omega) Nat.one_pos, rfl, rfl, rfl⟩
  case lOffSet =>
    obtain ⟨u, hlost, hreads⟩ := memRet_lOffSet hoff
    refine ⟨_, rfl, ?_⟩
    rw [writeReg_memRet s m _ hm, hlost]
    exact hreads
  case lOffClear =>
    obtain ⟨u, hclear, hcare, hbit, hinit⟩ := memRet_lOffClear hoff
    exact hcare.runs rfl ((writeReg_memRet s m _ hm).trans hclear) ⟨hbit, hinit, hcare.frame⟩
  case lInitDone =>
    obtain ⟨u, hdone, hcare, hawake, hinit⟩ := lInitDone_of_on hoff
    exact hcare.runs rfl hdone ⟨hawake, hinit, hcare.frame⟩

end Sys2Proof.Proofs
end

section
/-! PROOFS. The host mailboxes: where a completion goes, what a submission, a doorbell and a POP leave in their queue pair, and
what each of them leaves as it is. -/
namespace Sys2Proof.Machine

/-- The seal of an answer leaves the mode, the memories and device time. -/
theorem seal_stillMem (s t u : State) : StillMem s (u.seal t) ↔ StillMem s t := Iff.rfl

/-! What an MSI-X message leaves as it is. -/

/-- From `s` to `t` nothing has changed but vectors, the trace and the Pending Bit Array (R436). -/
structure MessageOnly (s t : State) : Prop where
  eq : ∃ regs vecs out, t = { s with regs := regs, vecs := vecs, out := out }
  get : ∀ a, (a < R.MBX_MSIX_PBA 0 ∨ R.MBX_MSIX_PBA 2 ≤ a) → t.get a = s.get a

/-- A field is below the power of two of its width (R10). -/
theorem fld_lt (s : State) (a : Nat) (f : Fld) : s.fld a f < 2 ^ f.w := Nat.mod_lt _ (Nat.two_pow_pos _)

namespace MessageOnly

variable {s u : State} {v : Nat}

theorem refl : MessageOnly s s := ⟨⟨s.regs, s.vecs, s.out, rfl⟩, fun _ _ => rfl⟩

theorem modVec (h : MessageOnly s u) (v : Nat) (f : Vec → Vec) : MessageOnly s (u.modVec v f) := by
  obtain ⟨⟨regs, _, out, rfl⟩, hget⟩ := h
  exact ⟨⟨regs, _, out, rfl⟩, hget⟩

theorem emit (h : MessageOnly s u) (o : Output) : MessageOnly s (u.emit o) := by
  obtain ⟨⟨regs, vecs, _, rfl⟩, hget⟩ := h
  exact ⟨⟨regs, vecs, _, rfl⟩, hget⟩

theorem setPend (h : MessageOnly s u) (hv : v < 64) (f : Fld) (b : Bool) :
    MessageOnly s (u.setBit (R.MBX_MSIX_PBA (v / 32)) f b) := by
  obtain ⟨⟨_, vecs, out, rfl⟩, hget⟩ := h
  refine ⟨⟨_, vecs, out, rfl⟩, fun a ha => (State.get_set_ne _ _ a _ ?_).trans (hget a ha)⟩
  simp only [R.MBX_MSIX_PBA] at ha ⊢
  omega

theorem msixSend (h : MessageOnly s u) (hv : v < 64) : MessageOnly s (u.msixSend v) := by
  simp only [State.msixSend]
  repeat' split
  · exact h
  · exact (h.modVec _ _).setPend hv _ _
  · exact (h.modVec _ _).emit _

theorem qpIrq (h : MessageOnly s u) (q : Nat) : MessageOnly s (u.qpIrq q) := by
  have hv : u.fld (R.MBX_QP_CFG q) F.MBX_QP_CFG_VEC < 64 := fld_lt _ _ _
  simp only [State.qpIrq]
  repeat' split
  · exact h.modVec _ _
  · exact h.msixSend hv
  · exact h.msixSend hv

theorem qpAt (h : MessageOnly s u) (q : Nat) : u.qpAt q = s.qpAt q := by
  obtain ⟨⟨_, _, _, rfl⟩, -⟩ := h
  rfl

theorem hostOut (h : MessageOnly s u) : u.hostOut = s.hostOut := by
  obtain ⟨⟨_, _, _, rfl⟩, -⟩ := h
  rfl

theorem stillMem (h : MessageOnly s u) : StillMem s u := by
  obtain ⟨⟨_, _, _, rfl⟩, -⟩ := h
  exact ⟨rfl, rfl, rfl, rfl, rfl⟩

end MessageOnly

/-! Where a completion goes. -/

section
variable (s : State) (q : Nat) (bytes : List Nat)

/-- A completion in the completion FIFO (R429). -/
def State.fifoPut : State := s.modQp q (fun p => { p with cq := p.cq ++ [bytes] })

/-- A completion in the Z1 window, and GO cleared (R428). -/
def State.windowPut : State :=
  (s.z1Put 0 (wordsOf bytes ++ List.replicate 8 0)).setBit R.MBX_Z1_CTL F.MBX_Z1_CTL_GO false

theorem fifoPut_qpAt : (s.fifoPut q bytes).qpAt q = { s.qpAt q with cq := (s.qpAt q).cq ++ [bytes] } :=
  State.qpAt_mod s q (fun p => { p with cq := p.cq ++ [bytes] })

/-- The address of the next slot of the completion ring (R434). -/
def State.cqSlot : Nat :=
  s.get64 (R.MBX_Z3_CQ_BASE_LO q) (R.MBX_Z3_CQ_BASE_HI q) / 4096 * 4096 + (s.qpAt q).ctail * 32

/-- A completion in the next slot of the completion ring, whose tail moves on (R434). -/
def State.ringPut : State :=
  ((s.hostWrite (s.cqSlot q) bytes).emit (.hostReq true (s.cqSlot q) 32 (s.qpNs q))).modQp q (fun p => { p with
    ctail := (p.ctail + 1) % s.ringSize q, phase := if p.ctail + 1 = s.ringSize q then !p.phase else p.phase })

theorem ringPut_hostOut : (s.ringPut q bytes).hostOut = memWrite s.hostOut (s.cqSlot q) bytes := rfl

/-- Counting a completion leaves where the next one goes. -/
theorem bumpDone_cqSlot : (s.bumpW (R.MBX_QP_DONE q)).cqSlot q = s.cqSlot q := by
  have hbase : (s.bumpW (R.MBX_QP_DONE q)).get64 (R.MBX_Z3_CQ_BASE_LO q) (R.MBX_Z3_CQ_BASE_HI q) =
      s.get64 (R.MBX_Z3_CQ_BASE_LO q) (R.MBX_Z3_CQ_BASE_HI q) := get64_setN_ne s _ (by simp) (by simp)
  unfold State.cqSlot
  rw [hbase]
  rfl

end

section
variable {s : State} {q : Nat} {c : Cmd} {status : Nat} {res : List Nat}

/-- A completion of a queue pair that was reset is discarded (R420). -/
theorem deliverCpl_of_dead (hdead : (s.qpAt q).dead = true) :
    s.deliverCpl q c status res = (s.bumpW (R.MBX_QP_DONE q)).modQp q (fun p => { p with dead := false }) :=
  if_pos hdead

/-- In Z2 a completion goes to the completion FIFO (R429). -/
theorem deliverCpl_of_fifo (hdead : (s.qpAt q).dead = false) (hmode : s.qpMode q = 1) :
    MessageOnly ((s.bumpW (R.MBX_QP_DONE q)).fifoPut q
      (cplBytes c status false (s.bit R.SYS_MODE F.SYS_MODE_LIMITED) (s.qpAt q).sq.length res))
      (s.deliverCpl q c status res) := by
  have hmode' : (s.bumpW (R.MBX_QP_DONE q)).qpMode q = 1 := hmode
  simp only [State.deliverCpl, hdead, hmode', Bool.false_eq_true, if_false]
  split
  · exact .refl
  · exact MessageOnly.refl.qpIrq q

/-- In Z1 a completion goes to the window (R428). -/
theorem deliverCpl_of_window (hdead : (s.qpAt q).dead = false) (hmode : s.qpMode q = 3) :
    MessageOnly ((s.bumpW (R.MBX_QP_DONE q)).windowPut
      (cplBytes c status false (s.bit R.SYS_MODE F.SYS_MODE_LIMITED) 0 res)) (s.deliverCpl q c status res) := by
  have hmode' : (s.bumpW (R.MBX_QP_DONE q)).qpMode q = 3 := hmode
  simp only [State.deliverCpl, hdead, hmode', Bool.false_eq_true, if_false]
  split
  · exact .refl
  · exact MessageOnly.refl.msixSend (fld_lt _ _ _)

/-- In Z3 a completion goes to the completion ring (R434). -/
theorem deliverCpl_of_ring (hdead : (s.qpAt q).dead = false) (hfifo : s.qpMode q ≠ 1) (hwindow : s.qpMode q ≠ 3) :
    MessageOnly ((s.bumpW (R.MBX_QP_DONE q)).ringPut q
      (cplBytes c status (s.qpAt q).phase (s.bit R.SYS_MODE F.SYS_MODE_LIMITED) (s.qpAt q).head res))
      (s.deliverCpl q c status res) := by
  simp only [State.deliverCpl, hdead, Bool.false_eq_true, if_false]
  split
  · contradiction
  · contradiction
  · split
    · exact .refl
    · exact MessageOnly.refl.qpIrq q

/-- A completion has 32 bytes (R422). -/
theorem cplBytes_length (c : Cmd) (status : Nat) (phase limited : Bool) (sqHead : Nat) (res : List Nat) :
    (cplBytes c status phase limited sqHead res).length = 32 := by
  simp [cplBytes, leBytes]

end

/-! The queue of commands taken. -/

/-- `s` with the time of its last command set to now (R37). -/
def State.touched (s : State) : State := s.modPw (fun p => { p with idleSince := s.now })

@[simp] theorem touched_qpAt (s : State) (q : Nat) : s.touched.qpAt q = s.qpAt q := rfl

section
variable {s : State} {q : Nat} {c : Cmd}

theorem headCmd_mem_head (h : s.headCmd q = some c) : c ∈ (s.qpAt q).sq.head? := by
  unfold State.headCmd at h
  dsimp only at h
  split at h
  · cases h
  · exact h

/-- Where the head of the queue failed no check, none completes (R427). -/
theorem settleQp_of_head (h : ∀ c ∈ (s.qpAt q).sq.head?, c.pre = none) : s.settleQp q = s := by
  unfold State.settleQp
  cases (s.qpAt q).sq.length with
  | zero => rfl
  | succ n =>
    cases hhead : s.headCmd q with
    | none => simp only [State.settle, hhead]
    | some c => simp only [State.settle, hhead, h c (headCmd_mem_head hhead)]

theorem settleQp_of_nil (h : (s.qpAt q).sq = []) : s.settleQp q = s := settleQp_of_head (by simp [h])

/-- A command with no failed check that joins an empty queue waits there (R427). -/
theorem submit_of_nil (hsq : (s.qpAt q).sq = []) (hpre : c.pre = none) :
    s.submit q c = s.touched.modQp q (fun p => { p with sq := p.sq ++ [c] }) :=
  settleQp_of_head (s := s.touched.modQp q (fun p => { p with sq := p.sq ++ [c] })) (by simp [hsq, hpre])

/-- The fetch of IND arguments adds the same to the trace of two states that agree on NS and the trace (R421). -/
theorem indFetch_alike {t : State} (hns : t.qpNs q = s.qpNs q) (hout : t.out = s.out) (msg : List Nat) :
    ∃ out, s.indFetch q c msg = { s with out := out } ∧ t.indFetch q c msg = { t with out := out } := by
  simp only [State.indFetch]
  split
  · exact ⟨_, rfl, by rw [State.emit, hns, hout]⟩
  · exact ⟨s.out, rfl, by rw [← hout]⟩

/-- A command with no failed check submitted to a queue that is empty: it waits there, its fetch of IND arguments is on the
trace, and no register changes. -/
theorem indFetch_submit {t : State} (hns : t.qpNs q = s.qpNs q) (hframe : Frame s t) (hsq : (t.qpAt q).sq = [])
    (hpre : c.pre = none) (msg : List Nat) :
    ((t.indFetch q c msg).submit q c).qpAt q = { t.qpAt q with sq := [c] } ∧
      ((t.indFetch q c msg).submit q c).regs = t.regs ∧
      Frame (s.indFetch q c msg) ((t.indFetch q c msg).submit q c) := by
  obtain ⟨hmode, hdram, hchip, hdt, hhost, hout, hevents⟩ := hframe
  obtain ⟨out, hs, ht⟩ := indFetch_alike (c := c) hns hout msg
  have hsq' : (({ t with out := out } : State).qpAt q).sq = [] := hsq
  rw [hs, ht, submit_of_nil hsq' hpre]
  refine ⟨?_, rfl, hmode, hdram, hchip, hdt, hhost, rfl, hevents⟩
  rw [State.qpAt_mod]
  exact congrArg (fun l => { t.qpAt q with sq := l ++ [c] }) hsq

/-- A command of a queue pair of generation Z2 that has no other completes: its completion goes to the FIFO (R429). -/
theorem finish_of_fifo (status : Nat) (res : List Nat) (hdead : (s.qpAt q).dead = false) (hmode : s.qpMode q = 1)
    (hsq : (s.qpAt q).sq = []) :
    StillMem s (s.finish q c status res) ∧ (s.finish q c status res).qpAt q = { s.qpAt q with
      cq := (s.qpAt q).cq ++ [cplBytes c status false (s.bit R.SYS_MODE F.SYS_MODE_LIMITED) 0 res] } := by
  have hput := deliverCpl_of_fifo (s := s.touched) (c := c) (status := status) (res := res) hdead hmode
  have hqp := (hput.qpAt q).trans (fifoPut_qpAt _ q _)
  have hend : s.finish q c status res = s.touched.deliverCpl q c status res :=
    settleQp_of_nil ((congrArg Qp.sq hqp).trans hsq)
  rw [touched_qpAt, hsq] at hqp
  rw [hend]
  exact ⟨hput.stillMem, hqp⟩

end

/-! Commands refused for their mode. -/

section
variable {s : State} {q op len : Nat} {c : Cmd}

/-- The status of a command that the mode refuses (R449). -/
def State.refusalStatus (s : State) : Nat := if s.cmdMode = .boot ∨ s.cmdMode = .idle then stNotReady else stDenied

/-- `s` with the head command of queue pair `q` taken. -/
def State.taken (s : State) (q : Nat) : State := (s.modQp q (fun p => { p with sq := p.sq.drop 1 })).touched

theorem taken_qpAt (s : State) (q : Nat) : (s.taken q).qpAt q = { s.qpAt q with sq := (s.qpAt q).sq.drop 1 } :=
  State.qpAt_mod s q (fun p => { p with sq := p.sq.drop 1 })

/-- The command at the front is taken by the row of its opcode (R427). -/
theorem take_of_front (h : Front s q op c) (f : State → Cmd → State) : s.take q op f = f (s.taken q) c := by
  obtain ⟨-, hsq, hcur, hst, hmode, -, hroom, hop, hpre, hready, hfirst⟩ := h
  have hhead : s.headCmd q = some c := by
    simp [State.headCmd, hsq, hcur, hst, show ¬ 16 ≤ (s.qpAt q).cq.length by omega]
  unfold State.take
  rw [hhead]
  exact if_pos ⟨hop, hpre, hready, by simp [hfirst]⟩

/-- A command in a mode that refuses it completes with the status of that mode and does nothing else (R425, R449). -/
theorem take_gate_refused {modes : List Mode} {g : Cmd → State → State} (hfront : Front s q op c)
    (hmode : s.cmdMode ∉ modes) {t : State} (ht : t = s.take q op (fun s c => s.gate q c modes len (g c))) :
    StillMem s t ∧ Answered s t q c s.refusalStatus [] := by
  have hrefused : t = (s.taken q).finish q c s.refusalStatus [] := by
    rw [ht, take_of_front hfront]
    exact gate_mode (s.taken q) q c modes len (g c) hmode
  obtain ⟨-, hsq, hcur, -, hgen, hdead, -⟩ := hfront
  have hqp : (s.taken q).qpAt q = { s.qpAt q with sq := [] } := by rw [taken_qpAt, hsq]; rfl
  obtain ⟨hstill, hend⟩ := finish_of_fifo (s := s.taken q) (c := c) s.refusalStatus [] (hqp ▸ hdead)
    ((congrArg Qp.mode hqp).trans hgen) (congrArg Qp.sq hqp)
  rw [← hrefused] at hstill hend
  rw [hqp] at hend
  refine ⟨hstill, ?_, ?_, ?_⟩
  all_goals rw [hend]
  · exact hcur
  · rfl

/-- A row of a command of CONFIG runs in another mode as a refusal. -/
theorem runs_refused {i : Instr} {g : Cmd → State → State}
    (hrow : exec i s = onUnit q 32 s (s.answer (s.take q op (fun s c => s.gate q c [.config] len (g c)))))
    (hfront : Front s q op c) (hmode : s.cmdMode ≠ .config) :
    Runs i s (fun t => StillMem s t ∧ Answered s t q c s.refusalStatus []) := by
  have hrefused := take_gate_refused (len := len) (g := g) hfront (fun h => hmode (List.mem_singleton.mp h)) rfl
  exact .of_onUnit hrow hfront.1 hrefused

end

/-! Denied writes. -/

/-- A denied write changes the count of denials and the offset of the last one (R423). -/
theorem denyWrite_reads (s : State) (off : Nat) : (s.denyWrite off).getN R.MBX_DENY_ADDR = off % 2 ^ 26 ∧
    (s.denyWrite off).getN R.MBX_HOST_DENY = min 0xFFFFFFFF (s.getN R.MBX_HOST_DENY + 1) ∧
    ∀ a, a ≠ R.MBX_DENY_ADDR → a ≠ R.MBX_HOST_DENY → (s.denyWrite off).get a = s.get a := by
  unfold State.denyWrite
  refine ⟨?_, ?_, fun a haddr hcount => ?_⟩
  · rw [State.getN_setN]
    omega
  · rw [State.getN_setN_ne _ _ _ _ (by decide), bumpW_getN]
  · exact (State.get_set_ne _ _ a _ haddr.symm).trans (State.get_set_ne s _ a _ hcount.symm)

/-- A host write that is denied, but of a doorbell of the DMA engine (R345, R423). -/
theorem writeReg_denied {s : State} {off : Nat} (v : Nat) (full : Bool) (hdeny : s.mayWrite .host off = false)
    (hoff : off < 0x0B20000 ∨ 0x0B20400 ≤ off) : s.writeReg .host off v full = s.denyWrite off := by
  have hbell : s.doorbellDeny off = s := if_neg (by omega)
  simp [State.writeReg, hdeny, hbell]

/-! Pushes of generation Z2 (R429, R430). -/

/-- An event finds room in the hardware FIFO (R574). -/
theorem raiseAt_evFifo {s : State} (t code obj : Nat) (h : s.evFifo.length < 256) :
    ∃ e, (s.raiseAt t code obj).evFifo = s.evFifo ++ [e] ∧ e.code = code ∧ e.obj = obj :=
  ⟨{ code := code, obj := obj, at_ := t, injected := s.evTainted code obj }, by
    simp [State.raiseAt, State.post, h], rfl, rfl⟩

section
variable {s : State} {q : Nat} {v : Nat} {ind : Option (List Nat)}

/-- `s` with the submission window of queue pair `q` emptied by the push of its last word `v`. -/
def State.windowTaken (s : State) (q v : Nat) : State := (s.z2Word q 15 v).modQp q (fun p => { p with asm := [] })

/-- The message in the submission window of queue pair `q`, with `v` for its last word. -/
def State.windowMsg (s : State) (q v : Nat) : List Nat :=
  ((((s.qpAt q).asm ++ List.replicate 16 0).take 16).set 15 v).flatMap (leBytes 4)

theorem windowTaken_qpAt (s : State) (q v : Nat) : (s.windowTaken q v).qpAt q = { s.qpAt q with asm := [] } := by
  simp [State.windowTaken, State.z2Word]

theorem windowTaken_frame (s : State) (q v : Nat) : Frame s (s.windowTaken q v) := ⟨rfl, rfl, rfl, rfl, rfl, rfl, rfl⟩

/-- What a push into a full FIFO leaves: the window emptied, OVF set, and MBX_OVERFLOW raised (R430). -/
def State.pushDropped (s : State) (q v : Nat) : State :=
  ((s.windowTaken q v).setBit (R.MBX_QP_STAT q) F.MBX_QP_STAT_OVF true).raiseCount 0x7001 q 13

theorem pushDropped_ovf (s : State) (q v : Nat) :
    (s.pushDropped q v).bit (R.MBX_QP_STAT q) F.MBX_QP_STAT_OVF = true := by
  rw [State.pushDropped, State.raiseCount_bit]
  exact State.bit_setBit _ _ _ _ (by decide) (by decide)

theorem pushDropped_sq (s : State) (q v : Nat) : ((s.pushDropped q v).qpAt q).sq = (s.qpAt q).sq := by
  rw [State.pushDropped, State.raiseCount_qpAt, State.setBit_qpAt, windowTaken_qpAt]

theorem pushDropped_stillMem (s : State) (q v : Nat) : StillMem s (s.pushDropped q v) := by
  simp [StillMem, State.pushDropped, State.windowTaken, State.z2Word]

theorem pushDropped_out (s : State) (q v : Nat) : (s.pushDropped q v).out = s.out := by
  simp [State.pushDropped, State.windowTaken, State.z2Word]

theorem pushDropped_evFifo (v : Nat) (hroom : s.evFifo.length < 256) :
    ∃ e, (s.pushDropped q v).evFifo = s.evFifo ++ [e] ∧ e.code = 0x7001 ∧ e.obj = q :=
  raiseAt_evFifo (s := (((s.windowTaken q v).setBit (R.MBX_QP_STAT q) F.MBX_QP_STAT_OVF true).countUnless
    (((s.windowTaken q v).setBit (R.MBX_QP_STAT q) F.MBX_QP_STAT_OVF true).evTainted 0x7001 q) 13)) _ 0x7001 q hroom

/-- What a push before READY leaves: the window emptied, and the push counted (R430). -/
def State.pushCounted (s : State) (q v : Nat) : State := (s.windowTaken q v).bumpW R.MBX_EARLY_CNT

theorem pushCounted_qpAt (s : State) (q v : Nat) : (s.pushCounted q v).qpAt q = { s.qpAt q with asm := [] } :=
  windowTaken_qpAt s q v

theorem pushCounted_count (s : State) (q v : Nat) :
    (s.pushCounted q v).getN R.MBX_EARLY_CNT = min 0xFFFFFFFF (s.getN R.MBX_EARLY_CNT + 1) :=
  bumpW_getN (s.windowTaken q v) R.MBX_EARLY_CNT 1

theorem pushCounted_stillMem (s : State) (q v : Nat) : StillMem s (s.pushCounted q v) := ⟨rfl, rfl, rfl, rfl, rfl⟩

/-- What the first push before READY leaves: it is counted, and MBX_EARLY raised (R430). -/
def State.pushEarly (s : State) (q v : Nat) : State :=
  ((s.pushCounted q v).modQp q (fun p => { p with early := true })).raise 0x7002 q

theorem pushEarly_qpAt (s : State) (q v : Nat) :
    (s.pushEarly q v).qpAt q = { s.qpAt q with asm := [], early := true } := by
  rw [State.pushEarly, State.raise_qpAt, State.qpAt_mod, pushCounted_qpAt]

theorem pushEarly_count (s : State) (q v : Nat) :
    (s.pushEarly q v).getN R.MBX_EARLY_CNT = min 0xFFFFFFFF (s.getN R.MBX_EARLY_CNT + 1) := by
  rw [State.pushEarly, State.raise_getN, State.modQp_getN, pushCounted_count]

theorem pushEarly_stillMem (s : State) (q v : Nat) : StillMem s (s.pushEarly q v) := by
  simpa [StillMem, State.pushEarly] using pushCounted_stillMem s q v

theorem pushEarly_evFifo (v : Nat) (hroom : s.evFifo.length < 256) :
    ∃ e, (s.pushEarly q v).evFifo = s.evFifo ++ [e] ∧ e.code = 0x7002 ∧ e.obj = q :=
  raiseAt_evFifo (s := (s.pushCounted q v).modQp q (fun p => { p with early := true })) _ 0x7002 q hroom

/-- What a push does, told of the state before it. -/
theorem z2Push_eq : s.z2Push q v ind =
    if s.qpMode q ≠ 1 ∨ (s.qpAt q).st ≠ 1 then s.windowTaken q v
    else if !s.ready then
      if (s.qpAt q).early then s.pushCounted q v else s.pushEarly q v
    else if 16 ≤ (s.qpAt q).sq.length then s.pushDropped q v
    else ((s.windowTaken q v).indFetch q (s.cmdOf s.now (s.windowMsg q v) 56 ind) (s.windowMsg q v)).submit q
      (s.cmdOf s.now (s.windowMsg q v) 56 ind) := by
  have hmsg : ((s.z2Word q 15 v).qpAt q).asm.flatMap (leBytes 4) = s.windowMsg q v := by
    simp [State.z2Word, State.windowMsg]
  have hqp := windowTaken_qpAt s q v
  have hqp' : ((s.windowTaken q v).bumpW R.MBX_EARLY_CNT).qpAt q = { s.qpAt q with asm := [] } := hqp
  have hmode : (s.windowTaken q v).qpMode q = s.qpMode q := by rw [State.qpMode, hqp]; rfl
  have htaken : (s.z2Word q 15 v).modQp q (fun p => { p with asm := [] }) = s.windowTaken q v := rfl
  simp only [State.z2Push, hmsg, htaken, hmode, hqp, hqp']
  rfl

theorem z2Push_of_full (hmode : s.qpMode q = 1) (hst : (s.qpAt q).st = 1) (hready : s.ready = true)
    (hfull : 16 ≤ (s.qpAt q).sq.length) : s.z2Push q v ind = s.pushDropped q v := by
  rw [z2Push_eq, if_neg (by simp [hmode, hst]), if_neg (by simp [hready]), if_pos hfull]

theorem z2Push_of_room (hmode : s.qpMode q = 1) (hst : (s.qpAt q).st = 1) (hready : s.ready = true)
    (hroom : (s.qpAt q).sq.length < 16) : s.z2Push q v ind =
      ((s.windowTaken q v).indFetch q (s.cmdOf s.now (s.windowMsg q v) 56 ind) (s.windowMsg q v)).submit q
        (s.cmdOf s.now (s.windowMsg q v) 56 ind) := by
  rw [z2Push_eq, if_neg (by simp [hmode, hst]), if_neg (by simp [hready]), if_neg (by omega)]

theorem z2Push_of_early (hmode : s.qpMode q = 1) (hst : (s.qpAt q).st = 1) (hready : s.ready = false) :
    s.z2Push q v ind = if (s.qpAt q).early then s.pushCounted q v else s.pushEarly q v := by
  rw [z2Push_eq, if_neg (by simp [hmode, hst]), if_pos (by simp [hready])]

end

/-! A command written in the Z1 window (R428). -/

section
variable {s : State}

/-- The message in the Z1 window. -/
def State.z1Msg (s : State) : List Nat := (List.range 16).flatMap (fun w => leBytes 4 (s.getN (R.MBX_Z1_WIN w)))

/-- The checks of a submitted command depend on READY alone (R425). -/
theorem cmdOf_congr {t : State} (h : t.ready = s.ready) (seen : Nat) (msg : List Nat) (limit : Nat)
    (ind : Option (List Nat)) : t.cmdOf seen msg limit ind = s.cmdOf seen msg limit ind := by
  unfold State.cmdOf
  rw [h]

/-- `s` with GO of MBX_Z1_CTL set and IRQ as written. -/
def State.goSet (s : State) (irq : Bool) : State :=
  (s.setBit R.MBX_Z1_CTL F.MBX_Z1_CTL_IRQ irq).setBit R.MBX_Z1_CTL F.MBX_Z1_CTL_GO true

theorem goSet_get (s : State) (irq : Bool) {a : Nat} (ha : R.MBX_Z1_CTL ≠ a) : (s.goSet irq).get a = s.get a :=
  (State.get_set_ne _ _ a _ ha).trans (State.get_set_ne s _ a _ ha)

theorem goSet_go (s : State) (irq : Bool) : (s.goSet irq).bit R.MBX_Z1_CTL F.MBX_Z1_CTL_GO = true :=
  State.bit_setBit _ _ _ _ (by decide) (by decide)

theorem goSet_irq (s : State) (irq : Bool) : (s.goSet irq).bit R.MBX_Z1_CTL F.MBX_Z1_CTL_IRQ = irq :=
  (State.bit_setFld_beside _ _ (by decide) (by decide)).trans (State.bit_setBit s _ _ _ (by decide) (by decide))

/-- GO submits the command in the window where the queue pair is active in Z1 and no other command is there (R428). -/
theorem z1Go_of_idle {irq : Bool} {ind : Option (List Nat)} (hmode : s.qpMode 0 = 3) (hst : (s.qpAt 0).st = 1)
    (hgo : s.bit R.MBX_Z1_CTL F.MBX_Z1_CTL_GO = false) : s.z1Go irq ind =
      ((s.goSet irq).indFetch 0 (s.cmdOf s.now s.z1Msg 56 ind) s.z1Msg).submit 0 (s.cmdOf s.now s.z1Msg 56 ind) := by
  have hkept {a : Nat} (ha : R.MBX_Z1_CTL ≠ a) : (s.setBit R.MBX_Z1_CTL F.MBX_Z1_CTL_IRQ irq).get a = s.get a :=
    State.get_set_ne s _ a _ ha
  have hmsg : (s.setBit R.MBX_Z1_CTL F.MBX_Z1_CTL_IRQ irq).z1Msg = s.z1Msg := by
    have hword (w : Nat) : R.MBX_Z1_CTL ≠ R.MBX_Z1_WIN w := by simp only [R.MBX_Z1_CTL, R.MBX_Z1_WIN]; omega
    simp only [State.z1Msg, State.getN, hkept (hword _)]
  have hcmd := cmdOf_congr (bit_congr F.SYS_MODE_READY (hkept (a := R.SYS_MODE) (by decide))) s.now s.z1Msg 56 ind
  have hgo' : (s.setBit R.MBX_Z1_CTL F.MBX_Z1_CTL_IRQ irq).bit R.MBX_Z1_CTL F.MBX_Z1_CTL_GO = false :=
    (State.bit_setFld_beside s _ (by decide) (by decide)).trans hgo
  have hrun : ¬((s.setBit R.MBX_Z1_CTL F.MBX_Z1_CTL_IRQ irq).qpMode 0 ≠ 3 ∨
      ((s.setBit R.MBX_Z1_CTL F.MBX_Z1_CTL_IRQ irq).qpAt 0).st ≠ 1 ∨
      (s.setBit R.MBX_Z1_CTL F.MBX_Z1_CTL_IRQ irq).bit R.MBX_Z1_CTL F.MBX_Z1_CTL_GO = true) := by
    rintro (h | h | h)
    · exact h hmode
    · exact h hst
    · exact absurd h (by simp [hgo'])
  rw [← hcmd, ← hmsg]
  exact if_neg hrun

end

/-! The rings of generation Z3 (R431 to R435). -/

section
variable {s : State} {q : Nat} {v : Nat}

theorem ringSize_le (s : State) (q : Nat) : s.ringSize q ≤ 2 ^ 12 :=
  Nat.pow_le_pow_right (by decide) (by unfold clampN; omega)

/-- A doorbell after READY is not latched (R435). -/
theorem not_early (hready : s.ready = true) : ¬(!s.ready) = true := by
  rw [hready]
  decide

theorem z3Tail_of_lt (hready : s.ready = true) (hv : v < s.ringSize q) : s.z3Tail q v =
    (s.setN (R.MBX_Z3_SQ_TAIL q) v).modQp q (fun p => { p with stop := false, doors := p.doors ++ [(v, s.now)] }) :=
  (if_neg (not_early hready)).trans (if_neg (Nat.not_le_of_lt hv))

theorem z3Head_of_lt (hready : s.ready = true) (hv : v < s.ringSize q) : s.z3Head q v =
    (s.setN (R.MBX_Z3_CQ_HEAD q) v).modQp q (fun p => { p with stop := false }) :=
  (if_neg (not_early hready)).trans (if_neg (Nat.not_le_of_lt hv))

theorem z3Tail_of_le (hready : s.ready = true) (hv : s.ringSize q ≤ v) :
    s.z3Tail q v = s.setBit (R.MBX_QP_STAT q) F.MBX_QP_STAT_DB_ERR true :=
  (if_neg (not_early hready)).trans (if_pos hv)

theorem z3Head_of_le (hready : s.ready = true) (hv : s.ringSize q ≤ v) :
    s.z3Head q v = s.setBit (R.MBX_QP_STAT q) F.MBX_QP_STAT_DB_ERR true :=
  (if_neg (not_early hready)).trans (if_pos hv)

/-- The request of the entry in the next slot of the submission ring (R432). -/
def State.sqRequest (s : State) (q : Nat) : Output :=
  .hostReq false (s.get64 (R.MBX_Z3_SQ_BASE_LO q) (R.MBX_Z3_SQ_BASE_HI q) / 4096 * 4096 + (s.qpAt q).head * 256) 256 (s.qpNs q)

/-- `s` with the entry in the next slot of the submission ring asked for, and that slot passed. -/
def State.slotTaken (s : State) (q : Nat) : State :=
  (s.emit (s.sqRequest q)).modQp q (fun p => { p with
    head := ((s.qpAt q).head + 1) % s.ringSize q, doors := doorsLeft (((s.qpAt q).head + 1) % s.ringSize q) p.doors })

theorem slotTaken_qpAt (s : State) (q : Nat) : (s.slotTaken q).qpAt q = { s.qpAt q with
    head := ((s.qpAt q).head + 1) % s.ringSize q
    doors := doorsLeft (((s.qpAt q).head + 1) % s.ringSize q) (s.qpAt q).doors } := by
  rw [State.slotTaken, State.qpAt_mod, State.emit_qpAt]

/-- The message of an entry that brought the bytes `m` (R431). -/
def entryMsg (m : List Nat) : List Nat := (m ++ List.replicate 256 0).take 256

/-- An entry that may be fetched is submitted (R432). -/
theorem z3Fetch_of_due {m : List Nat} {ind : Option (List Nat)} (hmode : s.qpMode q = 2) (hst : (s.qpAt q).st = 1)
    (hstop : (s.qpAt q).stop = false) (hready : s.ready = true) (hdue : (s.qpAt q).head ≠ s.getN (R.MBX_Z3_SQ_TAIL q))
    (hroom : s.z3Room q = true) : s.z3Fetch q (some m) ind =
      ((s.slotTaken q).indFetch q (s.cmdOf (s.doorSeen q) (entryMsg m) 248 ind) (entryMsg m)).submit q
        (s.cmdOf (s.doorSeen q) (entryMsg m) 248 ind) :=
  if_neg (by simp [hmode, hst, hstop, hready, hdue, hroom])

end

/-! Messages and the diagnostic session. -/

section
variable {s : State} {v : Nat}

theorem msixCoalesceExpiry_of_due {d : Nat} (h : (s.vecAt v).due = some d) :
    s.msixCoalesceExpiry v = (s.advTo d).msixSend v := by
  simp only [State.msixCoalesceExpiry, h]

/-- `s` with vector `v` at rest, its message sent or held now (R436). -/
def State.vecSent (s : State) (v : Nat) : State := s.modVec v (fun _ => { last := some s.now, due := none })

theorem vecSent_vecAt (s : State) (v : Nat) : (s.vecSent v).vecAt v = { last := some s.now, due := none } :=
  State.vecAt_mod s v (fun _ => { last := some s.now, due := none })

theorem msixSend_of_unmasked (hready : s.ready = true) (hen : s.pcie.msixEn = true) (hfun : s.pcie.msixMask = false)
    (hvec : s.bit (R.MBX_MSIX_CTRL v) F.MBX_MSIX_CTRL_MASK = false) : s.msixSend v = (s.vecSent v).emit (.msix v) := by
  have hsend : ¬((!s.ready) = true ∨ (!s.pcie.msixEn) = true) := by simp [hready, hen]
  have hopen : ¬((s.vecSent v).pcie.msixMask = true ∨
      (s.vecSent v).bit (R.MBX_MSIX_CTRL v) F.MBX_MSIX_CTRL_MASK = true) := by
    rintro (h | h)
    · exact absurd (hfun.symm.trans h) (by decide)
    · exact absurd (hvec.symm.trans h) (by decide)
  exact (if_neg hsend).trans (if_neg hopen)

theorem msixSend_of_masked (hready : s.ready = true) (hen : s.pcie.msixEn = true)
    (hmask : s.pcie.msixMask = true ∨ s.bit (R.MBX_MSIX_CTRL v) F.MBX_MSIX_CTRL_MASK = true) :
    s.msixSend v = (s.vecSent v).setBit (R.MBX_MSIX_PBA (v / 32)) ⟨v % 32, 1⟩ true := by
  have hsend : ¬((!s.ready) = true ∨ (!s.pcie.msixEn) = true) := by simp [hready, hen]
  exact (if_neg hsend).trans (if_pos hmask)

/-- A session that closes changes nothing else but registers (R389, R419). -/
theorem diagClose_regsOnly (s : State) : RegsOnly { s with diag := none } s.diagClose :=
  (RegsOnly.forEach (fun _ _ h => h.setBit _ _ _) _ .refl).setBit _ _ _

theorem diagTimeout_of_some {d : Nat} (h : s.diag = some d) : s.diagTimeout = (s.advTo d).diagClose := by
  simp only [State.diagTimeout, h]

end

/-! POP, and a queue pair that leaves (R426, R429). -/

section
variable {s : State} {q : Nat}

theorem z2Pop_of_nil (hsq : (s.qpAt q).sq = []) : s.z2Pop q =
    if s.qpMode q = 1 then s.modQp q (fun p => { p with cq := p.cq.drop 1 }) else s := by
  have hrest : ((s.modQp q (fun p => { p with cq := p.cq.drop 1 })).qpAt q).sq = [] := by simp [hsq]
  unfold State.z2Pop
  rw [settleQp_of_nil hrest]

theorem qpModeOff_of_active (hst : (s.qpAt q).st = 1) : s.qpModeOff q =
    (s.setFld (R.MBX_QP_CFG q) F.MBX_QP_CFG_MODE 0).modQp q (fun p => { p with st := 2 }) := if_pos hst

theorem qpDrainEnd_of_empty (hst : (s.qpAt q).st = 2) (hsq : (s.qpAt q).sq = []) (hcur : (s.qpAt q).cur = none) :
    s.qpDrainEnd q = s.modQp q (fun p => { p with
      st := 0, mode := 0, asm := [], stop := false, doors := [], latchTail := none, latchHead := none }) :=
  if_pos ⟨hst, hsq, hcur⟩

/-- No command is taken while the completion FIFO is full (R430). -/
theorem take_of_cqFull {op : Nat} {f : State → Cmd → State} (hmode : s.qpMode q = 1) (hfull : 16 ≤ (s.qpAt q).cq.length) :
    s.take q op f = s := by
  have hnone : s.headCmd q = none := if_pos (.inr (.inr ⟨hmode, hfull⟩))
  simp only [State.take, hnone]

end

/-! What a host access of one queue pair leaves as it is. -/

/-- From `s` to `t` no queue pair but `q` has changed, no encoder, row, port, plane or DMA channel, no memory of the device, not
the mode or device time, and no register outside the mailbox block. -/
structure MailboxOnly (q : Nat) (s t : State) : Prop where
  qps : ∀ r, r ≠ q → t.qpAt r = s.qpAt r
  enc : t.enc = s.enc
  rows : t.rows = s.rows
  ports : t.ports = s.ports
  planes : t.planes = s.planes
  chans : t.chans = s.chans
  mode : t.mode = s.mode
  chip : t.chip = s.chip
  dram : t.dram = s.dram
  dt : t.dt = s.dt
  get : ∀ a, a / 0x100000 ≠ 13 → t.get a = s.get a

/-- The registers of a queue pair lie in the mailbox block. -/
theorem qpReg_block {q k : Nat} (hq : q < 32) (hk : k < 0x100) : (0x0D10000 + q * 0x100 + k) / 0x100000 = 13 := by omega

theorem wordsOf_length_le (l : List Nat) : (wordsOf l).length ≤ l.length := by
  induction l using wordsOf.induct with
  | case1 a b c d l ih =>
    simp only [wordsOf, List.length_cons]
    omega
  | case2 l h =>
    simp [wordsOf]

namespace MailboxOnly

variable {q : Nat} {s u v : State}

theorem refl : MailboxOnly q s s := ⟨fun _ _ => rfl, rfl, rfl, rfl, rfl, rfl, rfl, rfl, rfl, rfl, fun _ _ => rfl⟩

theorem set (h : MailboxOnly q s u) {a : Nat} (ha : a / 0x100000 = 13) (w : BitVec 32) : MailboxOnly q s (u.set a w) :=
  { h with get := fun b hb => (State.get_set_ne u a b w (fun hab => hb (hab ▸ ha))).trans (h.get b hb) }

theorem setN (h : MailboxOnly q s u) {a : Nat} (ha : a / 0x100000 = 13) (w : Nat) : MailboxOnly q s (u.setN a w) := h.set ha _

theorem setBit (h : MailboxOnly q s u) {a : Nat} (ha : a / 0x100000 = 13) (f : Fld) (b : Bool) :
    MailboxOnly q s (u.setBit a f b) := h.set ha _

theorem bumpW (h : MailboxOnly q s u) {a : Nat} (ha : a / 0x100000 = 13) (k : Nat) : MailboxOnly q s (u.bumpW a k) := h.set ha _

theorem modQp (h : MailboxOnly q s u) (f : Qp → Qp) : MailboxOnly q s (u.modQp q f) :=
  { h with qps := fun r hr => (State.qpAt_mod_ne u q r f hr.symm).trans (h.qps r hr) }

theorem emit (h : MailboxOnly q s u) (o : Output) : MailboxOnly q s (u.emit o) := { h with }

theorem hostWrite (h : MailboxOnly q s u) (a : Nat) (bs : List Nat) : MailboxOnly q s (u.hostWrite a bs) := { h with }

theorem touched (h : MailboxOnly q s u) : MailboxOnly q s u.touched := { h with }

theorem raise (h : MailboxOnly q s u) (code obj : Nat) : MailboxOnly q s (u.raise code obj) := { h with }

theorem raiseCount (h : MailboxOnly q s u) (code obj j : Nat) : MailboxOnly q s (u.raiseCount code obj j) := { h with }

theorem sealed (h : MailboxOnly q s u) : MailboxOnly q s (s.seal u) := { h with }

/-- A message writes the Pending Bit Array, which lies in the mailbox block. -/
theorem message (h : MailboxOnly q s u) (hm : MessageOnly u v) : MailboxOnly q s v := by
  obtain ⟨⟨_, _, _, rfl⟩, hget⟩ := hm
  refine { h with get := fun a ha => (hget a ?_).trans (h.get a ha) }
  simp only [R.MBX_MSIX_PBA]
  omega

theorem indFetch (h : MailboxOnly q s u) (c : Cmd) (msg : List Nat) : MailboxOnly q s (u.indFetch q c msg) := by
  unfold State.indFetch
  split
  · exact h.emit _
  · exact h

/-- Up to 40 words from word `w` of the Z1 window on. -/
theorem z1Put {w : Nat} {l : List Nat} (hl : w + l.length ≤ 40) (h : MailboxOnly q s u) : MailboxOnly q s (u.z1Put w l) := by
  induction l generalizing u w with
  | nil => exact h
  | cons x l ih =>
    rw [List.length_cons] at hl
    exact ih (by omega) (h.setN (by simp only [R.MBX_Z1_WIN]; omega) x)

theorem fifoPut (h : MailboxOnly q s u) (bytes : List Nat) : MailboxOnly q s (u.fifoPut q bytes) := h.modQp _

theorem ringPut (h : MailboxOnly q s u) (bytes : List Nat) : MailboxOnly q s (u.ringPut q bytes) :=
  ((h.hostWrite _ _).emit _).modQp _

theorem windowPut (h : MailboxOnly q s u) {bytes : List Nat} (hlen : bytes.length = 32) :
    MailboxOnly q s (u.windowPut bytes) := by
  have hwords := wordsOf_length_le bytes
  exact (h.z1Put (by rw [List.length_append, List.length_replicate]; omega)).setBit (by decide) _ _

theorem z2Word (h : MailboxOnly q s u) (w x : Nat) : MailboxOnly q s (u.z2Word q w x) := h.modQp _

theorem windowTaken (h : MailboxOnly q s u) (x : Nat) : MailboxOnly q s (u.windowTaken q x) := (h.z2Word _ _).modQp _

section
variable (hq : q < 32)
include hq

theorem deliverCpl (h : MailboxOnly q s u) (c : Cmd) (status : Nat) (res : List Nat) :
    MailboxOnly q s (u.deliverCpl q c status res) := by
  have hdone : MailboxOnly q s (u.bumpW (R.MBX_QP_DONE q)) := h.bumpW (qpReg_block hq (by decide)) 1
  by_cases hdead : (u.qpAt q).dead = true
  · rw [deliverCpl_of_dead hdead]
    exact hdone.modQp _
  · have hlive : (u.qpAt q).dead = false := by simpa using hdead
    by_cases hfifo : u.qpMode q = 1
    · exact (hdone.fifoPut _).message (deliverCpl_of_fifo hlive hfifo)
    by_cases hwindow : u.qpMode q = 3
    · exact (hdone.windowPut (cplBytes_length _ _ _ _ _ _)).message (deliverCpl_of_window hlive hwindow)
    · exact (hdone.ringPut _).message (deliverCpl_of_ring hlive hfifo hwindow)

theorem settle (h : MailboxOnly q s u) (n : Nat) : MailboxOnly q s (u.settle q n) := by
  induction n generalizing u with
  | zero => exact h
  | succ n ih =>
    simp only [State.settle]
    repeat' split
    · exact ih ((h.modQp _).deliverCpl hq _ _ _)
    · exact h
    · exact h

theorem submit (h : MailboxOnly q s u) (c : Cmd) : MailboxOnly q s (u.submit q c) := (h.touched.modQp _).settle hq _

theorem z2Push (h : MailboxOnly q s u) (x : Nat) (ind : Option (List Nat)) : MailboxOnly q s (u.z2Push q x ind) := by
  have htaken := h.windowTaken x
  have hcounted : MailboxOnly q s (u.pushCounted q x) := htaken.bumpW (by decide) 1
  rw [z2Push_eq]
  repeat' split
  · exact htaken
  · exact hcounted
  · exact (hcounted.modQp _).raise _ _
  · exact (htaken.setBit (qpReg_block hq (by decide)) _ _).raiseCount _ _ _
  · exact (htaken.indFetch _ _).submit hq _

theorem z2Pop (h : MailboxOnly q s u) : MailboxOnly q s (u.z2Pop q) := by
  unfold State.z2Pop
  split
  · exact (h.modQp _).settle hq _
  · exact h

theorem z3Tail (h : MailboxOnly q s u) (x : Nat) : MailboxOnly q s (u.z3Tail q x) := by
  unfold State.z3Tail
  repeat' split
  · exact h.modQp _
  · exact h.setBit (qpReg_block hq (by decide)) _ _
  · exact (h.setN (qpReg_block hq (by decide)) _).modQp _

theorem z3Head (h : MailboxOnly q s u) (x : Nat) : MailboxOnly q s (u.z3Head q x) := by
  unfold State.z3Head
  repeat' split
  · exact h.modQp _
  · exact h.setBit (qpReg_block hq (by decide)) _ _
  · exact (h.setN (qpReg_block hq (by decide)) _).modQp _

theorem z3Fetch (h : MailboxOnly q s u) (msg ind : Option (List Nat)) : MailboxOnly q s (u.z3Fetch q msg ind) := by
  simp only [State.z3Fetch]
  repeat' split
  · exact h
  · exact ((h.emit _).setBit (qpReg_block hq (by decide)) _ _).modQp _
  · exact (((h.emit _).modQp _).indFetch _ _).submit hq _

theorem qpModeOff (h : MailboxOnly q s u) : MailboxOnly q s (u.qpModeOff q) := by
  have hcfg := h.setN (qpReg_block hq (by decide) : R.MBX_QP_CFG q / _ = _)
    (setBits (u.getN (R.MBX_QP_CFG q)) F.MBX_QP_CFG_MODE.lo F.MBX_QP_CFG_MODE.w 0)
  simp only [State.qpModeOff]
  split
  · exact hcfg.modQp _
  · exact hcfg

end

theorem qpDrainEnd (h : MailboxOnly q s u) : MailboxOnly q s (u.qpDrainEnd q) := by
  simp only [State.qpDrainEnd]
  split
  · exact h.modQp _
  · exact h

/-- A command of queue pair `q` changes no more than its effect does, and nothing where the part lacks the queue pair. -/
theorem of_onUnit {t : State} (h : q < 32 → MailboxOnly q s u) (ht : onUnit q 32 s (s.answer u) = .next t) :
    MailboxOnly q s t := by
  obtain hq | hq := Nat.lt_or_ge q 32
  · rw [onUnit_of_lt hq] at ht
    exact answer_eq_next ht ▸ (h hq).sealed
  · rw [onUnit_of_le hq] at ht
    exact Host.Outcome.next.inj ht ▸ refl

end MailboxOnly

end Sys2Proof.Machine

namespace Sys2Proof.Proofs
open Sys2Proof Sys2Proof.Machine

/-- Settles O46: each of the five rows goes through the gate of CONFIG alone. -/
theorem modeRefuses : Obligations.ModeRefuses := by
  unfold Obligations.ModeRefuses
  intro s q op i c hfront hmode hrow
  obtain ⟨rfl, rfl⟩ | ⟨rfl, rfl⟩ | ⟨rfl, rfl⟩ | ⟨rfl, rfl⟩ | ⟨rfl, rfl⟩ := hrow
  all_goals exact runs_refused rfl hfront hmode

/-- Settles O36: the write answers the record of the denial and nothing else. -/
theorem deniedWrites : Obligations.DeniedWrites := by
  unfold Obligations.DeniedWrites
  intro s off v full hdeny hoff
  obtain ⟨haddr, hcount, hother⟩ := denyWrite_reads s off
  refine ⟨s.seal (s.writeReg .host off v full), rfl, ?_⟩
  rw [writeReg_denied v full hdeny hoff]
  exact ⟨haddr, hcount, hother, rfl, rfl, rfl, rfl, rfl, rfl, rfl, rfl⟩

/-- Settles O35: in each generation the completion is placed, and the message after it touches neither the queue pair, nor host
memory, nor MBX_Z1_CTL. -/
theorem completionPlaces : Obligations.CompletionPlaces := by
  unfold Obligations.CompletionPlaces
  intro s q c status res hdead
  refine ⟨fun hmode => ?fifo, fun hmode j hj => ?ring, fun hmode => ?window⟩
  case fifo =>
    rw [(deliverCpl_of_fifo hdead hmode).qpAt, fifoPut_qpAt]
    rfl
  case ring =>
    have hput := deliverCpl_of_ring (c := c) (status := status) (res := res) hdead (by omega) (by omega)
    rw [hput.hostOut, ringPut_hostOut, bumpDone_cqSlot]
    have hin := memWrite_in s.hostOut (s.cqSlot q) (s.cqSlot q + j)
      (cplBytes c status (s.qpAt q).phase (s.bit R.SYS_MODE F.SYS_MODE_LIMITED) (s.qpAt q).head res) (by omega)
      (by rw [cplBytes_length]; omega)
    rw [Nat.add_sub_cancel_left] at hin
    exact hin
  case window =>
    rw [bit_congr _ ((deliverCpl_of_window hdead hmode).get _ (by decide))]
    exact State.bit_setBit _ _ _ _ (by decide) (by decide)

/-- Settles O34: each row's effect changes its queue pair or vector, the registers it names and the trace. -/
theorem hostQueueRows : Obligations.HostQueueRows := by
  unfold Obligations.HostQueueRows
  refine ⟨fun s irq ind c hmode hst hsq hgo hc hpre => ?go, fun s q v ind c hq hmode hst hsq hready hc hpre => ?push,
    fun s q v ind hq hmode hst hready hfull => ?full, fun s q e rest hq hmode hcq hsq => ?pop,
    fun s q v hq hready hv => ?tail, fun s q v hq hready hv => ?head, fun s q v i hq hready hv hi => ?outside,
    fun s q m ind c hq hmode hst hstop hready hdue hroom hsq hc hpre => ?fetch, fun s q hq hst => ?off,
    fun s q hq hst hsq hcur => ?drained, fun s v d hv hdue hready hen hfun hvec => ?sent,
    fun s v d hv hdue hready hen hmask => ?held, fun s d hdiag => ?timeout⟩
  case go =>
    subst hc
    obtain ⟨hqp, hregs, hframe⟩ := indFetch_submit (s := s) (t := s.goSet irq) (q := 0)
      (c := s.cmdOf s.now s.z1Msg 56 ind) (bit_congr F.MBX_QP_CFG_NS (goSet_get s irq (by decide)))
      ⟨rfl, rfl, rfl, rfl, rfl, rfl, rfl⟩ hsq hpre s.z1Msg
    rw [← z1Go_of_idle hmode hst hgo] at hqp hregs hframe
    have hget (a : Nat) : (s.z1Go irq ind).get a = (s.goSet irq).get a := congrArg (cellGet regReset · a) hregs
    exact ⟨_, rfl, congrArg Qp.sq hqp, (bit_congr _ (hget _)).trans (goSet_go s irq),
      (bit_congr _ (hget _)).trans (goSet_irq s irq), hframe⟩
  case push =>
    subst hc
    have hqp := windowTaken_qpAt s q v
    obtain ⟨hend, hregs, hframe⟩ := indFetch_submit (s := s) (t := s.windowTaken q v)
      (c := s.cmdOf s.now (s.windowMsg q v) 56 ind) rfl (windowTaken_frame s q v)
      ((congrArg Qp.sq hqp).trans hsq) hpre (s.windowMsg q v)
    rw [← z2Push_of_room hmode hst hready (by simp [hsq])] at hend hregs hframe
    exact .of_onUnit rfl hq ⟨congrArg Qp.sq hend, (congrArg Qp.asm hend).trans (congrArg Qp.asm hqp), hregs, hframe⟩
  case full =>
    refine .of_onUnit rfl hq ?_
    obtain ⟨hmode', hchip, -⟩ := pushDropped_stillMem s q v
    rw [z2Push_of_full hmode hst hready hfull, State.seal_bit, State.seal_qpAt, State.seal_mode, State.seal_chip, State.seal_out]
    exact ⟨pushDropped_ovf s q v, pushDropped_sq s q v, hmode', hchip, pushDropped_out s q v⟩
  case pop =>
    refine .of_onUnit rfl hq ?_
    rw [z2Pop_of_nil hsq, if_pos hmode]
    refine ⟨?_, rfl, rfl, rfl, rfl, rfl, rfl, rfl, rfl⟩
    simp [hcq]
  case tail =>
    have hsize := ringSize_le s q
    refine .of_onUnit rfl hq ?_
    rw [z3Tail_of_lt hready hv]
    refine ⟨(State.getN_setN s _ v).trans (Nat.mod_eq_of_lt (by omega)), ?_, rfl, rfl, rfl, rfl, rfl, rfl, rfl⟩
    simp
  case head =>
    have hsize := ringSize_le s q
    refine .of_onUnit rfl hq ?_
    rw [z3Head_of_lt hready hv]
    refine ⟨(State.getN_setN s _ v).trans (Nat.mod_eq_of_lt (by omega)), ?_, rfl, rfl, rfl, rfl, rfl, rfl, rfl⟩
    rw [State.seal_qpAt, State.qpAt_mod, State.setN_qpAt]
  case outside =>
    have hflag : (s.setBit (R.MBX_QP_STAT q) F.MBX_QP_STAT_DB_ERR true).bit (R.MBX_QP_STAT q) F.MBX_QP_STAT_DB_ERR = true :=
      State.bit_setBit _ _ _ _ (by decide) (by decide)
    obtain rfl | rfl := hi
    · refine .of_onUnit rfl hq ?_
      rw [z3Tail_of_le hready hv]
      exact ⟨hflag, rfl, rfl, rfl, rfl, rfl, rfl, rfl, rfl⟩
    · refine .of_onUnit rfl hq ?_
      rw [z3Head_of_le hready hv]
      exact ⟨hflag, rfl, rfl, rfl, rfl, rfl, rfl, rfl, rfl⟩
  case fetch =>
    subst hc
    have hqp := slotTaken_qpAt s q
    obtain ⟨hend, hregs, hframe⟩ := indFetch_submit (s := s.emit (s.sqRequest q)) (t := s.slotTaken q)
      (c := s.cmdOf (s.doorSeen q) (entryMsg m) 248 ind) rfl ⟨rfl, rfl, rfl, rfl, rfl, rfl, rfl⟩
      ((congrArg Qp.sq hqp).trans hsq) hpre (entryMsg m)
    rw [← z3Fetch_of_due hmode hst hstop hready hdue hroom] at hend hregs hframe
    exact .of_onUnit rfl hq ⟨congrArg Qp.sq hend, (congrArg Qp.head hend).trans (congrArg Qp.head hqp), hregs, hframe⟩
  case off =>
    refine .of_onUnit rfl hq ?_
    rw [qpModeOff_of_active hst]
    refine ⟨?_, ?_, State.fld_setFld _ _ _ _ (by decide), rfl, rfl, rfl, rfl, rfl, rfl, rfl⟩
    all_goals simp
  case drained =>
    refine .of_onUnit rfl hq ?_
    rw [qpDrainEnd_of_empty hst hsq hcur]
    refine ⟨?_, ?_, rfl, rfl, rfl, rfl, rfl, rfl, rfl, rfl⟩
    all_goals simp
  case sent =>
    refine .of_onUnit rfl hv ?_
    rw [msixCoalesceExpiry_of_due hdue, msixSend_of_unmasked (s := s.advTo d) hready hen hfun hvec]
    refine ⟨⟨rfl, rfl, rfl⟩, rfl, rfl, ?_, rfl⟩
    rw [State.seal_vecAt]
    exact congrArg Vec.due (vecSent_vecAt (s.advTo d) v)
  case held =>
    refine .of_onUnit rfl hv ?_
    rw [msixCoalesceExpiry_of_due hdue, msixSend_of_masked (s := s.advTo d) hready hen hmask]
    exact ⟨⟨rfl, rfl, rfl⟩, rfl, State.bit_setBit _ _ _ _ (by simp only []; omega) Nat.one_pos, rfl⟩
  case timeout =>
    refine ⟨s.seal s.diagTimeout, rfl, ?_⟩
    obtain ⟨regs, hclosed⟩ := diagClose_regsOnly (s.advTo d)
    rw [diagTimeout_of_some hdiag, hclosed]
    exact ⟨rfl, rfl, rfl, rfl, rfl⟩

/-- Settles O55: a push meets the checks of R430 in their order, and a full completion FIFO hides the head command. -/
theorem fifoRules : Obligations.FifoRules := by
  unfold Obligations.FifoRules
  refine ⟨fun s q v ind hq hmode hst hready hfull hroom => ?full, fun s q v ind hq hmode hst hready hroom => ?early,
    fun s q op f hmode hfull => take_of_cqFull hmode hfull, fun s q hq hcq hsq => ?empty⟩
  case full =>
    refine .of_onUnit rfl hq ?_
    rw [z2Push_of_full hmode hst hready hfull, seal_stillMem, State.seal_bit, State.seal_qpAt, State.seal_evFifo]
    exact ⟨pushDropped_stillMem s q v, pushDropped_sq s q v, pushDropped_ovf s q v, pushDropped_evFifo v hroom⟩
  case early =>
    refine .of_onUnit rfl hq ?_
    rw [z2Push_of_early hmode hst hready, seal_stillMem, State.seal_qpAt, State.seal_getN, State.seal_evFifo]
    cases hearly : (s.qpAt q).early with
    | true =>
      rw [if_pos rfl, pushCounted_qpAt]
      exact ⟨pushCounted_stillMem s q v, rfl, hearly, pushCounted_count s q v, fun _ => rfl, nofun⟩
    | false =>
      rw [if_neg Bool.false_ne_true, pushEarly_qpAt]
      exact ⟨pushEarly_stillMem s q v, rfl, rfl, pushEarly_count s q v, nofun, fun _ => pushEarly_evFifo v hroom⟩
  case empty =>
    refine .of_onUnit rfl hq ?_
    rw [z2Pop_of_nil hsq]
    split
    · refine ⟨?_, rfl, rfl, rfl, rfl, rfl, rfl, rfl, rfl⟩
      rw [State.seal_qpAt, State.qpAt_mod, hcq, List.drop_nil, ← hcq]
    · exact ⟨rfl, rfl, rfl, rfl, rfl, rfl, rfl, rfl, rfl⟩

/-- Settles O59: each of the rows answers an effect that is `MailboxOnly`. -/
theorem mailboxFrame : Obligations.MailboxFrame := by
  unfold Obligations.MailboxFrame
  intro c s t q hc ht
  have honly : MailboxOnly q s t := by
    obtain ⟨v, ind, rfl⟩ | rfl | ⟨v, rfl⟩ | ⟨v, rfl⟩ | ⟨m, ind, rfl⟩ | rfl | rfl := hc
    · exact .of_onUnit (fun hq => MailboxOnly.refl.z2Push hq v ind) ht
    · exact .of_onUnit (fun hq => MailboxOnly.refl.z2Pop hq) ht
    · exact .of_onUnit (fun hq => MailboxOnly.refl.z3Tail hq v) ht
    · exact .of_onUnit (fun hq => MailboxOnly.refl.z3Head hq v) ht
    · exact .of_onUnit (fun hq => MailboxOnly.refl.z3Fetch hq m ind) ht
    · exact .of_onUnit (fun hq => MailboxOnly.refl.qpModeOff hq) ht
    · exact .of_onUnit (fun _ => MailboxOnly.refl.qpDrainEnd) ht
  exact ⟨honly.qps, honly.enc, honly.rows, honly.ports, honly.planes, honly.chans, honly.mode, honly.chip, honly.dram,
    honly.dt, honly.get⟩

end Sys2Proof.Proofs
end

section
/-! PROOFS. The flash: FW_UPDATE alone writes it, and of the two slots only the one that does not run. -/
namespace Sys2Proof.Machine

/-- A sealed answer has the flash of the state it was given in, but where FW_UPDATE answers (R481, R540). -/
theorem Sealed.flash {c : Instr} {s t : State} (h : Sealed c s t) :
    t.flash = s.flash ∨ ∃ q data, c = .fwUpdate q data ∧ t.flash = s.flashAfter q data := by
  cases c
  case fwUpdate q data =>
    obtain ⟨u, rfl | rfl⟩ := h
    · exact .inl rfl
    · exact .inr ⟨q, data, rfl, rfl⟩
  all_goals
    obtain ⟨u, rfl⟩ := h
    exact .inl rfl

theorem leBytes_length (k v : Nat) : (leBytes k v).length = k := by
  induction k generalizing v with
  | zero => rfl
  | succ k ih => rw [leBytes, List.length_cons, ih]

section
variable {s : State} {c : Cmd} {data : Option (List Nat)} {img : List Nat}

/-- An image that passes has at least a header and fits in a slot (R481, R540). -/
theorem fwImage_length_le (h : s.fwImage c data = some img) : img.length ≤ 0x800000 := by
  unfold State.fwImage at h
  cases data with
  | none => cases h
  | some d =>
    dsimp only at h
    split at h
    · cases h
    · next hok =>
      cases h
      simp only [List.length_append, List.length_take, List.length_drop, leBytes_length, List.length_replicate]
      omega

/-- FW_UPDATE leaves the flash, or writes an image to the slot that does not run (R481). -/
theorem flashAfter_cases (s : State) (q : Nat) (data : Option (List Nat)) : s.flashAfter q data = s.flash ∨
    ∃ img, img.length ≤ 0x800000 ∧ s.flashAfter q data = memWrite s.flash (slotBase (1 - s.runSlot)) img := by
  unfold State.flashAfter
  cases s.headCmd q with
  | none => exact .inl rfl
  | some c =>
    dsimp only
    split
    · cases himg : s.fwImage c data with
      | none => exact .inl rfl
      | some img => exact .inr ⟨img, fwImage_length_le himg, rfl⟩
    · exact .inl rfl

/-- What a command does to the flash: nothing, or an image in the slot that does not run (R481). -/
theorem exec_flash_cases {c : Instr} {s t : State} (h : exec c s = .next t) : t.flash = s.flash ∨
    ∃ img, img.length ≤ 0x800000 ∧ t.flash = memWrite s.flash (slotBase (1 - s.runSlot)) img := by
  obtain hkept | ⟨q, data, -, hafter⟩ := (exec_sealed c s t h).flash
  · exact .inl hkept
  · rw [hafter]
    exact flashAfter_cases s q data

/-- What a step does to the flash: nothing, or an image in the slot that does not run (R481). -/
theorem step_flash_cases {s t : State} (h : step s = .next t) : t.flash = s.flash ∨
    ∃ img, img.length ≤ 0x800000 ∧ t.flash = memWrite s.flash (slotBase (1 - s.runSlot)) img := by
  unfold step at h
  split at h
  · have hexec := exec_flash_cases h
    exact hexec
  · cases h
    exact .inl rfl

/-- SLOT names one of two slots (R541). -/
theorem runSlot_lt (s : State) : s.runSlot < 2 := fld_lt s _ _

end
end Sys2Proof.Machine

namespace Sys2Proof.Proofs
open Sys2Proof Sys2Proof.Machine

/-- Settles O4: every next state is sealed, and the seal keeps the flash of every command but FW_UPDATE. -/
theorem flashWrittenByUpdateOnly : Obligations.FlashWrittenByUpdateOnly := by
  unfold Obligations.FlashWrittenByUpdateOnly
  intro c s t hc h
  obtain hkept | ⟨q, data, hupdate, -⟩ := (exec_sealed c s t h).flash
  · exact hkept
  · exact absurd hupdate (hc q data)

/-- Settles O5: a step that writes the flash writes an image of at most 8 MiB to the other of the two slots. -/
theorem runningSlotNeverWritten : Obligations.RunningSlotNeverWritten := by
  unfold Obligations.RunningSlotNeverWritten
  intro s t a h hlo hhi
  obtain hkept | ⟨img, hlen, hwrite⟩ := step_flash_cases h
  · rw [hkept]
  · have hslot := runSlot_lt s
    rw [hwrite]
    refine memWrite_out s.flash _ a img ?_
    simp only [slotBase] at hlo hhi ⊢
    omega

/-- Settles O6: a step leaves the flash or writes bytes to it, and a write keeps the canonical form. -/
theorem flashStaysCanonical : Obligations.FlashStaysCanonical := by
  unfold Obligations.FlashStaysCanonical
  intro s t hinv h
  unfold State.FlashInv
  obtain hkept | ⟨img, -, hwrite⟩ := step_flash_cases h
  · rw [hkept]
    exact hinv
  · rw [hwrite]
    exact memWrite_wf s.flash _ img hinv

end Sys2Proof.Proofs
end

section
/-! PROOFS. Zielo commands: how a row takes the command at the front of its queue pair, and what a completion and a wait leave. -/
namespace Sys2Proof.Machine

theorem taken_stillMem (s : State) (q : Nat) : StillMem s (s.taken q) := ⟨rfl, rfl, rfl, rfl, rfl⟩

/-! What the effect of a command leaves of its queue pair. -/

/-- From `s` to `u` the command at the front of queue pair `q` was taken, and neither the queue pair nor LIMITED has changed
beyond that. -/
structure Taken (q : Nat) (s u : State) : Prop where
  qp : u.qpAt q = (s.taken q).qpAt q
  limited : u.limited = s.limited

namespace Taken

variable {q : Nat} {s u : State}

theorem refl : Taken q s (s.taken q) := ⟨rfl, rfl⟩

theorem set (h : Taken q s u) {a : Nat} (ha : a ≠ R.SYS_MODE) (v : BitVec 32) : Taken q s (u.set a v) :=
  { h with limited := (bit_congr F.SYS_MODE_LIMITED (State.get_set_ne u a R.SYS_MODE v ha)).trans h.limited }

theorem setN (h : Taken q s u) {a : Nat} (ha : a ≠ R.SYS_MODE) (v : Nat) : Taken q s (u.setN a v) := h.set ha _

theorem modPlane (h : Taken q s u) (p : Nat) (f : Plane → Plane) : Taken q s (u.modPlane p f) := { h with }

end Taken

/-! What a command that completes leaves. -/

/-- `t` is the answer in `s` of command `c` of queue pair `q`, which completed with `status` and `res` after the effect `u`: from
`u` on only registers of the mailbox block, queue pairs, vectors, the trace and the time of the last command have changed. -/
structure Completed (s u t : State) (q : Nat) (c : Cmd) (status : Nat) (res : List Nat) : Prop where
  answered : Answered s t q c status res
  eq : ∃ regs qps vecs out since, t = s.seal { u with
    regs := regs, qps := qps, vecs := vecs, out := out, pw := { u.pw with idleSince := since } }
  get : ∀ a, a / 0x100000 ≠ 13 → t.get a = u.get a

namespace Completed

variable {s u t : State} {q : Nat} {c : Cmd} {status : Nat} {res : List Nat}

theorem mode (h : Completed s u t q c status res) : t.mode = u.mode := by
  obtain ⟨-, ⟨_, _, _, _, _, rfl⟩, -⟩ := h
  rfl

theorem mem (h : Completed s u t q c status res) : t.chip = u.chip ∧ t.dram = u.dram ∧ t.hostOut = u.hostOut := by
  obtain ⟨-, ⟨_, _, _, _, _, rfl⟩, -⟩ := h
  exact ⟨rfl, rfl, rfl⟩

theorem stillMem (h : Completed s u t q c status res) (hu : StillMem s u) : StillMem s t := by
  obtain ⟨-, ⟨_, _, _, _, _, rfl⟩, -⟩ := h
  exact hu

theorem planeAt (h : Completed s u t q c status res) (p : Nat) : t.planeAt p = u.planeAt p := by
  obtain ⟨-, ⟨_, _, _, _, _, rfl⟩, -⟩ := h
  rfl

theorem diag (h : Completed s u t q c status res) : t.diag = u.diag := by
  obtain ⟨-, ⟨_, _, _, _, _, rfl⟩, -⟩ := h
  rfl

theorem pw (h : Completed s u t q c status res) : ∃ since, t.pw = { u.pw with idleSince := since } := by
  obtain ⟨-, ⟨_, _, _, _, since, rfl⟩, -⟩ := h
  exact ⟨since, rfl⟩

theorem getN (h : Completed s u t q c status res) {a : Nat} (ha : a / 0x100000 ≠ 13) : t.getN a = u.getN a :=
  congrArg BitVec.toNat (h.get a ha)

theorem fld (h : Completed s u t q c status res) {a : Nat} (ha : a / 0x100000 ≠ 13) (f : Fld) : t.fld a f = u.fld a f :=
  congrArg (bits · f.lo f.w) (h.getN ha)

theorem bit (h : Completed s u t q c status res) {a : Nat} (ha : a / 0x100000 ≠ 13) (f : Fld) : t.bit a f = u.bit a f :=
  bit_congr f (h.get a ha)

end Completed

section
variable {s u : State} {q op : Nat} {c : Cmd}

theorem taken_qpAt_of_front (h : Front s q op c) : (s.taken q).qpAt q = { s.qpAt q with sq := [] } := by
  obtain ⟨-, hsq, -⟩ := h
  rw [taken_qpAt, hsq]
  rfl

/-- A command of a queue pair of generation Z2 that has no other: its completion goes to the FIFO, and then its message (R429,
R436). -/
theorem finish_messageOnly (status : Nat) (res : List Nat) (hdead : (u.qpAt q).dead = false) (hmode : u.qpMode q = 1)
    (hsq : (u.qpAt q).sq = []) : MessageOnly ((u.touched.bumpW (R.MBX_QP_DONE q)).fifoPut q
      (cplBytes c status false u.limited 0 res)) (u.finish q c status res) := by
  have hput := deliverCpl_of_fifo (s := u.touched) (c := c) (status := status) (res := res) hdead hmode
  have hqp := (hput.qpAt q).trans (fifoPut_qpAt _ q _)
  have hend : u.finish q c status res = u.touched.deliverCpl q c status res :=
    settleQp_of_nil ((congrArg Qp.sq hqp).trans hsq)
  rw [touched_qpAt, hsq] at hput
  rw [hend]
  exact hput

/-- The command at the front completes after an effect that left its queue pair alone (R422, R429). -/
theorem Taken.finish (h : Taken q s u) (hfront : Front s q op c) (status : Nat) (res : List Nat) :
    Completed s u (s.seal (u.finish q c status res)) q c status res := by
  have hqp := h.qp.trans (taken_qpAt_of_front hfront)
  obtain ⟨hq, -, hcur, -, hgen, hdead, -⟩ := hfront
  have hput := finish_messageOnly (c := c) status res ((congrArg Qp.dead hqp).trans hdead)
    ((congrArg Qp.mode hqp).trans hgen) (congrArg Qp.sq hqp)
  rw [h.limited] at hput
  refine ⟨?answered, ?eq, fun a ha => ?get⟩
  case answered =>
    have hend : (u.finish q c status res).qpAt q =
        { u.qpAt q with cq := (u.qpAt q).cq ++ [cplBytes c status false s.limited 0 res] } :=
      (hput.qpAt q).trans (fifoPut_qpAt _ q _)
    unfold Answered
    rw [State.seal_qpAt, hend, hqp]
    exact ⟨rfl, hcur, rfl⟩
  case eq =>
    obtain ⟨⟨regs, vecs, out, hmsg⟩, -⟩ := hput
    rw [hmsg]
    exact ⟨_, _, _, _, _, rfl⟩
  case get =>
    refine (hput.get a ?_).trans (State.get_set_ne u _ a _ ?_)
    · simp only [R.MBX_MSIX_PBA]
      omega
    · simp only [R.MBX_QP_DONE]
      omega

/-- The command at the front waits after an effect that left its queue pair alone (R451). -/
theorem hold_waits (hqp : u.qpAt q = (s.taken q).qpAt q) (hfront : Front s q op c) (w : Wait) :
    Waits s (s.seal (u.hold q c w)) q c w := by
  unfold Waits
  rw [State.seal_qpAt, State.hold, State.qpAt_mod, hqp, taken_qpAt_of_front hfront]
  exact ⟨rfl, rfl, rfl⟩

/-! How a row runs. -/

variable {i : Instr} {len status : Nat} {modes : List Mode} {res : List Nat} {w : Wait} {P : State → Prop}

/-- A row runs on the command at the front of its queue pair (R427). -/
theorem runs_taken {f : State → Cmd → State} (hrow : exec i s = onUnit q 32 s (s.answer (s.take q op f)))
    (hfront : Front s q op c) (hP : P (s.seal (f (s.taken q) c))) : Runs i s P := by
  refine .of_onUnit hrow hfront.1 ?_
  rwa [take_of_front hfront]

section
variable {f : State → Cmd → State} (hrow : exec i s = onUnit q 32 s (s.answer (s.take q op f)))
  (hfront : Front s q op c)
include hrow hfront

/-- A row that completes its command after the effect `u`. -/
theorem row_completes (hu : Taken q s u) (hrun : f (s.taken q) c = u.finish q c status res)
    (hP : ∀ t, Completed s u t q c status res → P t) : Runs i s P :=
  runs_taken hrow hfront (hrun ▸ hP _ (hu.finish hfront status res))

/-- A row whose command waits after the effect `u` (R451). -/
theorem row_waits (hqp : u.qpAt q = (s.taken q).qpAt q) (hrun : f (s.taken q) c = u.hold q c w)
    (hP : Waits s (s.seal (u.hold q c w)) q c w → P (s.seal (u.hold q c w))) : Runs i s P :=
  runs_taken hrow hfront (hrun ▸ hP (hold_waits hqp hfront w))

end

section
variable {g : Cmd → State → State}
  (hrow : exec i s = onUnit q 32 s (s.answer (s.take q op (fun s c => s.gate q c modes len (g c)))))
  (hfront : Front s q op c) (hmode : s.cmdMode ∈ modes) (hlen : len ≤ c.args.length)
include hrow hfront hmode hlen

/-- A command in a mode that carries it out, with its arguments, completes after the effect `u` (R425). -/
theorem gated_completes (hu : Taken q s u) (hrun : g c (s.taken q) = u.finish q c status res)
    (hP : ∀ t, Completed s u t q c status res → P t) : Runs i s P :=
  row_completes hrow hfront hu ((gate_pass (s.taken q) q c modes len (g c) hmode hlen).trans hrun) hP

/-- A command in a mode that carries it out, with its arguments, waits after the effect `u` (R425, R451). -/
theorem gated_waits (hqp : u.qpAt q = (s.taken q).qpAt q) (hrun : g c (s.taken q) = u.hold q c w)
    (hP : Waits s (s.seal (u.hold q c w)) q c w → P (s.seal (u.hold q c w))) : Runs i s P :=
  row_waits hrow hfront hqp ((gate_pass (s.taken q) q c modes len (g c) hmode hlen).trans hrun) hP

end

theorem mem_modesAll (m : Mode) : m ∈ modesAll := by
  cases m <;> decide

end
end Sys2Proof.Machine
end

section
/-! PROOFS. The commands of the device: information, status, modes, power policy and hints. -/
namespace Sys2Proof.Machine

/-! Numbers as bytes (R11). -/

theorem ofLe_leBytes (k v : Nat) : ofLe (leBytes k v) = v % 256 ^ k := by
  induction k generalizing v with
  | zero => simp [leBytes, ofLe, Nat.mod_one]
  | succ k ih => rw [leBytes, ofLe, ih, Nat.mod_mod, Nat.pow_succ', Nat.mod_mul]

/-- The first bytes of a list read as the number they were written from. -/
theorem leAt_leBytes_append (k v : Nat) (l : List Nat) : leAt (leBytes k v ++ l) 0 k = v % 256 ^ k := by
  rw [leAt, List.drop_zero, List.take_left' (leBytes_length k v), ofLe_leBytes]

theorem ofLe_lt (l : List Nat) : ofLe l < 256 ^ l.length := by
  induction l with
  | nil => decide
  | cons b l ih =>
    rw [ofLe, List.length_cons, Nat.pow_succ']
    omega

/-- A field of `k` bytes is below 256 to the `k` (R447). -/
theorem arg_lt (c : Cmd) (off k : Nat) : c.arg off k < 256 ^ k :=
  Nat.lt_of_lt_of_le (ofLe_lt _) (Nat.pow_le_pow_right (by decide) (List.length_take_le _ _))

/-! GET_INFO and GET_STATUS (R453, R455). -/

section
variable {s : State} {q : Nat} {c : Cmd}

/-- GET_INFO answers 24 bytes with the numbers of head ports and of GiB of DRAM in bytes 3 and 4 (R453). -/
theorem getInfo_eq (s : State) (q : Nat) (c : Cmd) : ∃ res, s.getInfo q c = s.finish q c stOk res ∧ res.length = 24 ∧
    leAt res 3 1 = s.part.ports ∧ leAt res 4 1 = s.part.dramGib := by
  refine ⟨_, rfl, ?_, ?_, ?_⟩
  · simp [leBytes_length]
  all_goals cases s.part <;> rfl

/-- GET_STATUS of a plane (R455). -/
theorem getStatus_of_plane (hobj : c.arg 0 1 = 1) (hplane : c.arg 1 1 < 8) :
    s.getStatus q c = s.finish q c stOk (s.statusOf 1 (c.arg 1 1)) := by
  simp [State.getStatus, hobj, show ¬ 7 < c.arg 1 1 by omega]

theorem taken_unserved (s : State) (q p : Nat) : (s.taken q).unserved p = s.unserved p := by
  unfold State.unserved
  rfl

/-- The status of a plane does not depend on the queue pairs. -/
theorem taken_statusOf (s : State) (q p : Nat) : (s.taken q).statusOf 1 p = s.statusOf 1 p := by
  simp only [State.statusOf, taken_unserved]
  rfl

/-! SET_MODE (R37, R42, R454). -/

/-- A device in CONFIG in which no mode change is under way may change mode (R42). -/
theorem not_changing (hmode : s.mode = .config) (hpark : s.pw.parkPend = false) (hwake : s.pw.wake = none)
    (hexit : s.pw.exiting = false) : s.changing = false := by
  simp [State.changing, hmode, hpark, hwake, hexit]

/-- `s` with FAULT_STOP cleared, as SET_MODE out of CONFIG leaves it (R37). -/
def State.unstopped (s : State) : State := s.setBit R.SYS_MODE F.SYS_MODE_FAULT_STOP false

theorem unstopped_limited (s : State) : s.unstopped.limited = s.limited :=
  State.bit_setFld_beside s _ (by decide) (by decide)

theorem unstopped_faultStop (s : State) : s.unstopped.bit R.SYS_MODE F.SYS_MODE_FAULT_STOP = false :=
  State.bit_setBit _ _ _ _ (by decide) (by decide)

theorem ne_service_of_config (hmode : s.mode = .config) : s.mode ≠ .service := by
  rw [hmode]
  decide

/-- Out of SERVICE a mode is entered at once (R37). -/
theorem enterMode_of_ne (m : Mode) (hmode : s.mode ≠ .service) :
    s.enterMode m = { s with mode := m, pw := { s.pw with idleSince := s.now, noJobAt := s.now, serviceAt := s.now } } := by
  simp [State.enterMode, hmode]

theorem Taken.unstopped {u : State} (h : Taken q s u) : Taken q s u.unstopped :=
  ⟨h.qp, (unstopped_limited u).trans h.limited⟩

theorem Taken.enterMode {u : State} (h : Taken q s u) (m : Mode) (hmode : u.mode ≠ .service) :
    Taken q s (u.enterMode m) := by
  rw [enterMode_of_ne m hmode]
  exact { h with }

/-- SET_MODE in BOOT (R454). -/
theorem setMode_of_boot (h : s.mode = .boot) : s.setMode q c = s.finish q c stNotReady := by
  simp [State.setMode, h]

section
variable (hargs : c.args ≠ []) (hmode : s.mode = .config) (hlimited : s.limited = false) (hpark : s.pw.parkPend = false)
  (hwake : s.pw.wake = none) (hexit : s.pw.exiting = false)
include hargs hmode hlimited hpark hwake hexit

/-- SET_MODE from CONFIG to SERVICE (R37, R454). -/
theorem setMode_service (harg : c.arg 0 1 = 3) :
    s.setMode q c = (s.unstopped.enterMode .service).finish q c stOk [3, 0] := by
  have hchanging := not_changing hmode hpark hwake hexit
  simp [State.setMode, harg, hmode, hlimited, hargs, hchanging, State.unstopped, Mode.code]

/-- SET_MODE from CONFIG to PRINT, where it may print (R37, R394, R454). -/
theorem setMode_print (harg : c.arg 0 1 = 2) (hmay : s.mayPrint = true) :
    s.setMode q c = (s.unstopped.repairWords.enterMode .print).hold q c (.mode .print) := by
  have hchanging := not_changing hmode hpark hwake hexit
  simp [State.setMode, harg, hmode, hlimited, hargs, hchanging, hmay, State.unstopped]

end

/-! What writes of Quill firmware leave as they are. -/

/-- From `s` to `u` neither the mode nor a queue pair has changed. -/
structure ModeQpsKept (s u : State) : Prop where
  mode : u.mode = s.mode
  qps : u.qps = s.qps

namespace ModeQpsKept

variable {u : State}

theorem refl : ModeQpsKept s s := ⟨rfl, rfl⟩

theorem setN (h : ModeQpsKept s u) (a v : Nat) : ModeQpsKept s (u.setN a v) := { h with }

theorem modPlane (h : ModeQpsKept s u) (p : Nat) (f : Plane → Plane) : ModeQpsKept s (u.modPlane p f) := { h with }

theorem emit (h : ModeQpsKept s u) (o : Output) : ModeQpsKept s (u.emit o) := { h with }

theorem chipWrite (h : ModeQpsKept s u) (a : Nat) (bs : List Nat) : ModeQpsKept s (u.chipWrite a bs) := { h with }

theorem raiseCount (h : ModeQpsKept s u) (code obj j : Nat) : ModeQpsKept s (u.raiseCount code obj j) := { h with }

theorem forEach {α : Type} {f : State → α → State} (hf : ∀ v x, ModeQpsKept s v → ModeQpsKept s (f v x)) (l : List α)
    (h : ModeQpsKept s u) : ModeQpsKept s (u.forEach l f) := by
  induction l generalizing u with
  | nil => exact h
  | cons x l ih => exact ih (hf u x h)

theorem regionDeny (h : ModeQpsKept s u) (m a : Nat) (write : Bool) (cause : Nat) :
    ModeQpsKept s (u.regionDeny m a write cause) := by
  have hdeny : ModeQpsKept s ((u.raiseCount 0x5005 m 16).setBit R.MEM_STAT F.MEM_STAT_DENY true) :=
    (h.raiseCount _ _ _).setN _ _
  simp only [State.regionDeny]
  refine ((((ModeQpsKept.setN ?_ _ _).setN _ _).setN _ _).setN _ _).setN _ _
  split
  · exact hdeny.setN _ _
  · exact hdeny

theorem quillWrite (h : ModeQpsKept s u) (a : Nat) (bs : List Nat) : ModeQpsKept s (u.quillWrite a bs) := by
  have hwrite : ModeQpsKept s (u.busWrite 0 a bs).2 := by
    simp only [State.busWrite]
    split
    · exact h.regionDeny _ _ _ _
    · simp only [State.tablesWritten]
      split
      · exact forEach (fun v p hv => hv.modPlane _ _) _ (h.chipWrite _ _)
      · exact h.chipWrite _ _
  simp only [State.quillWrite]
  split
  · exact hwrite
  · exact hwrite.emit _

/-- The words of the banks that Quill firmware writes anew before PRINT (R394). -/
theorem repairWords (h : ModeQpsKept s u) : ModeQpsKept s u.repairWords := forEach (fun _ _ hv => hv.quillWrite _ _) _ h

end ModeQpsKept

/-! POWER_POLICY and NEXT_EVENT_HINT (R471, R472). -/

/-- From `s` to `u` nothing has changed but zones and registers of blocks other than that of SYS_MODE. -/
structure LoopsOnly (s u : State) : Prop where
  eq : ∃ regs zones, u = { s with regs := regs, zones := zones }
  get : u.get R.SYS_MODE = s.get R.SYS_MODE

namespace LoopsOnly

variable {u : State}

theorem refl : LoopsOnly s s := ⟨⟨s.regs, s.zones, rfl⟩, rfl⟩

theorem setFld (h : LoopsOnly s u) {a : Nat} (ha : a ≠ R.SYS_MODE) (f : Fld) (v : Nat) : LoopsOnly s (u.setFld a f v) := by
  obtain ⟨⟨_, zones, rfl⟩, hget⟩ := h
  exact ⟨⟨_, zones, rfl⟩, (State.get_set_ne _ a _ _ ha).trans hget⟩

theorem setBit (h : LoopsOnly s u) {a : Nat} (ha : a ≠ R.SYS_MODE) (f : Fld) (b : Bool) : LoopsOnly s (u.setBit a f b) :=
  h.setFld ha _ _

theorem modZone (h : LoopsOnly s u) (n z : Nat) (f : Zone → Zone) : LoopsOnly s (u.modZone n z f) := by
  obtain ⟨⟨regs, _, rfl⟩, hget⟩ := h
  exact ⟨⟨regs, _, rfl⟩, hget⟩

theorem forEach {α : Type} {f : State → α → State} (hf : ∀ v x, LoopsOnly s v → LoopsOnly s (f v x)) (l : List α)
    (h : LoopsOnly s u) : LoopsOnly s (u.forEach l f) := by
  induction l generalizing u with
  | nil => exact h
  | cons x l ih => exact ih (hf u x h)

theorem loopSp (h : LoopsOnly s u) (n z sp : Nat) : LoopsOnly s (u.loopSp n z sp) := by
  have hcfg : R.DCT_LOOP_CFG n z ≠ R.SYS_MODE := by simp only [R.DCT_LOOP_CFG, R.SYS_MODE]; omega
  have hout : R.DCT_LOOP_OUT n z ≠ R.SYS_MODE := by simp only [R.DCT_LOOP_OUT, R.SYS_MODE]; omega
  have hset (en : Bool) (sp : Nat) := (h.setBit hcfg F.DCT_LOOP_CFG_EN en).setFld hcfg F.DCT_LOOP_CFG_SP sp
  simp only [State.loopSp, State.loopCfgWrite]
  repeat' split
  · exact ((hset _ _).setBit hcfg _ _).modZone _ _ _
  · exact hset _ _
  · exact (((hset _ _).setBit hcfg _ _).modZone _ _ _).setFld hout _ _
  · exact (hset _ _).setFld hout _ _

/-- The setpoints of every loop in use written (R471). -/
theorem spAll (s : State) (sp : Nat) : LoopsOnly s (s.spAll sp) :=
  forEach (fun _ _ h => forEach (fun _ _ h => h.loopSp _ _ _) _ h) _ refl

theorem stillMem (h : LoopsOnly s u) : StillMem s u := by
  obtain ⟨⟨_, _, rfl⟩, -⟩ := h
  exact ⟨rfl, rfl, rfl, rfl, rfl⟩

theorem pw (h : LoopsOnly s u) : u.pw = s.pw := by
  obtain ⟨⟨_, _, rfl⟩, -⟩ := h
  rfl

theorem taken {s₀ : State} (h : LoopsOnly s u) (hs : Taken q s₀ s) : Taken q s₀ u := by
  obtain ⟨⟨_, _, rfl⟩, hget⟩ := h
  exact ⟨hs.qp, (bit_congr _ hget).trans hs.limited⟩

end LoopsOnly

/-- `s` with the values of POWER_POLICY (R471). -/
def State.policySet (s : State) (c : Cmd) : State := s.modPw (fun p => { p with
  idleDelay := c.arg 0 4, maxSub := c.arg 4 1, defSub := min (c.arg 5 1) (c.arg 4 1), spPrint := c.arg 6 2, spWarm := c.arg 8 2 })

/-- POWER_POLICY in CONFIG writes the setpoints of PRINT (R471). -/
theorem powerPolicy_of_config (hmode : s.mode = .config) (hmax : c.arg 4 1 ≤ 3) (hdef : c.arg 5 1 ≤ 3) :
    s.powerPolicy q c = ((s.policySet c).spAll (c.arg 6 2)).finish q c stOk := by
  have hrun : ¬(3 < c.arg 4 1 ∨ 3 < c.arg 5 1) := by omega
  simp only [State.powerPolicy, if_neg hrun, State.modPw_mode, hmode]
  rfl

/-- `s` with the time that a hint names, or none (R472). -/
def State.hinted (s : State) (c : Cmd) : State :=
  s.modPw (fun p => { p with hint := if c.arg 0 8 = 0 then none else some (c.seen + 2000 * c.arg 0 8) })

end
end Sys2Proof.Machine

namespace Sys2Proof.Proofs
open Sys2Proof Sys2Proof.Machine

/-- Settles O45: each row takes its command, and its effect touches neither the queue pair nor LIMITED before the command
completes or waits. -/
theorem deviceCommands : Obligations.DeviceCommands := by
  unfold Obligations.DeviceCommands
  refine ⟨fun s q c hfront => ?info, fun s q c hfront hlen hobj hplane => ?status,
    fun s q c hfront hargs harg hmode hlimited hpark hwake hexit => ?service,
    fun s q c hfront hargs harg hmode hlimited hpark hwake hexit hmay => ?print, fun s q c hfront hmode => ?boot,
    fun s q c hfront hcmd hmode hlen hmax hdef => ?policy, fun s q c service hfront hcmd hlen => ?hint⟩
  case info =>
    obtain ⟨res, hrun, hreads⟩ := getInfo_eq (s.taken q) q c
    exact gated_completes rfl hfront (mem_modesAll _) (Nat.zero_le _) .refl hrun fun t ht =>
      ⟨⟨res, ht.answered, hreads⟩, ht.stillMem (taken_stillMem s q)⟩
  case status =>
    have hrun := getStatus_of_plane (s := s.taken q) (q := q) hobj hplane
    rw [taken_statusOf] at hrun
    exact gated_completes rfl hfront (mem_modesAll _) hlen .refl hrun fun t ht =>
      ⟨ht.answered, ht.stillMem (taken_stillMem s q)⟩
  case service =>
    have hrun := setMode_service (s := s.taken q) (q := q) hargs hmode hlimited hpark hwake hexit harg
    have hconfig : (s.taken q).unstopped.mode ≠ .service := ne_service_of_config hmode
    refine row_completes rfl hfront (Taken.refl.unstopped.enterMode .service hconfig) hrun fun t ht =>
      ⟨ht.mode, ht.answered, (ht.bit (by decide) _).trans ?_⟩
    rw [enterMode_of_ne .service hconfig]
    exact unstopped_faultStop (s.taken q)
  case print =>
    have hrun := setMode_print (s := s.taken q) (q := q) hargs hmode hlimited hpark hwake hexit harg hmay
    have hrepair := ModeQpsKept.refl (s := (s.taken q).unstopped).repairWords
    have hconfig : (s.taken q).unstopped.repairWords.mode ≠ .service :=
      ne_service_of_config (hrepair.mode.trans hmode)
    refine row_waits rfl hfront ?_ hrun fun ht => ⟨rfl, ht⟩
    rw [enterMode_of_ne .print hconfig]
    exact congrArg (cellGet (fun _ => {}) · q) hrepair.qps
  case boot =>
    have hrun := setMode_of_boot (s := s.taken q) (q := q) (c := c) hmode
    exact row_completes rfl hfront .refl hrun fun t ht => ⟨ht.answered, ht.stillMem (taken_stillMem s q)⟩
  case policy =>
    have hrun := powerPolicy_of_config (s := s.taken q) (q := q) hmode hmax hdef
    have hloops := LoopsOnly.spAll ((s.taken q).policySet c) (c.arg 6 2)
    have hmem : StillMem s (((s.taken q).policySet c).spAll (c.arg 6 2)) := hloops.stillMem
    refine gated_completes rfl hfront (by rw [hcmd]; decide) hlen (hloops.taken ⟨rfl, rfl⟩) hrun fun t ht => ?_
    obtain ⟨since, hpw⟩ := ht.pw
    rw [hloops.pw] at hpw
    rw [hpw]
    exact ⟨ht.answered, rfl, rfl, rfl, rfl, rfl, ht.stillMem hmem⟩
  case hint =>
    refine gated_completes rfl hfront hcmd hlen (u := (s.taken q).hinted c) ⟨rfl, rfl⟩ rfl fun t ht => ?_
    obtain ⟨since, hpw⟩ := ht.pw
    rw [hpw]
    exact ⟨⟨_, ht.answered⟩, ht.stillMem (taken_stillMem s q), rfl⟩

end Sys2Proof.Proofs
end

section
/-! PROOFS. The commands of planes: a plane defined, a screen and curves loaded into Bank S. -/
namespace Sys2Proof.Machine

theorem length_cellTake {α : Type} (d : Nat → α) (m : List (Nat × α)) (a k : Nat) : (cellTake d m a k).length = k := by
  induction k generalizing m a with
  | zero => cases m <;> rfl
  | succ k ih =>
    cases m with
    | nil => exact congrArg Nat.succ (ih _ _)
    | cons x m =>
      simp only [cellTake]
      split <;> exact congrArg Nat.succ (ih _ _)

theorem length_chipRead (s : State) (a k : Nat) : (s.chipRead a k).length = k :=
  (List.length_map ..).trans (length_cellTake ..)

/-- The bytes that a write through no window stores are those of the write (R381). -/
theorem map_aliasByte_plain (old bs : List Nat) (h : old.length = bs.length) :
    (old.zip bs).map (fun x => aliasByte 0 x.1 x.2) = bs.map (· % 256) := by
  induction old generalizing bs with
  | nil => rw [List.eq_nil_of_length_eq_zero h.symm]; rfl
  | cons x old ih =>
    cases bs with
    | nil => simp at h
    | cons b bs => simpa [aliasByte] using ih bs (by simpa using h)

theorem memWrite_mod (m : List Host.Cell) (a : Nat) (bs : List Nat) : memWrite m a (bs.map (· % 256)) = memWrite m a bs := by
  unfold memWrite
  rw [List.map_map]
  congr 1
  refine List.map_congr_left fun b _ => ?_
  apply BitVec.eq_of_toNat_eq
  simp

theorem chipWrite_mod (s : State) (a : Nat) (bs : List Nat) : s.chipWrite a (bs.map (· % 256)) = s.chipWrite a bs := by
  simp only [State.chipWrite, memWrite_mod, List.length_map]

/-- A write that its regions allow, through no window (R381, R388). -/
theorem busWrite_of_allowed {s : State} {m a : Nat} {bs : List Nat} (hallowed : s.refusal m a bs.length true = none)
    (hplain : a < 0x1000000) : s.busWrite m a bs = (true, (s.chipWrite a bs).tablesWritten a bs.length) := by
  have hbytes := map_aliasByte_plain (s.chipRead a bs.length) bs (length_chipRead s a bs.length)
  simp only [State.busWrite, hallowed, aliasOf, if_pos hplain, hbytes, chipWrite_mod]

/-! A table written: what it leaves as it is. -/

/-- From `v` to `u` only planes and the device's copy of its tables have changed. -/
def TablesOnly (v u : State) : Prop := ∃ planes tabCopy, u = { v with planes := planes, tabCopy := tabCopy }

namespace TablesOnly

variable {v u : State}

theorem refl : TablesOnly v v := ⟨v.planes, v.tabCopy, rfl⟩

theorem modPlane (h : TablesOnly v u) (p : Nat) (f : Plane → Plane) : TablesOnly v (u.modPlane p f) := by
  obtain ⟨_, tabCopy, rfl⟩ := h
  exact ⟨_, tabCopy, rfl⟩

theorem forEach {α : Type} {f : State → α → State} (hf : ∀ w x, TablesOnly v w → TablesOnly v (f w x)) (l : List α)
    (h : TablesOnly v u) : TablesOnly v (u.forEach l f) := by
  induction l generalizing u with
  | nil => exact h
  | cons x l ih => exact ih (hf u x h)

theorem tablesWritten (h : TablesOnly v u) (a k : Nat) : TablesOnly v (u.tablesWritten a k) := by
  unfold State.tablesWritten
  split
  · exact h.forEach (fun w p hw => hw.modPlane p _) _
  · exact h

theorem tabCopied (h : TablesOnly v u) (tabCopy : List Host.Cell) : TablesOnly v { u with tabCopy := tabCopy } := by
  obtain ⟨planes, _, rfl⟩ := h
  exact ⟨planes, tabCopy, rfl⟩

theorem taken {s : State} {q : Nat} (h : TablesOnly v u) (hv : Taken q s v) : Taken q s u := by
  obtain ⟨_, _, rfl⟩ := h
  exact ⟨hv.qp, hv.limited⟩

theorem mem (h : TablesOnly v u) : u.chip = v.chip ∧ u.mode = v.mode ∧ u.dram = v.dram ∧ u.hostOut = v.hostOut := by
  obtain ⟨_, _, rfl⟩ := h
  exact ⟨rfl, rfl, rfl, rfl⟩

theorem getN (h : TablesOnly v u) (a : Nat) : u.getN a = v.getN a := by
  obtain ⟨_, _, rfl⟩ := h
  rfl

end TablesOnly

/-- A table that Mbox may write is stored in Bank S (R395). -/
theorem tableLoad_of_allowed {s : State} {o : Nat} {bs : List Nat}
    (hallowed : s.refusal 1 (bankS + o) bs.length true = none) (hplain : o < 0x400000) :
    ∃ u, s.tableLoad o bs = (true, u) ∧ TablesOnly (s.chipWrite (bankS + o) bs) u := by
  have hwrite := busWrite_of_allowed hallowed (by simp only [bankS]; omega)
  unfold State.tableLoad
  rw [hwrite]
  exact ⟨_, rfl, (TablesOnly.refl.tablesWritten _ _).tabCopied _⟩

/-- What stands in the chip after a write of `d` at `a`. -/
theorem chipWrite_reads (s : State) (a : Nat) (d : List Nat) :
    (∀ j, j < d.length → cellGet byte0 (s.chipWrite a d).chip (a + j) = BitVec.ofNat 8 (d.getD j 0)) ∧
    (∀ b, (b < a ∨ a + d.length ≤ b) → cellGet byte0 (s.chipWrite a d).chip b = cellGet byte0 s.chip b) := by
  refine ⟨fun j hj => ?_, fun b hb => memWrite_out s.chip a b d hb⟩
  have hin := memWrite_in s.chip a (a + j) d (Nat.le_add_right a j) (Nat.add_lt_add_left hj a)
  rwa [Nat.add_sub_cancel_left] at hin

/-! The rows. -/

section
variable {s : State} {q : Nat} {c : Cmd} {d : List Nat}

/-- `s` with plane `p` of PLANE_DEFINE defined (R456). -/
def State.planeDefined (s : State) (c : Cmd) : State :=
  (((s.setN (R.SCR_PLANE_WIDTH (c.arg 0 1)) (c.arg 4 4)).setN (R.SCR_PLANE_TRC (c.arg 0 1)) (c.arg 8 2)).modPlane (c.arg 0 1)
    (fun x => { x with defined := true })).setN (R.DCT_PLANE_THROW (c.arg 0 1)) (c.arg 12 4)

theorem planeDefine_of_good (hplane : c.arg 0 1 < 8) (hop : c.arg 1 1 = 1) (hzero : c.arg 2 2 = 0) (hzero' : c.arg 10 2 = 0)
    (hgood : s.planeBad (c.arg 0 1) (c.arg 4 4) (c.arg 8 2) = false) (hjob : (s.planeAt (c.arg 0 1)).job = none) :
    s.planeDefine q c = (s.planeDefined c).finish q c stOk := by
  simp [State.planeDefine, State.planeDefined, hop, hzero, hzero', hgood, hjob, show ¬ 7 < c.arg 0 1 by omega]

/-- The registers of the plane that PLANE_DEFINE writes (R456). -/
theorem planeDefined_getN (s : State) (c : Cmd) :
    (s.planeDefined c).getN (R.SCR_PLANE_WIDTH (c.arg 0 1)) = c.arg 4 4 ∧
    (s.planeDefined c).getN (R.SCR_PLANE_TRC (c.arg 0 1)) = c.arg 8 2 ∧
    (s.planeDefined c).getN (R.DCT_PLANE_THROW (c.arg 0 1)) = c.arg 12 4 := by
  unfold State.planeDefined
  generalize c.arg 0 1 = p
  have htrc : R.SCR_PLANE_TRC p ≠ R.SCR_PLANE_WIDTH p := by simp only [R.SCR_PLANE_TRC, R.SCR_PLANE_WIDTH]; omega
  refine ⟨?_, ?_, (State.getN_setN ..).trans (Nat.mod_eq_of_lt (arg_lt c 12 4))⟩
  · rw [State.getN_setN_ne _ _ _ _ (by simp only [R.DCT_PLANE_THROW, R.SCR_PLANE_WIDTH]; omega), State.modPlane_getN,
      State.getN_setN_ne _ _ _ _ htrc, State.getN_setN]
    exact Nat.mod_eq_of_lt (arg_lt c 4 4)
  · rw [State.getN_setN_ne _ _ _ _ (by simp only [R.DCT_PLANE_THROW, R.SCR_PLANE_TRC]; omega), State.modPlane_getN,
      State.getN_setN]
    exact Nat.mod_eq_of_lt (Nat.lt_trans (arg_lt c 8 2) (by decide))

theorem planeDefined_planeAt (s : State) (c : Cmd) :
    (s.planeDefined c).planeAt (c.arg 0 1) = { s.planeAt (c.arg 0 1) with defined := true } := by
  unfold State.planeDefined
  rw [State.setN_planeAt, State.planeAt_mod]
  rfl

theorem Taken.planeDefined {u : State} (h : Taken q s u) (c : Cmd) : Taken q s (u.planeDefined c) := by
  refine (((h.setN ?_ _).setN ?_ _).modPlane _ _).setN ?_ _
  all_goals
    simp only [R.SCR_PLANE_WIDTH, R.SCR_PLANE_TRC, R.DCT_PLANE_THROW, R.SYS_MODE]
    omega

/-- `s` with slot `k` of the arrays naming the screen of SCREEN_LOAD (R459). -/
def State.arrayNamed (s : State) (c : Cmd) : State :=
  (s.setN (R.SCR_ARR_SIZE (c.arg 1 1)) (c.arg 4 2 + c.arg 6 2 * 65536)).setN (R.SCR_ARR_BASE (c.arg 1 1)) (c.arg 8 4)

theorem arrayNamed_size (s : State) (c : Cmd) :
    (s.arrayNamed c).getN (R.SCR_ARR_SIZE (c.arg 1 1)) = c.arg 4 2 + c.arg 6 2 * 65536 := by
  have hwidth := arg_lt c 4 2
  have hheight := arg_lt c 6 2
  unfold State.arrayNamed
  rw [State.getN_setN_ne _ _ _ _ (by simp only [R.SCR_ARR_BASE, R.SCR_ARR_SIZE]; omega), State.getN_setN]
  exact Nat.mod_eq_of_lt (by omega)

theorem Taken.arrayNamed {u : State} (h : Taken q s u) (c : Cmd) : Taken q s (u.arrayNamed c) := by
  refine (h.setN ?_ _).setN ?_ _
  all_goals
    simp only [R.SCR_ARR_SIZE, R.SCR_ARR_BASE, R.SYS_MODE]
    omega

/-- A screen is loaded where its regions allow (R459). -/
theorem screenLoad_of_allowed (hlen : 24 ≤ c.args.length) (hop : c.arg 0 1 = 1) (hslot : c.arg 1 1 < 8)
    (hzero : c.arg 2 2 = 0) (hwidth : c.arg 4 2 ≠ 0) (hwidth' : c.arg 4 2 ≤ 512) (hheight : c.arg 6 2 ≠ 0)
    (hheight' : c.arg 6 2 ≤ 512) (hfits : c.arg 4 2 * c.arg 6 2 * 4 + c.arg 8 4 ≤ 0x100000) (halign : c.arg 8 4 % 64 = 0)
    (hzero' : c.arg 12 4 = 0) (hfree : ∀ p, p < 8 → s.slotOf p ≠ c.arg 1 1 ∨ (s.planeAt p).job = none)
    (hsize : d.length = c.arg 4 2 * c.arg 6 2 * 4)
    (hallowed : s.refusal 1 (bankS + (0x100000 + c.arg 8 4)) d.length true = none) :
    ∃ u, TablesOnly (s.chipWrite (bankS + (0x100000 + c.arg 8 4)) d) u ∧ s.screenLoad q c (some d) =
      ((u.arrayNamed c).tablesWritten (bankS + 0x100000 + c.arg 8 4) (c.arg 4 2 * c.arg 6 2 * 4)).finish q c stOk := by
  have hwhole : (d ++ List.replicate (c.arg 4 2 * c.arg 6 2 * 4) 0).take (c.arg 4 2 * c.arg 6 2 * 4) = d := by
    rw [← hsize, List.take_left]
  have hargs : ¬(c.args.length < 24 ∨ 7 < c.arg 1 1 ∨ c.arg 2 2 ≠ 0 ∨ c.arg 4 2 = 0 ∨ 512 < c.arg 4 2 ∨ c.arg 6 2 = 0 ∨
      512 < c.arg 6 2 ∨ 0x100000 < c.arg 4 2 * c.arg 6 2 * 4 + c.arg 8 4 ∨ c.arg 8 4 % 64 ≠ 0 ∨ c.arg 12 4 ≠ 0) := by omega
  have hidle : (List.range 8).any (fun p => s.slotOf p = c.arg 1 1 && s.fmt p = 1 &&
      ((s.planeAt p).job.map (·.st)) = some .running) = false := by
    rw [List.any_eq_false]
    intro p hp
    rcases hfree p (List.mem_range.1 hp) with h | h <;> simp [h]
  obtain ⟨u, hload, hu⟩ := tableLoad_of_allowed hallowed (by omega)
  refine ⟨u, hu, ?_⟩
  simp only [State.screenLoad, hop, if_neg hargs, hidle, hwhole, hload]
  rfl

/-- Curves are loaded where their regions allow and no plane reads them (R460). -/
theorem trcLoad_of_allowed (hcount : c.arg 2 2 ≠ 0) (hfits : c.arg 0 2 + c.arg 2 2 ≤ 4096) (hzero : c.arg 4 4 = 0)
    (hundefined : ∀ p, p < 8 → (s.planeAt p).defined = false) (hsize : d.length = c.arg 2 2 * 256)
    (hallowed : s.refusal 1 (bankS + c.arg 0 2 * 256) d.length true = none) :
    ∃ u, TablesOnly (s.chipWrite (bankS + c.arg 0 2 * 256) d) u ∧ s.trcLoad q c (some d) = u.finish q c stOk := by
  have hwhole : (d ++ List.replicate (c.arg 2 2 * 256) 0).take (c.arg 2 2 * 256) = d := by
    rw [← hsize, List.take_left]
  have hcurves (p : Nat) (hp : p ∈ List.range 8) : s.curves p = none := by
    simp [State.curves, hundefined p (List.mem_range.1 hp)]
  obtain ⟨u, hload, hu⟩ := tableLoad_of_allowed hallowed (by omega)
  simp only [State.trcLoad]
  split
  next hbad =>
    rcases hbad with hbad | hbad | hbad | hbad | hsplit
    case inr.inr.inr.inr =>
      obtain ⟨p, hp, hp'⟩ := List.any_eq_true.1 hsplit
      rw [hcurves p hp] at hp'
      cases hp'
    all_goals omega
  next =>
    rw [hwhole, hload]
    refine ⟨_, ?_, rfl⟩
    exact hu.forEach (f := State.tableChanged) (fun w p hw => hw.modPlane p _) _

end
end Sys2Proof.Machine

namespace Sys2Proof.Proofs
open Sys2Proof Sys2Proof.Machine

/-- Settles O47: PLANE_DEFINE writes three registers of its plane; a load stores its bytes in Bank S and marks planes. -/
theorem planeCommands : Obligations.PlaneCommands := by
  unfold Obligations.PlaneCommands
  refine ⟨fun s q c hfront hmode hlen hplane hop hzero hzero' hgood hjob => ?define,
    fun s q c d hfront hmode hlen hop hslot hzero hwidth hwidth' hheight hheight' hfits halign hzero' hfree hsize hallowed => ?screen,
    fun s q c d hfront hmode hlen hcount hfits hzero hundefined hsize hallowed => ?curves⟩
  case define =>
    have hrun := planeDefine_of_good (s := s.taken q) (q := q) hplane hop hzero hzero' hgood hjob
    obtain ⟨hwidth, htrc, hthrow⟩ := planeDefined_getN (s.taken q) c
    refine gated_completes rfl hfront (by rw [hmode]; decide) hlen (Taken.refl.planeDefined c) hrun fun t ht =>
      ⟨ht.answered, ?_, (ht.getN (by simp only [R.SCR_PLANE_WIDTH]; omega)).trans hwidth,
        (ht.getN (by simp only [R.SCR_PLANE_TRC]; omega)).trans htrc,
        (ht.getN (by simp only [R.DCT_PLANE_THROW]; omega)).trans hthrow, ht.stillMem (taken_stillMem s q)⟩
    rw [ht.planeAt, planeDefined_planeAt]
  case screen =>
    obtain ⟨u, hu, hrun⟩ := screenLoad_of_allowed (s := s.taken q) (q := q) hlen hop hslot hzero hwidth hwidth' hheight
      hheight' hfits halign hzero' hfree hsize hallowed
    have hmarked := (TablesOnly.refl (v := u.arrayNamed c)).tablesWritten
      (bankS + 0x100000 + c.arg 8 4) (c.arg 4 2 * c.arg 6 2 * 4)
    refine gated_completes rfl hfront hmode (by omega) (hmarked.taken ((hu.taken ⟨rfl, rfl⟩).arrayNamed c)) hrun fun t ht => ?_
    obtain ⟨hchip, hmode', hdram, hhost⟩ := hu.mem
    obtain ⟨hchip', hmode'', hdram', hhost'⟩ := hmarked.mem
    obtain ⟨hin, hout⟩ := chipWrite_reads (s.taken q) (bankS + 0x100000 + c.arg 8 4) d
    rw [← Nat.add_assoc] at hchip
    obtain ⟨htchip, htdram, hthost⟩ := ht.mem
    rw [ht.mode, htchip, htdram, hthost, hchip', hmode'', hdram', hhost']
    refine ⟨ht.answered, ?_, fun j hj => ?_, fun a ha => ?_, hmode', hdram, hhost⟩
    · rw [ht.getN (by simp only [R.SCR_ARR_SIZE]; omega), hmarked.getN, arrayNamed_size]
    · exact (congrArg (cellGet byte0 · _) hchip).trans (hin j hj)
    · exact (congrArg (cellGet byte0 · _) hchip).trans (hout a ha)
  case curves =>
    obtain ⟨u, hu, hrun⟩ := trcLoad_of_allowed (s := s.taken q) (q := q) hcount hfits hzero hundefined hsize hallowed
    refine gated_completes rfl hfront hmode hlen (hu.taken ⟨rfl, rfl⟩) hrun fun t ht => ?_
    obtain ⟨hchip, hmode', hdram, hhost⟩ := hu.mem
    obtain ⟨hchip', hdram', hhost'⟩ := ht.mem
    obtain ⟨hin, hout⟩ := chipWrite_reads (s.taken q) (bankS + c.arg 0 2 * 256) d
    rw [ht.mode, hchip', hdram', hhost', hchip]
    exact ⟨ht.answered, hin, hout, hmode', hdram, hhost⟩

end Sys2Proof.Proofs
end

section
/-! PROOFS. The commands of jobs: opened, appended to, closed and aborted. -/
namespace Sys2Proof.Machine

/-! What the rows of jobs leave as it is. -/

/-- From `s` to `u` the command at the front of queue pair `q` was taken, and beyond that neither the queue pair nor LIMITED, nor
the mode, the memories or Device Time have changed. -/
structure TakenStill (q : Nat) (s u : State) : Prop extends Taken q s u where
  mem : StillMem s u

namespace TakenStill

variable {q : Nat} {s u : State}

theorem refl : TakenStill q s (s.taken q) := ⟨.refl, taken_stillMem s q⟩

theorem setN (h : TakenStill q s u) {a : Nat} (ha : a ≠ R.SYS_MODE) (v : Nat) : TakenStill q s (u.setN a v) :=
  ⟨h.toTaken.setN ha v, h.mem⟩

theorem setFld (h : TakenStill q s u) {a : Nat} (ha : a ≠ R.SYS_MODE) (f : Fld) (v : Nat) : TakenStill q s (u.setFld a f v) :=
  h.setN ha _

theorem setBit (h : TakenStill q s u) {a : Nat} (ha : a ≠ R.SYS_MODE) (f : Fld) (b : Bool) :
    TakenStill q s (u.setBit a f b) := h.setFld ha _ _

theorem set64 (h : TakenStill q s u) {lo hi : Nat} (hlo : lo ≠ R.SYS_MODE) (hhi : hi ≠ R.SYS_MODE) (v : Nat) :
    TakenStill q s (u.set64 lo hi v) := (h.setN hlo _).setN hhi _

theorem modPlane (h : TakenStill q s u) (p : Nat) (f : Plane → Plane) : TakenStill q s (u.modPlane p f) := { h with }

theorem modRow (h : TakenStill q s u) (i : Nat) (f : Row → Row) : TakenStill q s (u.modRow i f) := { h with }

theorem stored (h : TakenStill q s u) (l : List StoredJob) : TakenStill q s { u with stored := l } := { h with }

theorem modPw (h : TakenStill q s u) (f : Power → Power) : TakenStill q s (u.modPw f) := { h with }

theorem forEach {α : Type} {f : State → α → State} (hf : ∀ v x, TakenStill q s v → TakenStill q s (f v x)) (l : List α)
    (h : TakenStill q s u) : TakenStill q s (u.forEach l f) := by
  induction l generalizing u with
  | nil => exact h
  | cons x l ih => exact ih (hf u x h)

end TakenStill

/-- The rows are no part of a plane. -/
theorem forEach_modRow_planeAt (s : State) (l : List Nat) (f : Row → Row) (p : Nat) :
    (s.forEach l (fun s i => s.modRow i f)).planeAt p = s.planeAt p := by
  induction l generalizing s with
  | nil => rfl
  | cons i l ih => exact ih (s.modRow i f)

/-! JOB_OPEN (R461). -/

section
variable {s s₀ : State} {q p : Nat} {c : Cmd} {l : StoredJob} {depth img ring : Nat}

/-- A screen unit without a job and without strips is reset (R176). -/
theorem scrReset_of_noJob (hjob : (s.planeAt p).job = none) (hstrips : (s.planeAt p).strips = []) :
    s.scrReset p = ((s.modPlane p (fun x => { x with strips := x.strips.take 0 })).setN (R.SCR_PLANE_STAT p) 0).modPlane p
      (fun x => { x with done := 0, retired := 0, avail := 0, chg := 0, badln := 0 }) := by
  simp [State.scrReset, State.stripFail, hjob, hstrips, State.forEach]

theorem scrReset_takenStill (h : TakenStill q s₀ s) (hjob : (s.planeAt p).job = none) (hstrips : (s.planeAt p).strips = []) :
    TakenStill q s₀ (s.scrReset p) := by
  rw [scrReset_of_noJob hjob hstrips]
  exact ((h.modPlane _ _).setN (by simp only [R.SCR_PLANE_STAT, R.SYS_MODE]; omega) _).modPlane _ _

theorem scrReset_done (hjob : (s.planeAt p).job = none) (hstrips : (s.planeAt p).strips = []) :
    ((s.scrReset p).planeAt p).done = 0 := by
  rw [scrReset_of_noJob hjob hstrips, State.planeAt_mod]

/-- The registers of plane `p` as JOB_OPEN writes them (R461). -/
def State.jobRegs (s : State) (p : Nat) (c : Cmd) (l : StoredJob) (depth img ring : Nat) : State :=
  let fl := c.arg 1 1
  let s := s.setFld (R.SCR_PLANE_CFG p) F.SCR_PLANE_CFG_FMT l.fmt
  let s := s.setFld (R.SCR_PLANE_CFG p) F.SCR_PLANE_CFG_P1_CODE (bits fl 3 1)
  let s := s.setFld (R.SCR_PLANE_CFG p) F.SCR_PLANE_CFG_STORED (bits fl 0 1)
  let s := s.setFld (R.SCR_PLANE_CFG p) F.SCR_PLANE_CFG_CODE_DEPTH depth
  let s := s.set64 (R.SCR_PLANE_IMG_BASE_LO p) (R.SCR_PLANE_IMG_BASE_HI p) img
  let s := s.setN (R.SCR_PLANE_IMG_LINES p) l.imgLines
  let s := s.set64 (R.SCR_PLANE_CODE_BASE_LO p) (R.SCR_PLANE_CODE_BASE_HI p) ring
  let s := (s.setN (R.SCR_PLANE_PAGE p) l.page).setN (R.SCR_PLANE_GAP p) l.gap
  let s := s.set64 (R.SCR_PLANE_JOBLN_LO p) (R.SCR_PLANE_JOBLN_HI p) l.jobLines
  s.setN (R.DGV_PLANE_CFG p) (bits fl 2 1 + c.arg 5 1 * 2 + c.arg 6 1 * 256)

theorem jobRegs_planeAt (s : State) (w : Nat) : (s.jobRegs p c l depth img ring).planeAt w = s.planeAt w := by
  simp only [State.jobRegs, State.setFld_planeAt, State.setN_planeAt, State.set64_planeAt]

theorem jobRegs_takenStill (h : TakenStill q s₀ s) : TakenStill q s₀ (s.jobRegs p c l depth img ring) := by
  have hcfg : R.SCR_PLANE_CFG p ≠ R.SYS_MODE := by simp only [R.SCR_PLANE_CFG, R.SYS_MODE]; omega
  simp only [State.jobRegs]
  refine ((((((((((h.setFld hcfg _ _).setFld hcfg _ _).setFld hcfg _ _).setFld hcfg _ _).set64 ?_ ?_ _).setN ?_ _).set64
    ?_ ?_ _).setN ?_ _).setN ?_ _).set64 ?_ ?_ _).setN ?_ _
  all_goals
    simp only [R.SCR_PLANE_IMG_BASE_LO, R.SCR_PLANE_IMG_BASE_HI, R.SCR_PLANE_IMG_LINES, R.SCR_PLANE_CODE_BASE_LO,
      R.SCR_PLANE_CODE_BASE_HI, R.SCR_PLANE_PAGE, R.SCR_PLANE_GAP, R.SCR_PLANE_JOBLN_LO, R.SCR_PLANE_JOBLN_HI,
      R.DGV_PLANE_CFG, R.SYS_MODE]
    omega

/-- A job that is not stored, without a channel of its own, is opened (R461). -/
theorem openJob_opens (h : TakenStill q s₀ s) (hjob : (s.planeAt p).job = none) (hstrips : (s.planeAt p).strips = [])
    (hstored : bits (c.arg 1 1) 0 1 = 0) : TakenStill q s₀ (s.openJob p c l depth img ring none) ∧
    ((s.openJob p c l depth img ring none).planeAt p).done = 0 ∧
    ∃ j, ((s.openJob p c l depth img ring none).planeAt p).job = some j ∧ j.st = .opened ∧ j.stored = false ∧
      j.start = c.arg 8 8 := by
  have hplane := jobRegs_planeAt (c := c) (l := l) (p := p) (depth := depth) (img := img) (ring := ring) s p
  have hregs := jobRegs_takenStill (c := c) (l := l) (p := p) (depth := depth) (img := img) (ring := ring) h
  generalize hr : s.jobRegs p c l depth img ring = r at hplane hregs
  rw [← hplane] at hjob hstrips
  have hreset := scrReset_takenStill hregs hjob hstrips
  have hdone := scrReset_done hjob hstrips
  simp only [State.jobRegs] at hr
  simp only [State.openJob, hr]
  simp only [hstored, Nat.zero_ne_one, false_and, if_false, decide_false]
  refine ⟨?_, ?_, ?_⟩
  · exact (hreset.modPlane _ _).forEach (fun v i hv => hv.modRow i _) _
  · rw [forEach_modRow_planeAt, State.planeAt_mod]
    exact hdone
  · rw [forEach_modRow_planeAt, State.planeAt_mod]
    exact ⟨_, rfl, rfl, rfl, rfl⟩

/-- JOB_OPEN of a job that is not stored, whose image and codes have room (R461). -/
theorem jobOpen_of_room (hgood : s.openBad c = false) (hlayout : s.openLayout c = some l) (hstored : bits (c.arg 1 1) 0 1 = 0)
    (hhost : bits (c.arg 1 1) 4 1 = 0) (hspan : s.span (c.arg 0 1) + 320 ≤ 65536) (hjob : (s.planeAt (c.arg 0 1)).job = none)
    (himg : s.dramFree s.dramHeld img (l.imgLines * imgStride l.fmt l.width) = true)
    (hring : s.dramFree ((img, l.imgLines * imgStride l.fmt l.width) :: s.dramHeld) ring
      (2 ^ depthFor (s.span (c.arg 0 1) + 320) 6 (c.arg 4 1) * lineSize l.width) = true) :
    ∃ rest, s.jobOpen q c (some (img, ring)) =
      (s.openJob (c.arg 0 1) c l (depthFor (s.span (c.arg 0 1) + 320) 6 (c.arg 4 1)) img ring none).finish q c stOk
        (leBytes 8 img ++ rest) := by
  have hreplay : bits (c.arg 1 1) 1 1 ≠ 1 := by
    intro hreplay
    simp [State.openBad, hreplay, hstored] at hgood
  have hneed : ¬ 65536 < s.span (c.arg 0 1) + 320 := by omega
  refine ⟨leBytes 4 (imgStride l.fmt l.width) ++ (leBytes 4 l.imgLines ++
    [255, depthFor (s.span (c.arg 0 1) + 320) 6 (c.arg 4 1)]), ?_⟩
  simp [State.jobOpen, hgood, hlayout, hstored, hhost, hjob, hreplay, himg, hring, hneed]

end

/-! JOB_APPEND (R461). -/

section
variable {s : State} {q p k : Nat} {c : Cmd} {j : Job}

/-- `s` with a strip of `k` lines pushed whose data is in place, and the JOB_APPEND `c` waiting for it (R153, R461). -/
def State.stripHeld (s : State) (q p k : Nat) (c : Cmd) : State :=
  (s.modPlane p (fun x => { x with strips := x.strips ++ [{ count := k, qp := some q, done := true }] })).hold q c (.append p)

/-- The same once the strip is committed and the command no longer waits (R153). -/
def State.appended (s : State) (q p k : Nat) (c : Cmd) : State :=
  ((s.stripHeld q p k c).modPlane p (fun x => x.popped k [])).modQp q (fun x => { x with cur := none })

theorem stripHeld_planeAt (s : State) (q p k : Nat) (c : Cmd) : (s.stripHeld q p k c).planeAt p =
    { s.planeAt p with strips := (s.planeAt p).strips ++ [{ count := k, qp := some q, done := true }] } := by
  unfold State.stripHeld State.hold
  rw [State.modQp_planeAt, State.planeAt_mod]

theorem stripHeld_qpAt (s : State) (q p k : Nat) (c : Cmd) :
    (s.stripHeld q p k c).qpAt q = { s.qpAt q with cur := some (c, .append p) } := by
  unfold State.stripHeld State.hold
  rw [State.qpAt_mod, State.modPlane_qpAt]

theorem appended_planeAt (s : State) (q p k : Nat) (c : Cmd) :
    (s.appended q p k c).planeAt p = (s.planeAt p).popped k [] := by
  rw [State.appended, State.modQp_planeAt, State.planeAt_mod, stripHeld_planeAt]
  rfl

theorem appended_qpAt (p k : Nat) (c : Cmd) (hcur : (s.qpAt q).cur = none) : (s.appended q p k c).qpAt q = s.qpAt q := by
  rw [State.appended, State.qpAt_mod, State.modPlane_qpAt, stripHeld_qpAt]
  exact congrArg (fun w => { s.qpAt q with cur := w }) hcur.symm

theorem appended_stillMem (s : State) (q p k : Nat) (c : Cmd) : StillMem s (s.appended q p k c) := by
  unfold State.appended State.stripHeld State.hold
  exact ⟨rfl, rfl, rfl, rfl, rfl⟩

theorem appended_limited (s : State) (q p k : Nat) (c : Cmd) : (s.appended q p k c).limited = s.limited := by
  unfold State.appended State.stripHeld State.hold State.limited
  simp only [State.modQp_bit, State.modPlane_bit]

/-- With no strip in the FIFO none is committed (R153). -/
theorem commitReady_of_nil (n : Nat) (h : (s.planeAt p).strips = []) : s.commitReady p n = s := by
  cases n with
  | zero => rfl
  | succ n => simp only [State.commitReady, h]

/-- The lines of a job that is not stored are not counted to a number (R153). -/
theorem recordLines_of_unstored (hjob : (s.planeAt p).job = some j) (hstored : j.stored = false) (k : Nat) :
    s.recordLines p k = s := by
  simp [State.recordLines, hjob, hstored]

/-- The commit of a job's only strip completes its JOB_APPEND (R153, R461). -/
theorem stripCommit_completes {w : State} {x : Strip} (hstrips : (w.planeAt p).strips = [x]) (hqp : x.qp = some q)
    (hjob : (w.planeAt p).job = some j) (hstored : j.stored = false) {wait : Wait} (hcur : (w.qpAt q).cur = some (c, wait)) :
    w.stripCommit p = ((w.modPlane p (fun y => y.popped x.count [])).modQp q (fun y => { y with cur := none })).finish q c stOk
      (leBytes 8 ((w.planeAt p).popped x.count []).avail) := by
  have hplane : (w.modPlane p (fun y => y.popped x.count [])).planeAt p = (w.planeAt p).popped x.count [] :=
    State.planeAt_mod ..
  have hrecord := recordLines_of_unstored ((congrArg Plane.job hplane).trans hjob) hstored x.count
  rw [← hplane]
  generalize hv : w.modPlane p (fun y => y.popped x.count []) = v at hrecord
  have hcur' : (v.qpAt q).cur = some (c, wait) := by
    rw [← hv, State.modPlane_qpAt, hcur]
  simp only [Plane.popped] at hv
  simp only [State.stripCommit, hstrips, hv, hrecord, hqp, State.finishCur, hcur']

/-- JOB_APPEND of a direct strip of a job that is not stored, with the FIFO empty (R461). -/
theorem jobAppend_direct {table : Option (List Nat)} {desc : Nat} (hplane : c.arg 0 1 < 8) (hdirect : c.arg 1 1 = 1)
    (hzero : c.arg 2 2 = 0) (hzero' : c.arg 4 4 = 0) (hjob : (s.planeAt (c.arg 0 1)).job = some j) (hclosed : j.closed = none)
    (hreplay : j.replay = false) (hstored : j.stored = false) (hstrips : (s.planeAt (c.arg 0 1)).strips = [])
    (hfirst : c.arg 8 8 = (s.planeAt (c.arg 0 1)).avail) (hcount : c.arg 16 4 ≠ 0)
    (himg : c.arg 16 4 ≤ s.imgLines (c.arg 0 1))
    (hroom : c.arg 8 8 + c.arg 16 4 ≤ s.imgLines (c.arg 0 1) + s.screened (c.arg 0 1)) :
    s.jobAppend q c table desc = (s.appended q (c.arg 0 1) (c.arg 16 4) c).finish q c stOk
      (leBytes 8 (((s.planeAt (c.arg 0 1)).avail + c.arg 16 4) % 2 ^ 48)) := by
  have hnext : s.nextLine (c.arg 0 1) = (s.planeAt (c.arg 0 1)).avail := by simp [State.nextLine, hstrips]
  have hplane' : ¬(7 < c.arg 0 1) := by omega
  have hargs : ¬(¬c.arg 8 8 = (s.planeAt (c.arg 0 1)).avail ∨ c.arg 16 4 = 0 ∨ s.imgLines (c.arg 0 1) < c.arg 16 4) := by omega
  have hroom' : ¬(s.imgLines (c.arg 0 1) + s.screened (c.arg 0 1) < c.arg 8 8 + c.arg 16 4) := by omega
  have hpush : s.jobAppend q c table desc = (s.stripHeld q (c.arg 0 1) (c.arg 16 4) c).commitReady (c.arg 0 1) 16 := by
    simp [State.jobAppend, State.stripPush, State.stripHeld, hplane', hdirect, hzero, hzero', hjob, hclosed, hreplay, hstored,
      hstrips, hnext, hargs, hroom']
  have hheld := stripHeld_planeAt s q (c.arg 0 1) (c.arg 16 4) c
  rw [hstrips] at hheld
  have hcommit := stripCommit_completes (congrArg Plane.strips hheld) rfl ((congrArg Plane.job hheld).trans hjob) hstored
    (congrArg Qp.cur (stripHeld_qpAt s q (c.arg 0 1) (c.arg 16 4) c))
  have hempty : (((s.appended q (c.arg 0 1) (c.arg 16 4) c).finish q c stOk (leBytes 8
      (((s.planeAt (c.arg 0 1)).avail + c.arg 16 4) % 2 ^ 48))).planeAt (c.arg 0 1)).strips = [] := by
    rw [(PlanesKept.refl.finish q c _ _).planeAt, appended_planeAt]
    rfl
  rw [hheld] at hcommit
  rw [hpush, State.commitReady, hheld]
  exact (congrArg (State.commitReady · (c.arg 0 1) 15) hcommit).trans (commitReady_of_nil 15 hempty)

end

/-! JOB_CLOSE (R462). -/

section
variable {s : State} {q p : Nat} {c : Cmd} {j : Job}

/-- The last line of a job of plane `p` whose last image line lies on grid line `g` (R609). -/
def State.lastLineFrom (s : State) (p g : Nat) : Nat := min (2 ^ 48 - 17) (g + s.gapLines p)

/-- `s` with job `j` of plane `p` closed at grid line `g` (R609). -/
def State.jobClosed (s : State) (p g : Nat) (j : Job) : State :=
  (s.modPlane p (fun x => { x with job := some { j with closed := some g, lastLine := s.lastLineFrom p g } })).set64
    (R.DCT_PLANE_END_LO p) (R.DCT_PLANE_END_HI p) (s.lastLineFrom p g)

theorem jobClosed_end (s : State) (p g : Nat) (j : Job) :
    (s.jobClosed p g j).get64 (R.DCT_PLANE_END_LO p) (R.DCT_PLANE_END_HI p) = s.lastLineFrom p g := by
  have hlt : s.lastLineFrom p g < 2 ^ 64 := Nat.lt_of_le_of_lt (Nat.min_le_left _ _) (by decide)
  exact (get64_set64 _ _ (by simp only [R.DCT_PLANE_END_LO, R.DCT_PLANE_END_HI]; omega)).trans (Nat.mod_eq_of_lt hlt)

theorem jobClosed_planeAt (s : State) (p g : Nat) (j : Job) : (s.jobClosed p g j).planeAt p =
    { s.planeAt p with job := some { j with closed := some g, lastLine := s.lastLineFrom p g } } := by
  rw [State.jobClosed, State.set64_planeAt, State.planeAt_mod]

theorem TakenStill.jobClosed {u : State} (h : TakenStill q s u) (p g : Nat) (j : Job) :
    TakenStill q s (u.jobClosed p g j) :=
  (h.modPlane _ _).set64 (by simp only [R.DCT_PLANE_END_LO, R.SYS_MODE]; omega)
    (by simp only [R.DCT_PLANE_END_HI, R.SYS_MODE]; omega) _

/-- JOB_CLOSE of a job that is not stored and has an image line (R462, R609). -/
theorem jobClose_of_lines (hplane : c.arg 0 1 < 8) (hjob : (s.planeAt (c.arg 0 1)).job = some j) (hclosed : j.closed = none)
    (hstored : j.stored = false) (hlines : s.nextLine (c.arg 0 1) ≠ 0) :
    s.jobClose q c = (s.jobClosed (c.arg 0 1) (s.gridOf (c.arg 0 1) (s.nextLine (c.arg 0 1) - 1)) j).finish q c stOk
      (leBytes 8 (s.lastLineFrom (c.arg 0 1) (s.gridOf (c.arg 0 1) (s.nextLine (c.arg 0 1) - 1)))) := by
  simp [State.jobClose, hjob, hclosed, hstored, hlines, show ¬ 7 < c.arg 0 1 by omega, State.jobClosed, State.lastLineFrom]

end

/-! JOB_ABORT (R463). -/

section
variable {s s₀ : State} {q p : Nat} {c : Cmd} {j : Job}

/-- `s` with job `j` of plane `p` aborted, which has no channel of its own and whose strips are committed (R463). -/
def State.jobHalted (s : State) (p : Nat) (j : Job) : State :=
  (((s.setBit (R.DCT_PLANE_CTL p) F.DCT_PLANE_CTL_HALT true).modPlane p (fun x => { x with strips := x.strips.take 0 })).modPw
    (fun w => { w with noJobAt := s.now })).modPlane p (fun x => { x with job := none, iwRestore := x.iwRestore ++ j.iwCleared })

theorem jobHalted_job (s : State) (p : Nat) (j : Job) : ((s.jobHalted p j).planeAt p).job = none := by
  rw [State.jobHalted, State.planeAt_mod]

theorem jobHalted_halt (s : State) (p : Nat) (j : Job) :
    (s.jobHalted p j).bit (R.DCT_PLANE_CTL p) F.DCT_PLANE_CTL_HALT = true := by
  rw [State.jobHalted, State.modPlane_bit, State.modPw_bit, State.modPlane_bit]
  exact State.bit_setBit _ _ _ _ (by decide) (by decide)

theorem TakenStill.jobHalted {u : State} (h : TakenStill q s u) (p : Nat) (j : Job) : TakenStill q s (u.jobHalted p j) :=
  (((h.setBit (by simp only [R.DCT_PLANE_CTL, R.SYS_MODE]; omega) _ _).modPlane _ _).modPw _).modPlane _ _

/-- What an abort of such a job leaves; it may free the number of a stored one (R463). -/
theorem jobAbort_halts (free : Bool) (h : TakenStill q s₀ s) (hjob : (s.planeAt p).job = some j) (hchannel : j.channel = none)
    (hstrips : (s.planeAt p).strips = []) : TakenStill q s₀ (s.jobAbort p free) ∧
    ((s.jobAbort p free).planeAt p).job = none ∧
    (s.jobAbort p free).bit (R.DCT_PLANE_CTL p) F.DCT_PLANE_CTL_HALT = true := by
  have hhalted : ((s.setBit (R.DCT_PLANE_CTL p) F.DCT_PLANE_CTL_HALT true).stripFail p 0).jobGone p = s.jobHalted p j := by
    simp [State.stripFail, State.jobGone, State.forEach, State.jobHalted, hjob, hchannel, hstrips, State.modPw]
  have hstill := h.jobHalted p j
  have hgone := jobHalted_job s p j
  have hhalt := jobHalted_halt s p j
  simp only [State.jobAbort, hjob, hhalted]
  generalize s.jobHalted p j = v at hstill hgone hhalt
  split
  · exact ⟨hstill.stored _, hgone, hhalt⟩
  · exact ⟨hstill, hgone, hhalt⟩

theorem jobAbortCmd_of_job (hplane : c.arg 0 1 < 8) (hfree : c.arg 1 1 ≤ 1) (hjob : (s.planeAt (c.arg 0 1)).job = some j) :
    s.jobAbortCmd q c = (s.jobAbort (c.arg 0 1) (decide (c.arg 1 1 = 1))).finish q c stOk := by
  simp only [State.jobAbortCmd, if_neg (show ¬(7 < c.arg 0 1 ∨ 1 < c.arg 1 1) by omega), hjob, Option.isSome_some, if_true]

end
end Sys2Proof.Machine

namespace Sys2Proof.Proofs
open Sys2Proof Sys2Proof.Machine

/-- Settles O48: each row changes its plane and registers of its plane alone, and completes. -/
theorem jobCommands : Obligations.JobCommands := by
  unfold Obligations.JobCommands
  refine ⟨fun s q a b c l hfront hidle hmode hlen hgood hlayout hstored hhost hspan hjob hstrips himg hring => ?start,
    fun s q desc c table j hfront hmode hlen hplane hdirect hzero hzero' hjob hclosed hreplay hstored hstrips hfirst hcount
      himg hroom => ?append,
    fun s q c j hfront hmode hlen hplane hjob hclosed hstored hlines => ?close,
    fun s q c j hfront hmode hlen hplane hfree hjob hchannel hstrips => ?abort⟩
  case start =>
    have hrow : exec (.jobOpen q (some (a, b))) s = onUnit q 32 s (s.answer (s.take q 0x20 (fun s c =>
        s.gate q c [.config, .print, .idle] 36 (fun s => s.jobOpen q c (some (a, b)))))) :=
      congrArg (fun t => onUnit q 32 s (s.answer t)) (if_neg fun h => hidle h.1)
    obtain ⟨rest, hrun⟩ := jobOpen_of_room (s := s.taken q) (q := q) hgood hlayout hstored hhost hspan hjob himg hring
    obtain ⟨hu, hdone, j, hopened⟩ := openJob_opens (l := l) (img := a) (ring := b)
      (depth := depthFor ((s.taken q).span (c.arg 0 1) + 320) 6 (c.arg 4 1)) (TakenStill.refl (s := s) (q := q)) hjob hstrips hstored
    refine gated_completes hrow hfront (by rcases hmode with h | h <;> rw [h] <;> decide) hlen hu.toTaken hrun fun t ht => ?_
    rw [ht.planeAt]
    exact ⟨⟨j, hopened⟩, hdone, ht.stillMem hu.mem, _, ht.answered, leAt_leBytes_append 8 a rest⟩
  case append =>
    have hrun := jobAppend_direct (s := s.taken q) (q := q) (table := table) (desc := desc) hplane hdirect hzero hzero' hjob
      hclosed hreplay hstored hstrips hfirst hcount himg hroom
    have hcur : ((s.taken q).qpAt q).cur = none := by
      rw [taken_qpAt_of_front hfront]
      obtain ⟨-, -, hcur, -⟩ := hfront
      exact hcur
    refine gated_completes rfl hfront (by rcases hmode with h | h <;> rw [h] <;> decide) hlen
      ⟨appended_qpAt _ _ _ hcur, appended_limited ..⟩ hrun fun t ht => ?_
    rw [ht.planeAt, appended_planeAt]
    exact ⟨rfl, rfl, ht.stillMem (appended_stillMem (s.taken q) q _ _ c), ht.answered⟩
  case close =>
    have hrun := jobClose_of_lines (s := s.taken q) (q := q) hplane hjob hclosed hstored hlines
    have hu := (TakenStill.refl (s := s) (q := q)).jobClosed (c.arg 0 1)
      ((s.taken q).gridOf (c.arg 0 1) ((s.taken q).nextLine (c.arg 0 1) - 1)) j
    refine gated_completes rfl hfront (by rcases hmode with h | h <;> rw [h] <;> decide) (List.length_pos_iff.2 hlen)
      hu.toTaken hrun fun t ht => ⟨_, rfl, ?_, ?_, ht.answered, ht.stillMem hu.mem⟩
    · rw [ht.planeAt, jobClosed_planeAt]
      rfl
    · unfold State.get64
      rw [ht.getN (by simp only [R.DCT_PLANE_END_LO]; omega), ht.getN (by simp only [R.DCT_PLANE_END_HI]; omega)]
      exact jobClosed_end ..
  case abort =>
    have hrun := jobAbortCmd_of_job (s := s.taken q) (q := q) hplane hfree hjob
    obtain ⟨hu, hgone, hhalt⟩ := jobAbort_halts (decide (c.arg 1 1 = 1)) (TakenStill.refl (s := s) (q := q)) hjob hchannel hstrips
    refine gated_completes rfl hfront hmode hlen hu.toTaken hrun fun t ht =>
      ⟨?_, ht.answered, (ht.bit (by simp only [R.DCT_PLANE_CTL]; omega) _).trans hhalt, ht.stillMem hu.mem⟩
    rw [ht.planeAt]
    exact hgone

end Sys2Proof.Proofs
end

section
/-! PROOFS. The commands of OTP, of a diagnostic session and of injection. -/
namespace Sys2Proof.Machine

/-- A seal keeps the memories that a waiting command's effect left. -/
theorem seal_hold_stillMem {s u : State} (h : StillMem s u) (q : Nat) (c : Cmd) (w : Wait) : StillMem s (s.seal (u.hold q c w)) := h

namespace TakenStill

variable {q : Nat} {s u : State}

theorem modSlot (h : TakenStill q s u) (j : Nat) (f : Slot → Slot) : TakenStill q s (u.modSlot j f) := { h with }

theorem count (h : TakenStill q s u) (j : Nat) : TakenStill q s (u.count j) := { h with }

theorem otp (h : TakenStill q s u) (o : Otp) : TakenStill q s { u with otp := o } := { h with }

theorem diag (h : TakenStill q s u) (d : Option Nat) : TakenStill q s { u with diag := d } := { h with }

theorem set (h : TakenStill q s u) {a : Nat} (ha : a ≠ R.SYS_MODE) (v : BitVec 32) : TakenStill q s (u.set a v) :=
  ⟨h.toTaken.set ha v, h.mem⟩

theorem plain (h : TakenStill q s u) (r : RegSpec) {a : Nat} (ha : a ≠ R.SYS_MODE) (v : Nat) : TakenStill q s (u.plain r a v) :=
  h.set ha _

end TakenStill

/-! OTP (R475, R476, R477). -/

section
variable {s u : State} {q : Nat} {c : Cmd}

theorem maskOf_one (f : Nat → Bool) : maskOf 1 f = if f 0 then 1 else 0 := by
  cases h : f 0 <;> simp [maskOf, List.range, List.range.loop, ofLe, h]

/-- OTP_READ of one word outside the keys (R475). -/
theorem otpReadCmd_one (hword : c.arg 0 2 < 512) (hcount : c.arg 2 2 = 1) (hkeys : c.arg 0 2 < 128 ∨ 136 ≤ c.arg 0 2) :
    ∃ res, s.otpReadCmd q c = s.finish q c stOk res ∧ leAt res 0 8 = otpVal s.otp.vals (c.arg 0 2) % 2 ^ 64 ∧
      leAt res 16 1 = if s.otp.marg.contains (c.arg 0 2) then 1 else 0 := by
  have hargs : ¬(511 < c.arg 0 2 ∨ 1 = 0 ∨ 64 < 1 ∨ 512 < c.arg 0 2 + 1 ∨ (2 < 1 ∧ c.args.length < 16)) := by omega
  have hopen : ¬(c.arg 0 2 < 136 ∧ 128 < c.arg 0 2 + 1) := by omega
  have hwhole : (leBytes 8 (otpVal s.otp.vals (c.arg 0 2)) ++ List.replicate 16 0).take 16 =
      leBytes 8 (otpVal s.otp.vals (c.arg 0 2)) ++ List.replicate 8 0 := by
    rw [List.take_append, leBytes_length, List.take_of_length_le (by rw [leBytes_length]; decide)]
    rfl
  refine ⟨leBytes 8 (otpVal s.otp.vals (c.arg 0 2)) ++ List.replicate 8 0 ++
    [maskOf 1 (fun j => s.otp.marg.contains (c.arg 0 2 + j))], ?_, ?_, ?_⟩
  · rw [← hwhole]
    simp only [State.otpReadCmd, hcount, if_neg hargs, if_neg hopen, if_pos (show 1 ≤ 2 by decide)]
    rfl
  · rw [List.append_assoc]
    exact leAt_leBytes_append 8 _ _
  · rw [leAt, List.drop_left' (by simp [leBytes_length]), maskOf_one]
    cases s.otp.marg.contains (c.arg 0 2) <;> rfl

/-- OTP_READ of a key (R475). -/
theorem otpReadCmd_key (hlow : 128 ≤ c.arg 0 2) (hhigh : c.arg 0 2 < 136) (hcount : c.arg 2 2 = 1) :
    s.otpReadCmd q c = s.finish q c stDenied := by
  have hargs : ¬(511 < c.arg 0 2 ∨ 1 = 0 ∨ 64 < 1 ∨ 512 < c.arg 0 2 + 1 ∨ (2 < 1 ∧ c.args.length < 16)) := by omega
  have hclosed : c.arg 0 2 < 136 ∧ 128 < c.arg 0 2 + 1 := by omega
  simp only [State.otpReadCmd, hcount, if_neg hargs, if_pos hclosed]

/-- The burn that a waiting command has started stands in its sealed answer. -/
theorem seal_otpBurn_burn (s u : State) (b : Burn) (q : Nat) (c : Cmd) (w : Wait) :
    (s.seal ((u.otpBurn b).hold q c w)).otp.burn = some b := rfl

theorem TakenStill.otpBurn (h : TakenStill q s u) (b : Burn) : TakenStill q s (u.otpBurn b) :=
  (h.setBit (by decide) _ _).otp _

/-- The registers of the programming interface as OTP_PROGRAM writes them (R476). -/
def State.otpWordSet (s : State) (c : Cmd) : State :=
  ((s.setFld R.OTP_PROG_CTL F.OTP_PROG_CTL_WORD (c.arg 0 2)).setFld R.OTP_PROG_CTL F.OTP_PROG_CTL_RETRY (c.arg 2 1)).set64
    R.OTP_PROG_DATA_LO R.OTP_PROG_DATA_HI (c.arg 8 8)

theorem TakenStill.otpWordSet (h : TakenStill q s u) (c : Cmd) : TakenStill q s (u.otpWordSet c) :=
  ((h.setFld (by decide) _ _).setFld (by decide) _ _).set64 (by decide) (by decide) _

/-- OTP_PROGRAM starts the burn of a word of an open region (R476, R544). -/
theorem otpProgram_burns (hword : c.arg 0 2 < 512) (hretry : c.arg 2 1 ≤ 1)
    (hsupply : s.bit R.PWR_STAT F.PWR_STAT_SUPPLY = false) (hregion : s.otpRegionState (otpRegionOf (c.arg 0 2)) = 0)
    (hclash : s.otpClash (c.arg 0 2) (c.arg 8 8) = false) (hrefused : s.otp.refused.contains (c.arg 0 2) = false)
    (hfailed : s.otp.failed.contains (c.arg 0 2) = false ∨ c.arg 2 1 = 1) (hburn : s.otp.burn = none) :
    s.otpProgram q c = ((s.otpWordSet c).otpBurn { word := c.arg 0 2, value := c.arg 8 8 }).hold q c .otp := by
  have hargs : ¬(511 < c.arg 0 2 ∨ 1 < c.arg 2 1) := by omega
  have hbusy : ¬((s.otp.failed.contains (c.arg 0 2) ∧ c.arg 2 1 = 0) ∨ s.otpBusy) := by
    rintro (⟨hin, hzero⟩ | hbusy)
    · rcases hfailed with h | h
      · exact absurd (h.symm.trans hin) (by decide)
      · omega
    · simp [State.otpBusy, hburn] at hbusy
  simp only [State.otpProgram, if_neg hargs, hsupply, hregion, hclash, hrefused, if_neg hbusy, State.otpWordSet]
  simp

/-- A lock burns the ten words of the seal of its region (R477, R545). -/
theorem otpLock_burns (s : State) (r : Nat) : ∃ b, s.otpLock r = s.otpBurn b ∧ b.lock = true := by
  have hten : (s.otpSeal r).length = 10 := by simp [State.otpSeal]
  unfold State.otpLock
  cases hseal : s.otpSeal r with
  | nil => simp [hseal] at hten
  | cons x rest => exact ⟨_, rfl, rfl⟩

/-- OTP_LOCK starts the lock of a region that is not locked (R477). -/
theorem otpLockCmd_burns (hregion : c.arg 0 1 ≤ 2) (hmagic : c.arg 1 1 = 0xA5)
    (hsupply : s.bit R.PWR_STAT F.PWR_STAT_SUPPLY = false) (hopen : s.otpRegionState (c.arg 0 1) ≠ 2)
    (hburn : s.otp.burn = none) : ∃ b, b.lock = true ∧ s.otpLockCmd q c =
      ((s.setFld R.OTP_PROG_CTL F.OTP_PROG_CTL_REGION (c.arg 0 1)).otpBurn b).hold q c .otp := by
  obtain ⟨b, hlock, hb⟩ := otpLock_burns (s.setFld R.OTP_PROG_CTL F.OTP_PROG_CTL_REGION (c.arg 0 1)) (c.arg 0 1)
  refine ⟨b, hb, ?_⟩
  simp [State.otpLockCmd, show ¬ 2 < c.arg 0 1 by omega, hmagic, hsupply, hopen, State.otpBusy, hburn, hlock]

end

/-! DIAG_UNLOCK (R478). -/

section
variable {s u : State} {q : Nat} {c : Cmd}

/-- The seconds a session that DIAG_UNLOCK opens lasts (R478). -/
def Cmd.diagSeconds (c : Cmd) : Nat := if c.arg 2 2 = 0 then 600 else c.arg 2 2

/-- `s` with the session of DIAG_UNLOCK open (R478). -/
def State.diagOpened (s : State) (c : Cmd) : State :=
  { s with diag := some (s.now + c.diagSeconds * 2000000000) }.diagRegion true

theorem diagOpened_diag (s : State) (c : Cmd) :
    (s.diagOpened c).diag = some (s.now + c.diagSeconds * 2000000000) := by
  unfold State.diagOpened State.diagRegion
  rw [State.setBit_diag]

theorem TakenStill.diagOpened (h : TakenStill q s u) (c : Cmd) : TakenStill q s (u.diagOpened c) :=
  (h.diag _).setBit (by decide) _ _

theorem diagUnlock_opens (hopen : c.arg 0 1 = 1) (henable : s.bit R.OTP_POLICY F.OTP_POLICY_DIAG_ENABLE = true)
    (htime : c.arg 2 2 ≤ 3600) : s.diagUnlock q c = (s.diagOpened c).finish q c stOk (leBytes 4 c.diagSeconds) := by
  simp [State.diagUnlock, hopen, henable, show ¬ 3600 < c.arg 2 2 by omega, State.diagOpened, Cmd.diagSeconds]

end

/-! FAULT_INJECT (R479). -/

/-- FIJ_SLOT_CFG in the register map (R586). -/
def fijSlotSpec : RegSpec :=
  { name := "FIJ_SLOT_CFG", base := R.FIJ_SLOT_CFG 0, c1 := 8, s1 := 0x20, rw := 0xFFFF1FFD, w1c := 0x00000002 }

section
variable {s u : State} {q j : Nat} {c : Cmd}

/-- A write of FIJ_SLOT_CFG is served by `slotCfgWrite`. -/
theorem applyWrite_fijSlot (s : State) (v : Nat) (hj : j < 8) :
    s.applyWrite (R.FIJ_SLOT_CFG j) v = s.slotCfgWrite fijSlotSpec j v := by
  have hfind : regFind (R.FIJ_SLOT_CFG j) = some (fijSlotSpec, j, 0) := by
    obtain rfl | rfl | rfl | rfl | rfl | rfl | rfl | rfl :
      j = 0 ∨ j = 1 ∨ j = 2 ∨ j = 3 ∨ j = 4 ∨ j = 5 ∨ j = 6 ∨ j = 7 := by omega
    all_goals rfl
  have hblock : R.FIJ_SLOT_CFG j / 0x100000 = 16 := by simp only [R.FIJ_SLOT_CFG]; omega
  have hreg : s.regOf (R.FIJ_SLOT_CFG j) = some (fijSlotSpec, j, 0) := by
    simp only [State.regOf, hfind, hblock]
    rfl
  simp only [State.applyWrite, hreg, hblock]
  rfl

/-- The word of FIJ_SLOT_CFG that FAULT_INJECT writes for a target that is no head port (R479). -/
def Cmd.slotWord (c : Cmd) : Nat :=
  1 + c.arg 2 1 * 4 + 0 * 32 + c.arg 4 1 * 2 ^ 10 + c.arg 5 1 * 2 ^ 16 + c.arg 6 1 * 2 ^ 24

/-- `s` with the slot of FAULT_INJECT disarmed and its rate, count and delay written (R479). -/
def State.slotSet (s : State) (c : Cmd) : State :=
  (((s.setBit (R.FIJ_SLOT_CFG (c.arg 0 1)) F.FIJ_SLOT_CFG_ARM false).setN (R.FIJ_SLOT_RATE (c.arg 0 1)) (c.arg 8 4)).setN
    (R.FIJ_SLOT_COUNT (c.arg 0 1)) (c.arg 12 4)).setFld (R.FIJ_SLOT_DELAY (c.arg 0 1)) F.FIJ_SLOT_DELAY_DELAY
      (min 100000 (c.arg 16 4))

/-- `s` with the slot of FAULT_INJECT armed (R479). -/
def State.slotArmed (s : State) (c : Cmd) : State :=
  ((s.slotSet c).plain fijSlotSpec (R.FIJ_SLOT_CFG (c.arg 0 1)) (setBits c.slotWord 0 1 0)).slotArm (c.arg 0 1)

theorem slotSet_getN (s : State) (c : Cmd) : (s.slotSet c).getN (R.FIJ_SLOT_RATE (c.arg 0 1)) = c.arg 8 4 ∧
    (s.slotSet c).getN (R.FIJ_SLOT_COUNT (c.arg 0 1)) = c.arg 12 4 := by
  unfold State.slotSet State.setFld
  refine ⟨?_, ?_⟩
  · rw [State.getN_setN_ne _ _ _ _ (by simp only [R.FIJ_SLOT_DELAY, R.FIJ_SLOT_RATE]; omega),
      State.getN_setN_ne _ _ _ _ (by simp only [R.FIJ_SLOT_COUNT, R.FIJ_SLOT_RATE]; omega), State.getN_setN]
    exact Nat.mod_eq_of_lt (arg_lt c 8 4)
  · rw [State.getN_setN_ne _ _ _ _ (by simp only [R.FIJ_SLOT_DELAY, R.FIJ_SLOT_COUNT]; omega), State.getN_setN]
    exact Nat.mod_eq_of_lt (arg_lt c 12 4)

theorem slotSet_arm (s : State) (c : Cmd) :
    (s.slotSet c).bit (R.FIJ_SLOT_CFG (c.arg 0 1)) F.FIJ_SLOT_CFG_ARM = false := by
  unfold State.slotSet State.setFld
  rw [bit_setN_ne _ _ _ (by simp only [R.FIJ_SLOT_DELAY, R.FIJ_SLOT_CFG]; omega),
    bit_setN_ne _ _ _ (by simp only [R.FIJ_SLOT_COUNT, R.FIJ_SLOT_CFG]; omega),
    bit_setN_ne _ _ _ (by simp only [R.FIJ_SLOT_RATE, R.FIJ_SLOT_CFG]; omega)]
  exact State.bit_setBit _ _ _ _ (by decide) (by decide)

/-- The gate of injection does not depend on the slots (R579). -/
theorem slotSet_plain_gate (s : State) (c : Cmd) (v : Nat) :
    ((s.slotSet c).plain fijSlotSpec (R.FIJ_SLOT_CFG (c.arg 0 1)) v).fijGate = s.fijGate := by
  refine congrArg (· && s.diag.isSome) (bit_congr _ ?_)
  unfold State.slotSet State.plain State.setBit State.setFld State.setN
  rw [State.get_set_ne, State.get_set_ne, State.get_set_ne, State.get_set_ne, State.get_set_ne]
  all_goals
    simp only [R.FIJ_SLOT_CFG, R.FIJ_SLOT_RATE, R.FIJ_SLOT_COUNT, R.FIJ_SLOT_DELAY, R.OTP_POLICY]
    omega

/-- Arming a slot sets ARM and changes no other register, and no other field of its own (R579). -/
theorem slotArm_reads (s : State) (j : Nat) :
    (s.slotArm j).bit (R.FIJ_SLOT_CFG j) F.FIJ_SLOT_CFG_ARM = true ∧
    (s.slotArm j).fld (R.FIJ_SLOT_CFG j) F.FIJ_SLOT_CFG_TARGET = s.fld (R.FIJ_SLOT_CFG j) F.FIJ_SLOT_CFG_TARGET ∧
    ∀ a, a ≠ R.FIJ_SLOT_CFG j → (s.slotArm j).getN a = s.getN a :=
  ⟨State.bit_setBit s _ _ _ (by decide) (by decide), State.fld_setFld_beside s _ _ _ _ (by decide) (by decide),
    fun a ha => State.getN_setN_ne s _ a _ ha.symm⟩

theorem TakenStill.slotArmed (h : TakenStill q s u) (c : Cmd) : TakenStill q s (u.slotArmed c) := by
  have hcfg : R.FIJ_SLOT_CFG (c.arg 0 1) ≠ R.SYS_MODE := by simp only [R.FIJ_SLOT_CFG, R.SYS_MODE]; omega
  have hset : TakenStill q s (u.slotSet c) := by
    refine (((h.setBit hcfg _ _).setN ?_ _).setN ?_ _).setFld ?_ _ _
    all_goals
      simp only [R.FIJ_SLOT_RATE, R.FIJ_SLOT_COUNT, R.FIJ_SLOT_DELAY, R.SYS_MODE]
      omega
  exact (((hset.plain _ hcfg _).setBit hcfg _ _).count _).modSlot _ _

/-- What the armed slot reads as (R479, R586, R587). -/
theorem slotArmed_reads (s : State) (htarget : c.arg 2 1 ≤ 4) :
    (s.slotArmed c).bit (R.FIJ_SLOT_CFG (c.arg 0 1)) F.FIJ_SLOT_CFG_ARM = true ∧
    (s.slotArmed c).fld (R.FIJ_SLOT_CFG (c.arg 0 1)) F.FIJ_SLOT_CFG_TARGET = c.arg 2 1 ∧
    (s.slotArmed c).getN (R.FIJ_SLOT_RATE (c.arg 0 1)) = c.arg 8 4 ∧
    (s.slotArmed c).getN (R.FIJ_SLOT_COUNT (c.arg 0 1)) = c.arg 12 4 := by
  obtain ⟨hrate, hcount⟩ := slotSet_getN s c
  have hrate' : R.FIJ_SLOT_RATE (c.arg 0 1) ≠ R.FIJ_SLOT_CFG (c.arg 0 1) := by
    simp only [R.FIJ_SLOT_RATE, R.FIJ_SLOT_CFG]; omega
  have hcount' : R.FIJ_SLOT_COUNT (c.arg 0 1) ≠ R.FIJ_SLOT_CFG (c.arg 0 1) := by
    simp only [R.FIJ_SLOT_COUNT, R.FIJ_SLOT_CFG]; omega
  obtain ⟨harm, hkept, hbeside⟩ := slotArm_reads
    ((s.slotSet c).plain fijSlotSpec (R.FIJ_SLOT_CFG (c.arg 0 1)) (setBits c.slotWord 0 1 0)) (c.arg 0 1)
  refine ⟨harm, hkept.trans ?_, ((hbeside _ hrate').trans (congrArg BitVec.toNat (State.get_set_ne _ _ _ _ hrate'.symm))).trans hrate,
    ((hbeside _ hcount').trans (congrArg BitVec.toNat (State.get_set_ne _ _ _ _ hcount'.symm))).trans hcount⟩
  rw [plain_fld _ _ _ _ _ (by decide) (by decide), bits_setBits_ne _ _ _ _ _ _ (by decide)]
  simp only [bits, Cmd.slotWord]
  omega

/-- FAULT_INJECT arms a slot whose target is no head port (R479). -/
theorem faultInject_arms (hgate : s.fijGate = true) (hslot : c.arg 0 1 ≤ 7) (hop : c.arg 1 1 = 1) (hzero : c.arg 7 1 = 0)
    (htarget : c.arg 2 1 = 3 ∨ c.arg 2 1 = 4) (haction : 1 ≤ c.arg 4 1) (haction' : c.arg 4 1 ≤ 4) (hrate : c.arg 8 4 ≠ 0) :
    s.faultInject q c = (s.slotArmed c).finish q c stOk := by
  have hopen : s.diag.isNone = false := by
    obtain ⟨-, hsome⟩ := Bool.and_eq_true_iff.1 hgate
    exact Option.isNone_eq_false_iff.2 hsome
  have hwrite : (s.slotSet c).applyWrite (R.FIJ_SLOT_CFG (c.arg 0 1)) c.slotWord = s.slotArmed c := by
    have harm : bits c.slotWord 0 1 = 1 := by
      simp only [bits, Cmd.slotWord]
      omega
    have hgate' := slotSet_plain_gate s c (setBits c.slotWord 0 1 0)
    rw [applyWrite_fijSlot _ _ (by omega)]
    simp only [State.slotCfgWrite, harm, slotSet_arm, Bool.not_false, and_self, if_true, hgate', hgate, State.slotArmed]
  have hargs : ¬(7 < c.arg 0 1 ∨ 1 < c.arg 1 1 ∨ c.arg 7 1 ≠ 0) := by omega
  have hfar : ¬ c.arg 2 1 ≤ 2 := by omega
  have hport : ¬((c.arg 2 1 = 1 ∨ c.arg 2 1 = 2) ∧ (!s.hasPort (c.arg 3 1)) = true) := by omega
  have hok : ¬(c.arg 2 1 = 0 ∨ 4 < c.arg 2 1 ∨ (c.arg 2 1 ≤ 2 ∧ s.portType (c.arg 3 1) = 1) ∨ c.arg 4 1 = 0 ∨ 4 < c.arg 4 1 ∨
      (c.arg 2 1 = 1 ∧ 3 < c.arg 6 1 ∧ c.arg 6 1 ≠ 0xFF) ∨ c.arg 8 4 = 0) := by omega
  rw [← hwrite]
  simp only [State.faultInject, hopen, Bool.false_eq_true, if_false, if_neg hargs, if_neg hport,
    if_neg (show ¬ c.arg 1 1 = 0 by omega), decide_eq_true_eq, if_neg hfar, if_neg hok]
  rfl

end
end Sys2Proof.Machine
end

section
/-! PROOFS. The commands of the chain and of the firmware. -/
namespace Sys2Proof.Machine

/-! CHAIN_CONFIG (R480). -/

/-- CHN_CFG in the register map (R506). -/
def chnCfgSpec : RegSpec := { name := "CHN_CFG", base := R.CHN_CFG, rst := fun _ => 0x00000100, rw := 0x00FF1FFF }

section
variable {s s₀ u : State} {q : Nat} {c : Cmd}

theorem TakenStill.modChain (h : TakenStill q s u) (f : Chain → Chain) : TakenStill q s (u.modChain f) := { h with }

/-- A write of CHN_CFG is served by `chnCfgWrite`. -/
theorem applyWrite_chnCfg (s : State) (v : Nat) : s.applyWrite R.CHN_CFG v = s.chnCfgWrite chnCfgSpec v := by
  have hfind : regFind R.CHN_CFG = some (chnCfgSpec, 0, 0) := rfl
  have hreg : s.regOf R.CHN_CFG = some (chnCfgSpec, 0, 0) := by
    simp only [State.regOf, hfind]
    rfl
  simp only [State.applyWrite, hreg]
  rfl

theorem TakenStill.noMaster (h : TakenStill q s u) : TakenStill q s u.noMaster := (h.setBit (by decide) _ _).modChain _

theorem TakenStill.chainJoin (h : TakenStill q s u) (ident : Nat) : TakenStill q s (u.chainJoin ident) :=
  ((h.setFld (by decide) _ _).noMaster).modChain _

/-- A device that joins a chain is SEARCHING; CHN_CFG and the number of its head ports are as before (R485). -/
theorem chainJoin_reads (s : State) (ident : Nat) : (s.chainJoin ident).syncSt = 1 ∧
    (s.chainJoin ident).chain.heads = s.chain.heads ∧ (s.chainJoin ident).get R.CHN_CFG = s.get R.CHN_CFG := by
  refine ⟨?_, rfl, ?_⟩
  · exact (State.fld_setFld_beside (s.setSync 1) _ _ _ _ (by decide) (by decide)).trans
      (State.fld_setFld s _ _ _ (by decide))
  · exact (State.get_set_ne _ _ _ _ (by decide)).trans (State.get_set_ne s _ _ _ (by decide))

/-- The word of CHN_CFG that CHAIN_CONFIG writes to join, `keep` of it as it stood (R480). -/
def Cmd.chainWord (c : Cmd) (keep : Nat) : Nat := keep + 1 + c.arg 1 1 * 16 + c.arg 2 1 * 256 + c.arg 3 1 * 2 ^ 16

/-- CHN_CFG once CHAIN_CONFIG has written it (R480). -/
def State.chainWritten (s : State) (c : Cmd) : State :=
  (s.modChain (fun x => { x with heads := c.arg 4 2 })).plain chnCfgSpec R.CHN_CFG (c.chainWord (s.getN R.CHN_CFG &&& 0xE))

theorem chainWritten_reads (s : State) (hindex : c.arg 1 1 ≤ 15) :
    (s.chainWritten c).joined = true ∧ (s.chainWritten c).myIdx = c.arg 1 1 := by
  have hkeep : s.getN R.CHN_CFG &&& 0xE ≤ 14 := Nat.and_le_right
  have heven : (s.getN R.CHN_CFG &&& 0xE) % 2 = 0 := by
    rw [Nat.and_mod_two_pow (n := 1)]
    simp
  have hfld (f : Fld) (hf : f.lo + f.w ≤ 32) (hrw : ∀ j < f.w, chnCfgSpec.rw.getLsbD (j + f.lo) = true) :
      (s.chainWritten c).fld R.CHN_CFG f = bits (c.chainWord (s.getN R.CHN_CFG &&& 0xE)) f.lo f.w :=
    plain_fld _ _ _ _ f hf hrw
  refine ⟨?_, (hfld F.CHN_CFG_INDEX (by decide) (by decide)).trans ?_⟩
  · refine decide_eq_true fun hzero => ?_
    rw [hfld F.CHN_CFG_EN (by decide) (by decide)] at hzero
    simp only [bits, Cmd.chainWord] at hzero
    omega
  · simp only [bits, Cmd.chainWord]
    omega

/-- CHAIN_CONFIG joins a chain (R480, R485). -/
theorem chainConfig_joins (hop : c.arg 0 1 = 1) (hindex : c.arg 1 1 ≤ 15) (hcount : c.arg 2 1 ≠ 0)
    (hcount' : c.arg 2 1 ≤ 16) (hheads : c.arg 4 2 ≤ 512) (hout : s.joined = false) :
    ∃ ident, s.chainConfig q c = ((s.chainWritten c).chainJoin ident).hold q c .join := by
  have hargs : ¬(15 < c.arg 1 1 ∨ c.arg 2 1 = 0 ∨ 16 < c.arg 2 1 ∨ 512 < c.arg 4 2) := by omega
  have hout' : (s.modChain (fun x => { x with heads := c.arg 4 2 })).joined = false := hout
  obtain ⟨hjoined, -⟩ := chainWritten_reads s hindex
  unfold State.chainWritten Cmd.chainWord at hjoined
  simp only [State.chainConfig, hop, if_neg hargs, hout, Bool.false_eq_true, if_false, applyWrite_chnCfg, State.chnCfgWrite,
    hout', hjoined, if_true]
  exact ⟨_, rfl⟩

/-- A device that leaves a chain is in none (R486). -/
theorem chainLeave_joined (s : State) : s.chainLeave.joined = false := by
  have hcopy (u : State) (copy : Copy) (chain : Chain) : State.joined { u with copy := copy, chain := chain } = u.joined := rfl
  have hstat (u : State) (keep : Nat) : ((u.setN R.CHN_STAT keep).setN R.CHN_MEMBERS 0).joined = u.joined :=
    (bit_setN_ne _ _ _ (by decide)).trans (bit_setN_ne _ _ _ (by decide))
  have hmaster (u : State) : u.noMaster.joined = u.joined := bit_setN_ne u _ _ (by decide)
  simp only [State.chainLeave]
  rw [hcopy, hstat, hmaster]
  exact State.bit_setBit s _ _ _ (by decide) (by decide)

theorem TakenStill.chainLeave (h : TakenStill q s u) : TakenStill q s u.chainLeave := by
  have hregs := (((h.setBit (a := R.CHN_CFG) (by decide) F.CHN_CFG_EN false).noMaster).setN (a := R.CHN_STAT) (by decide)
    (u.getN R.CHN_STAT &&& 0x700)).setN (a := R.CHN_MEMBERS) (by decide) 0
  exact ⟨⟨hregs.qp, hregs.limited⟩, hregs.mem⟩

/-- CHAIN_CONFIG leaves the chain, or finds the device in none (R480). -/
theorem chainConfig_leaves (hop : c.arg 0 1 = 0) (hfree : ∀ i, i < s.nRows → s.rowSrc i ≠ 4) (h : TakenStill q s₀ s) :
    ∃ u, TakenStill q s₀ u ∧ u.joined = false ∧ s.chainConfig q c = u.finish q c stOk := by
  have hnone : (List.range s.nRows).any (fun i => decide (s.rowSrc i = 4)) = false := by
    simpa using hfree
  simp only [State.chainConfig, hop, hnone, Bool.false_eq_true, if_false]
  cases hjoined : s.joined with
  | true => exact ⟨_, h.chainLeave, chainLeave_joined s, rfl⟩
  | false => exact ⟨s, h, hjoined, rfl⟩

end

/-! FW_UPDATE (R481). -/

section
variable {s : State} {q : Nat} {c : Cmd} {d img : List Nat} {P : State → Prop}

theorem fwUpdate_of_image (hlen : c.arg 8 4 ≤ 0x800000) (himg : s.fwImage c (some d) = some img) :
    s.fwUpdate q c (some d) = s.finish q c stOk (leBytes 4 (leAt img 4 4)) := by
  simp only [State.fwUpdate, if_neg (show ¬ 0x800000 < c.arg 8 4 by omega), himg, Option.isNone_some, Bool.false_eq_true,
    if_false]

/-- The command at the front is the next of its queue pair (R427). -/
theorem headCmd_of_front {op : Nat} (hfront : Front s q op c) : s.headCmd q = some c := by
  obtain ⟨-, hsq, hcur, hst, -, -, hroom, -⟩ := hfront
  simp [State.headCmd, hsq, hcur, hst, show ¬ 16 ≤ (s.qpAt q).cq.length by omega]

/-- FW_UPDATE of an image that passes writes it to the slot that does not run (R481). -/
theorem flashAfter_of_image (hfront : Front s q 0xF0 c) (hmode : s.cmdMode ∈ [Mode.config, Mode.idle]) (hlen : 12 ≤ c.args.length)
    (himg : s.fwImage c (some d) = some img) :
    s.flashAfter q (some d) = memWrite s.flash (slotBase (1 - s.runSlot)) img := by
  have hhead := headCmd_of_front hfront
  obtain ⟨-, -, -, -, -, -, -, hop, hpre, hready, hrank⟩ := hfront
  simp only [State.flashAfter, hhead, hop, hpre, hready, hrank, List.contains_iff_mem.2 hmode, hlen, himg]
  rfl

/-- FW_UPDATE of an image that passes, with a flash that is written (R481). -/
theorem fwUpdate_completes (hfront : Front s q 0xF0 c) (hmode : s.cmdMode ∈ [Mode.config, Mode.idle])
    (hlen : 12 ≤ c.args.length) (hsize : c.arg 8 4 ≤ 0x800000) (himg : s.fwImage c (some d) = some img)
    (hP : ∀ t, Completed s (s.taken q) t q c stOk (leBytes 4 (leAt img 4 4)) →
      P { t with flash := memWrite s.flash (slotBase (1 - s.runSlot)) img }) : Runs (.fwUpdate q (some d)) s P := by
  have hrun := (gate_pass (s.taken q) q c [.config, .idle] 12 (fun s => s.fwUpdate q c (some d)) hmode hlen).trans
    (fwUpdate_of_image hsize himg)
  have htake := take_of_front (f := fun s c => s.gate q c [.config, .idle] 12 (fun s => s.fwUpdate q c (some d))) hfront
  rw [hrun] at htake
  refine ⟨{ s.seal ((s.taken q).finish q c stOk (leBytes 4 (leAt img 4 4))) with
    flash := memWrite s.flash (slotBase (1 - s.runSlot)) img }, ?_, hP _ (Taken.refl.finish hfront _ _)⟩
  have hexec : exec (.fwUpdate q (some d)) s = onUnit q 32 s (s.answerFlash (s.take q 0xF0 (fun s c =>
      s.gate q c [.config, .idle] 12 (fun s => s.fwUpdate q c (some d)))) (s.flashAfter q (some d))) := rfl
  rw [hexec, onUnit_of_lt hfront.1, htake, flashAfter_of_image hfront hmode hlen himg]
  rfl

end
end Sys2Proof.Machine

namespace Sys2Proof.Proofs
open Sys2Proof Sys2Proof.Machine

/-- Settles O51: each row takes its command and then changes registers and its own unit's state alone, but for FW_UPDATE, whose
image goes to the flash. -/
theorem securityCommands : Obligations.SecurityCommands := by
  unfold Obligations.SecurityCommands
  refine ⟨fun s q c hfront hlen hword hcount hkeys => ?read, fun s q c hfront hlen hlow hhigh hcount => ?key,
    fun s q c hfront hmode hlen hword hretry hsupply hregion hclash hrefused hfailed hburn => ?burn,
    fun s q c hfront hmode hlen hregion hmagic hsupply hopen hburn => ?lock,
    fun s q c hfront hmode hlen hopen henable htime => ?diag,
    fun s q c hfront hmode hlen hgate hslot hop hzero htarget haction haction' _ _ hrate => ?inject,
    fun s q c hfront hmode hlen hop hindex hcount hcount' hheads hout => ?join,
    fun s q c hfront hmode hlen hop hfree => ?leave,
    fun s q c d img hfront hmode hlen hsize himg => ?firmware⟩
  case read =>
    obtain ⟨res, hrun, hvalue, hmarg⟩ := otpReadCmd_one (s := s.taken q) (q := q) hword hcount hkeys
    exact gated_completes rfl hfront (mem_modesAll _) hlen .refl hrun fun t ht =>
      ⟨ht.stillMem (taken_stillMem s q), res, ht.answered, hvalue, hmarg⟩
  case key =>
    have hrun := otpReadCmd_key (s := s.taken q) (q := q) hlow hhigh hcount
    exact gated_completes rfl hfront (mem_modesAll _) hlen .refl hrun fun t ht =>
      ⟨ht.stillMem (taken_stillMem s q), ht.answered⟩
  case burn =>
    have hrun := otpProgram_burns (s := s.taken q) (q := q) hword hretry hsupply hregion hclash hrefused hfailed hburn
    have hu := ((TakenStill.refl (s := s) (q := q)).otpWordSet c).otpBurn { word := c.arg 0 2, value := c.arg 8 8 }
    exact gated_waits rfl hfront (by rw [hmode]; decide) hlen hu.qp hrun fun ht =>
      ⟨ht, seal_otpBurn_burn .., rfl, seal_hold_stillMem hu.mem q c .otp⟩
  case lock =>
    obtain ⟨b, hlock, hrun⟩ := otpLockCmd_burns (s := s.taken q) (q := q) hregion hmagic hsupply hopen hburn
    have hu := ((TakenStill.refl (s := s) (q := q)).setFld (a := R.OTP_PROG_CTL) (by decide) F.OTP_PROG_CTL_REGION
      (c.arg 0 1)).otpBurn b
    exact gated_waits rfl hfront (by rw [hmode]; decide) hlen hu.qp hrun fun ht =>
      ⟨ht, ⟨b, seal_otpBurn_burn .., hlock⟩, rfl, seal_hold_stillMem hu.mem q c .otp⟩
  case diag =>
    have hrun := diagUnlock_opens (s := s.taken q) (q := q) hopen henable htime
    have hu := (TakenStill.refl (s := s) (q := q)).diagOpened c
    exact gated_completes rfl hfront hmode hlen hu.toTaken hrun fun t ht => 
      ⟨ht.stillMem hu.mem, ht.diag.trans (diagOpened_diag ..), ht.answered⟩
  case inject =>
    have hrun := faultInject_arms (s := s.taken q) (q := q) hgate hslot hop hzero htarget haction haction' hrate
    have hu := (TakenStill.refl (s := s) (q := q)).slotArmed c
    obtain ⟨harm, hkept, hrate', hcount⟩ := slotArmed_reads (c := c) (s.taken q) (by omega)
    have hblock {a : Nat} (h : 16 ≤ a / 0x100000) : a / 0x100000 ≠ 13 := by omega
    refine gated_completes rfl hfront hmode hlen hu.toTaken hrun fun t ht => ⟨ht.stillMem hu.mem, ht.answered,
      (ht.bit (hblock ?_) _).trans harm, (ht.fld (hblock ?_) _).trans hkept, (ht.getN (hblock ?_)).trans hrate',
      (ht.getN (hblock ?_)).trans hcount⟩
    all_goals
      simp only [R.FIJ_SLOT_CFG, R.FIJ_SLOT_RATE, R.FIJ_SLOT_COUNT]
      omega
  case join =>
    obtain ⟨ident, hrun⟩ := chainConfig_joins (s := s.taken q) (q := q) hop hindex hcount hcount' hheads hout
    obtain ⟨hjoined, hidx⟩ := chainWritten_reads (c := c) (s.taken q) hindex
    obtain ⟨hsync, hnumber, hcfg⟩ := chainJoin_reads ((s.taken q).chainWritten c) ident
    have hu : TakenStill q s (((s.taken q).chainWritten c).chainJoin ident) :=
      ((TakenStill.refl.modChain _).plain _ (by decide) _).chainJoin ident
    have hheads' : (((s.taken q).chainWritten c).chainJoin ident).chain.heads = c.arg 4 2 := hnumber
    generalize ((s.taken q).chainWritten c).chainJoin ident = u at hrun hu hsync hheads' hcfg
    exact gated_waits rfl hfront (by rw [hmode]; decide) hlen hu.qp hrun fun ht =>
      ⟨seal_hold_stillMem hu.mem q c .join, ht, (bit_congr _ hcfg).trans hjoined,
        (fld_congr _ hcfg).trans hidx, hsync, hheads'⟩
  case leave =>
    obtain ⟨u, hu, hout, hrun⟩ := chainConfig_leaves (c := c) (s := s.taken q) (q := q) hop hfree TakenStill.refl
    exact gated_completes rfl hfront (by rw [hmode]; decide) hlen hu.toTaken hrun fun t ht =>
      ⟨ht.stillMem hu.mem, ht.answered, (ht.bit (by decide) _).trans hout⟩
  case firmware =>
    have hmode' : s.cmdMode ∈ [Mode.config, Mode.idle] := by rcases hmode with h | h <;> rw [h] <;> decide
    refine fwUpdate_completes hfront hmode' hlen hsize himg fun t ht =>
      ⟨ht.stillMem (taken_stillMem s q), ht.answered, fun j hj => ?_, fun a ha => memWrite_out s.flash _ a img ha⟩
    have hin := memWrite_in s.flash _ (slotBase (1 - s.runSlot) + j) img (Nat.le_add_right _ j) (Nat.add_lt_add_left hj _)
    rwa [Nat.add_sub_cancel_left] at hin

end Sys2Proof.Proofs
end

section
/-! PROOFS. The widths that TRIM_SET saturates. -/
namespace Sys2Proof.Machine

/-- The answer of a row to the command at the front of its queue pair. -/
theorem exec_of_front {i : Instr} {s : State} {q op : Nat} {c : Cmd} {f : State → Cmd → State}
    (hrow : exec i s = onUnit q 32 s (s.answer (s.take q op f))) (hfront : Front s q op c) :
    exec i s = .next (s.seal (f (s.taken q) c)) := by
  have htake := take_of_front hfront f
  obtain ⟨hq, -⟩ := hfront
  rw [hrow, onUnit_of_lt hq, htake]
  rfl

/-- TRIM_SET of port 0 with a table whose first width is 5000. -/
def wideTrim : Cmd := { op := 0x31, args := [0, 4, 0, 0] ++ leBytes 2 5000 ++ List.replicate 30 0 }

/-- A device in PRINT with a head attached to port 0 whose trim runs, and `wideTrim` at the front of queue pair 0. -/
def wideTrimState : State :=
  State.setBit { State.reset with
      mode := .print, ports := [(0, { st := .attached, trimOn := true })],
      qps := [(0, { st := 1, mode := 1, sq := [wideTrim] })] }
    R.SYS_MODE F.SYS_MODE_READY true

/-- A width of 5000 saturates at 4095 and is stored as the 3000 that the port allows at most (R458, R258). -/
theorem wideTrimState_width :
    ((wideTrimState.taken 0).trimSet 0 wideTrim).getN (R.HP_TRIM_W 0 0) = 3000 + 500 * 65536 := by decide

end Sys2Proof.Machine

namespace Sys2Proof.Proofs
open Sys2Proof Sys2Proof.Machine

/-- Refutes O49: its clause of TRIM_SET takes a width of 16 bits modulo 4096 before it is clamped, where the model saturates it. A
width of 5000 is stored as 3000 and not as 904. -/
theorem not_headCommands : ¬ Obligations.HeadCommands := by
  unfold Obligations.HeadCommands
  rintro ⟨-, -, -, htrim, -⟩
  have hfront : Front wideTrimState 0 0x31 wideTrim := by decide
  obtain ⟨t, hrun, -, hwidth, -⟩ := htrim wideTrimState 0 wideTrim hfront (by decide) (by decide) (by decide) (by decide) (by decide)
  have hexec := exec_of_front (i := .trimSet 0) rfl hfront
  have hgate := gate_pass (wideTrimState.taken 0) 0 wideTrim [.config, .print, .service] 2 (fun s => s.trimSet 0 wideTrim)
    (by decide) (by decide)
  rw [hgate] at hexec
  rw [hexec] at hrun
  rw [← Host.Outcome.next.inj hrun] at hwidth
  have hclaim : clampN 500 3000 (wideTrim.arg 4 2 % 4096) + clampN 500 3000 (wideTrim.arg 20 2 % 4096) * 65536 =
      904 + 500 * 65536 := by decide
  have hport : wideTrim.arg 0 1 = 0 := by decide
  rw [hclaim, State.seal_getN, hport] at hwidth
  exact absurd (wideTrimState_width.symm.trans hwidth) (by decide)

end Sys2Proof.Proofs
end

section
/-! PROOFS. The Blotter's copy of a memory whose cells are not in order. -/
namespace Sys2Proof.Machine

/-- BLOTTER_READ of the first 8 bytes of Bank B to host address 4096. -/
def blotterHead : Cmd := { op := 0x70, args := leBytes 4 0 ++ leBytes 4 8 ++ leBytes 8 4096 }

/-- A device whose Bank B Mbox may read and holds its cells in falling order, byte 1 reading 1 and byte 0 reading 7, and
`blotterHead` at the front of queue pair 0. -/
def unorderedBankB : State :=
  ((State.setBit { State.reset with
      chip := [(bankB + 1, 1), (bankB, 7)], qps := [(0, { st := 1, mode := 1, sq := [blotterHead] })] }
    R.SYS_MODE F.SYS_MODE_READY true).setN (R.MEM_RGN_BASE 1 15) 0xF00007).setN (R.MEM_RGN_LIM 1 15) 0xFFF000

/-- The copy passes over the cell of byte 0, which stands behind that of byte 1. -/
theorem unorderedBankB_copied :
    cellGet byte0 ((unorderedBankB.taken 0).blotterRead 0 blotterHead {}).hostOut 4096 = 0 := by decide

end Sys2Proof.Machine

namespace Sys2Proof.Proofs
open Sys2Proof Sys2Proof.Machine

/-- Refutes O50: its clause of BLOTTER_READ does not ask that on-chip memory be in its canonical form. With the cells of Bank B in
falling order, a byte that reads 7 by itself is copied to host memory as 0. -/
theorem not_recordCommands : ¬ Obligations.RecordCommands := by
  unfold Obligations.RecordCommands
  rintro ⟨-, -, -, hread, -⟩
  have hfront : Front unorderedBankB 0 0x70 blotterHead := by decide
  obtain ⟨t, hrun, -, hbytes, -⟩ := hread unorderedBankB 0 blotterHead hfront (by decide) (by decide) (by decide) (by decide)
    (by decide) (by decide)
  have hexec := exec_of_front (i := .blotterRead 0 {}) rfl hfront
  have hgate := gate_pass (unorderedBankB.taken 0) 0 blotterHead modesAll 16 (fun s => s.blotterRead 0 blotterHead {})
    (mem_modesAll _) (by decide)
  rw [hgate] at hexec
  rw [hexec] at hrun
  have hbyte := hbytes 0 (by decide)
  have hclaim : cellGet byte0 unorderedBankB.chip (bankB + blotterHead.arg 0 4 + 0) = 7 := by decide
  have haddr : blotterHead.arg 8 8 + 0 = 4096 := by decide
  rw [← Host.Outcome.next.inj hrun, State.seal_hostOut, hclaim, haddr, unorderedBankB_copied] at hbyte
  exact absurd hbyte (by decide)

end Sys2Proof.Proofs
end
